-- ==== Sys2Proof/Word.lean ====
section
/-! DEFINITION. The two widths of the core (R2, 00_scope.md): 8-bit data and bus transfers, 16-bit pairs and
addresses. Their arithmetic is `BitVec`'s own, which wraps modulo the width as R3 asks. -/

namespace Sys2Proof

/-- An 8-bit register, flag byte or bus transfer (R2). -/
abbrev Byte := BitVec 8

/-- A 16-bit register pair, index register, memory address or port address (R2). -/
abbrev Word := BitVec 16

end Sys2Proof
end

