-- ==== Sys2Proof/Config.lean ====
section
/-! DEFINITION. What an implementation fixes (the parameters of R4, 00_scope.md, as plain data) and the free values of
the platform, which nothing in Lean can evaluate. -/

namespace Sys2Proof

/-- `EXT_TABLES` of R4: whether the CB and ED tables exist (spec decision D3). -/
inductive ExtTables where
  | z80Reference
  | unimplemented
  deriving DecidableEq, Repr

/-- What stands behind a range of memory addresses (R61, R67): RAM, ROM (a write call is made and stores nothing), or a
memory-mapped device. -/
inductive WindowKind where
  | ram
  | rom
  | device
  deriving DecidableEq, Repr

/-- A range of memory addresses, counted up from `base` modulo 65536. -/
structure Window where
  base : Word
  size : Nat
  kind : WindowKind
  deriving DecidableEq, Repr

/-- The tacts a Bus call adds: a constant amount, or whatever the platform answers from the address and the current
`tacts` (R66). -/
inductive BusDelay where
  | constant (tacts : Nat)
  | platform
  deriving DecidableEq, Repr

/-- The `Bus` of R4 as plain data (log 19): what stands at each memory address, and the tacts of the two interfaces. An
address of no window is RAM; where windows overlap the first one counts. -/
structure Bus where
  /-- ROM and memory-mapped devices (R61, R67). -/
  windows : List Window
  /-- Contended memory (R67): the tacts a memory call adds beyond those of R6, R7 and R8. -/
  memDelay : BusDelay
  /-- `Bus.portDelay` (R10, R66). -/
  portDelay : BusDelay
  deriving DecidableEq, Repr

/-- The default `Bus` (R67): flat 64 KiB RAM without side effects, `portDelay = 4`. -/
def Bus.default : Bus := { windows := [], memDelay := .constant 0, portDelay := .constant 4 }

/-- The tact constants of R4: one for each `Tick` that a rule writes. -/
structure TactConstants where
  /-- The opcode fetch (R8). -/
  fetch : Nat
  /-- A memory read or write (R6, R7). -/
  access : Nat
  /-- After the two reads of the indexed bit cycle (R166). -/
  indexedBit : Nat
  /-- `LD SP,HL` (R215). -/
  ldSpHl : Nat
  /-- `PUSH qq` (R216). -/
  push : Nat
  /-- `EX (SP),HL` between its reads and its writes (R221). -/
  exSpHlRead : Nat
  /-- `EX (SP),HL` after its writes (R221). -/
  exSpHlEnd : Nat
  /-- `INC (HL)` (R270). -/
  incAtHl : Nat
  /-- `DEC (HL)` (R272). -/
  decAtHl : Nat
  /-- `ADD HL,rr` (R281). -/
  addHl : Nat
  /-- `INC rr` (R282). -/
  incPair : Nat
  /-- `DEC rr` (R283). -/
  decPair : Nat
  /-- The taken-branch delay with gate-array contention (R322). -/
  takenDelay : Nat
  /-- Each of the five extra reads without it (R322). -/
  extraRead : Nat
  /-- `DJNZ` (R315). -/
  djnz : Nat
  /-- `CALL nn` (R317). -/
  call : Nat
  /-- `CALL cc,nn` taken (R318). -/
  callCc : Nat
  /-- `RET cc` (R320). -/
  retCc : Nat
  /-- `RST p` (R321). -/
  rst : Nat
  /-- The fixed penalty of `EA(d)` (R361). -/
  penalty : Nat
  /-- `LD SP,XY` (R365). -/
  ldSpXy : Nat
  /-- `PUSH XY` (R366). -/
  pushXy : Nat
  /-- `EX (SP),XY` between its reads and its writes (R368). -/
  exSpXyRead : Nat
  /-- `EX (SP),XY` after its writes (R368). -/
  exSpXyEnd : Nat
  /-- `ADD XY,rr` (R370). -/
  addXy : Nat
  /-- `INC XY` (R371). -/
  incXy : Nat
  /-- `DEC XY` (R372). -/
  decXy : Nat
  /-- `LD (XY+d),n` (R375). -/
  ldXydImm : Nat
  /-- `INC (XY+d)` (R376). -/
  incXyd : Nat
  /-- `DEC (XY+d)` (R377). -/
  decXyd : Nat
  /-- The memory forms of the bit table (R420). -/
  modifyAtHl : Nat
  /-- `BIT b,(HL)` (R430). -/
  bitAtHl : Nat
  /-- The indexed bit forms (R433). -/
  modifyXyd : Nat
  /-- `BIT b,(XY+d)` (R434). -/
  bitXyd : Nat
  /-- `SBC HL,rr` (R455). -/
  sbcHl : Nat
  /-- `ADC HL,rr` (R456). -/
  adcHl : Nat
  /-- `LD I,A` (R463). -/
  ldIA : Nat
  /-- `LD R,A` (R464). -/
  ldRA : Nat
  /-- `LD A,I` (R465). -/
  ldAI : Nat
  /-- `LD A,R` (R466). -/
  ldAR : Nat
  /-- `RRD` (R467). -/
  rrd : Nat
  /-- `RLD` (R468). -/
  rld : Nat
  /-- `LDI` and `LDD` (R469). -/
  blockLoad : Nat
  /-- The repeat step of `LDIR` and `LDDR` (R471). -/
  blockLoadRepeat : Nat
  /-- `CPI` and `CPD` (R473). -/
  blockCompare : Nat
  /-- The repeat step of `CPIR` and `CPDR` (R475). -/
  blockCompareRepeat : Nat
  /-- `INI` and `IND` (R477). -/
  blockIn : Nat
  /-- The repeat step of `INIR` and `INDR` (R479). -/
  blockInRepeat : Nat
  /-- `OUTI` and `OUTD` (R481). -/
  blockOut : Nat
  /-- The repeat step of `OTIR` and `OTDR` (R483). -/
  blockOutRepeat : Nat
  /-- A halted cycle (R523). -/
  halted : Nat
  /-- The maskable acknowledge before its push (R527). -/
  intPush : Nat
  /-- The maskable acknowledge after its push (R527). -/
  intJump : Nat
  /-- NMI entry before its push (R530). -/
  nmiPush : Nat
  /-- NMI entry after its push (R530). -/
  nmiJump : Nat
  deriving DecidableEq, Repr

/-- The tact constants "as written in each rule" (R4). -/
def TactConstants.written : TactConstants :=
  { fetch := 4, access := 3, indexedBit := 2, ldSpHl := 2, push := 1, exSpHlRead := 1, exSpHlEnd := 2, incAtHl := 1,
    decAtHl := 1, addHl := 7, incPair := 2, decPair := 2, takenDelay := 5, extraRead := 1, djnz := 1, call := 1,
    callCc := 1, retCc := 1, rst := 1, penalty := 5, ldSpXy := 2, pushXy := 1, exSpXyRead := 1, exSpXyEnd := 2,
    addXy := 7, incXy := 2, decXy := 2, ldXydImm := 2, incXyd := 1, decXyd := 1, modifyAtHl := 1, bitAtHl := 1,
    modifyXyd := 1, bitXyd := 1, sbcHl := 7, adcHl := 7, ldIA := 1, ldRA := 1, ldAI := 1, ldAR := 1, rrd := 4,
    rld := 4, blockLoad := 2, blockLoadRepeat := 5, blockCompare := 5, blockCompareRepeat := 5, blockIn := 1,
    blockInRepeat := 5, blockOut := 1, blockOutRepeat := 5, halted := 4, intPush := 1, intJump := 6, nmiPush := 1,
    nmiJump := 4 }

/-- The parameters of R4 that the model takes as arguments. A step reads them and never writes them. -/
structure Params where
  /-- `useGateArrayContention`, read by a taken relative jump only (R322). -/
  useGateArrayContention : Bool
  /-- `INT_VECTOR_BYTE`, read by the mode 2 acknowledge only (R527). -/
  intVectorByte : Byte
  /-- `EXT_TABLES`, read when a terminal CB or ED opcode begins (R164, R166). -/
  extTables : ExtTables
  /-- `Bus`, read by every memory and port access (R60 to R67). -/
  bus : Bus
  /-- The tact constants, read by every `Tick` of a rule (R5). -/
  tact : TactConstants
  /-- `VEC_INT`, the maskable target in modes 0 and 1 (R527). -/
  vecInt : Word
  /-- `VEC_NMI`, the NMI target (R530). -/
  vecNmi : Word
  deriving DecidableEq, Repr

/-- The value column of R4. `useGateArrayContention` is free there ("vectors give both"): true is a DESIGN CHOICE,
the convention of 95_test_vectors.md (log 6; unsafe for a claim about the call log alone). -/
def Params.default : Params :=
  { useGateArrayContention := true, intVectorByte := 0xFF#8, extTables := .z80Reference,
    bus := Bus.default, tact := .written, vecInt := 0x0038#16, vecNmi := 0x0066#16 }

/-- What a memory byte that nothing has written reads as: DESIGN CHOICE 0x00, the launch memory of
95_test_vectors.md (log 2; unsafe). -/
def Config.unlistedByte : Byte := 0x00#8

/-- FREE VALUE (log 4): what the environment answers to the `k`-th port read, at the 16-bit port address, when no
answer is held as an input ("a value chosen by the environment", R67). -/
opaque Config.portByte : Nat → Word → Byte

/-- FREE VALUE (log 19): what a memory-mapped device answers to a read at this address that is the `k`-th bus call of the
run (R60: "assumes nothing about the value returned except its width"). -/
opaque Config.deviceByte : Nat → Word → Byte

/-- FREE VALUE (log 5): the tacts the platform adds to a port access at this address and tact counter, under
`BusDelay.platform` ("may depend on the address and the current `tacts`", R66). -/
opaque Config.platformPortDelay : Word → Nat → Nat

/-- FREE VALUE (log 19): the same for a memory access, on a platform with contended memory (R67). -/
opaque Config.platformMemDelay : Word → Nat → Nat

end Sys2Proof
end

