-- ==== Sys2Proof/Syntax.lean ====
section
/-! DEFINITION. The instructions: the operand names of R93 to R98 (30_encoding.md), `Form` (one constructor for each
instruction rule of files 42 to 48, with the operands its opcode byte names), and `Instr` (one constructor for each mnemonic of
opcode_table.json, named after its row; LAWS.json maps each to its mnemonic). -/

namespace Sys2Proof

/-- 8-bit register codes 0 to 5 and 7 of R93. Code 6 is the memory operand and names no register. -/
inductive Reg8 where
  | b | c | d | e | h | l | a
  deriving DecidableEq, Repr

/-- The registers of R93 that an index prefix does not rename: every one but H and L. -/
inductive PlainReg where
  | b | c | d | e | a
  deriving DecidableEq, Repr

/-- 16-bit pair codes `rr` of R94. In the index table `hl` names the index register itself (R370). -/
inductive Pair where
  | bc | de | hl | sp
  deriving DecidableEq, Repr

/-- 16-bit pair codes `qq` of R95, for PUSH and POP. -/
inductive QPair where
  | bc | de | hl | af
  deriving DecidableEq, Repr

/-- Condition codes of R96. -/
inductive Cond where
  | nz | z | nc | c | po | pe | p | m
  deriving DecidableEq, Repr

/-- The four conditions a relative jump has (R96, R314). -/
inductive RelCond where
  | nz | z | nc | c
  deriving DecidableEq, Repr

/-- ALU operation codes of R97. -/
inductive AluOp where
  | add | adc | sub | sbc | and | xor | or | cp
  deriving DecidableEq, Repr

/-- Rotate and shift codes of R97. -/
inductive RotOp where
  | rlc | rrc | rl | rr | sla | sra | sll | srl
  deriving DecidableEq, Repr

/-- A three-bit field: a bit number `b`, a restart number, or a field of an opcode that has duplicates (R98, R102). -/
inductive BitNo where
  | b0 | b1 | b2 | b3 | b4 | b5 | b6 | b7
  deriving DecidableEq, Repr

/-- The index register a `DD` or `FD` prefix selects (R360). -/
inductive XY where
  | ix | iy
  deriving DecidableEq, Repr

/-- The halves of an index register (R23). -/
inductive Half where
  | high | low
  deriving DecidableEq, Repr

/-- The interrupt mode (R35). -/
inductive IntMode where
  | im0 | im1 | im2
  deriving DecidableEq, Repr

/-- The prefix-decode latch (R38). -/
inductive PrefixMode where
  | none | bit | extended
  deriving DecidableEq, Repr

/-- The index latch (R39). -/
inductive IndexMode where
  | none | ix | iy
  deriving DecidableEq, Repr


/-- An instruction by its rule and the operands its opcode byte names: what the decoder reads (R99 to R103). Operand
bytes (n, nn, d, e) are no part of it: the meaning reads them as it runs (R164). -/
inductive Form where
  /-- `LD r,r'`, R201. -/
  | ldRegReg (r : Reg8) (q : Reg8)
  /-- `LD r,n`, R202. -/
  | ldRegImm (r : Reg8)
  /-- `LD r,(HL)`, R203. -/
  | ldRegAtHl (r : Reg8)
  /-- `LD (HL),r`, R204. -/
  | ldAtHlReg (r : Reg8)
  /-- `LD (HL),n`, R205. -/
  | ldAtHlImm
  /-- `LD A,(BC)`, R206. -/
  | ldAAtBc
  /-- `LD A,(DE)`, R207. -/
  | ldAAtDe
  /-- `LD A,(nn)`, R208. -/
  | ldAAtNn
  /-- `LD (BC),A`, R209. -/
  | ldAtBcA
  /-- `LD (DE),A`, R210. -/
  | ldAtDeA
  /-- `LD (nn),A`, R211. -/
  | ldAtNnA
  /-- `LD rr,nn`, R212. -/
  | ldPairImm (p : Pair)
  /-- `LD HL,(nn)`, R213. -/
  | ldHlAtNn
  /-- `LD (nn),HL`, R214. -/
  | ldAtNnHl
  /-- `LD SP,HL`, R215. -/
  | ldSpHl
  /-- `PUSH qq`, R216. -/
  | push (p : QPair)
  /-- `POP qq`, R217. -/
  | pop (p : QPair)
  /-- `EX DE,HL`, R218. -/
  | exDeHl
  /-- `EX AF,AF'`, R219. -/
  | exAf
  /-- `EXX`, R220. -/
  | exx
  /-- `EX (SP),HL`, R221. -/
  | exSpHl
  /-- `alu r`, R260. -/
  | aluReg (op : AluOp) (r : Reg8)
  /-- `alu (HL)`, R260. -/
  | aluAtHl (op : AluOp)
  /-- `alu n`, R260. -/
  | aluImm (op : AluOp)
  /-- `INC r`, R269. -/
  | incReg (r : Reg8)
  /-- `INC (HL)`, R270. -/
  | incAtHl
  /-- `DEC r`, R271. -/
  | decReg (r : Reg8)
  /-- `DEC (HL)`, R272. -/
  | decAtHl
  /-- `DAA`, R273. -/
  | daa
  /-- `CPL`, R274. -/
  | cpl
  /-- `SCF`, R275. -/
  | scf
  /-- `CCF`, R276. -/
  | ccf
  /-- `RLCA`, R277. -/
  | rlca
  /-- `RRCA`, R278. -/
  | rrca
  /-- `RLA`, R279. -/
  | rla
  /-- `RRA`, R280. -/
  | rra
  /-- `ADD HL,rr`, R281. -/
  | addHl (p : Pair)
  /-- `INC rr`, R282. -/
  | incPair (p : Pair)
  /-- `DEC rr`, R283. -/
  | decPair (p : Pair)
  /-- `JP nn`, R311. -/
  | jp
  /-- `JP cc,nn`, R312. -/
  | jpCc (cc : Cond)
  /-- `JP (HL)`, R316. -/
  | jpHl
  /-- `JR e`, R313. -/
  | jr
  /-- `JR cc,e`, R314. -/
  | jrCc (cc : RelCond)
  /-- `DJNZ e`, R315. -/
  | djnz
  /-- `CALL nn`, R317. -/
  | call
  /-- `CALL cc,nn`, R318. -/
  | callCc (cc : Cond)
  /-- `RET`, R319. -/
  | ret
  /-- `RET cc`, R320. -/
  | retCc (cc : Cond)
  /-- `RST p`, p = y * 8, R321. -/
  | rst (y : BitNo)
  /-- `NOP`, R340. -/
  | nop
  /-- `HALT`, R341. -/
  | halt
  /-- `DI`, R342. -/
  | di
  /-- `EI`, R343. -/
  | ei
  /-- `IN A,(n)`, R344. -/
  | inA
  /-- `OUT (n),A`, R345. -/
  | outA
  /-- the prefix byte `CB`, R162. -/
  | prefixCb
  /-- the prefix byte `DD`, R162. -/
  | prefixDd
  /-- the prefix byte `ED`, R162. -/
  | prefixEd
  /-- the prefix byte `FD`, R162. -/
  | prefixFd
  /-- `LD XY,nn`, R362. -/
  | ldXyImm (x : XY)
  /-- `LD (nn),XY`, R363. -/
  | ldAtNnXy (x : XY)
  /-- `LD XY,(nn)`, R364. -/
  | ldXyAtNn (x : XY)
  /-- `LD SP,XY`, R365. -/
  | ldSpXy (x : XY)
  /-- `PUSH XY`, R366. -/
  | pushXy (x : XY)
  /-- `POP XY`, R367. -/
  | popXy (x : XY)
  /-- `EX (SP),XY`, R368. -/
  | exSpXy (x : XY)
  /-- `JP (XY)`, R369. -/
  | jpXy (x : XY)
  /-- `ADD XY,rr`, where the pair code 2 names XY itself, R370. -/
  | addXy (x : XY) (p : Pair)
  /-- `INC XY`, R371. -/
  | incXy (x : XY)
  /-- `DEC XY`, R372. -/
  | decXy (x : XY)
  /-- `LD r,(XY+d)`, R373. -/
  | ldRegXyd (x : XY) (r : Reg8)
  /-- `LD (XY+d),r`, R374. -/
  | ldXydReg (x : XY) (r : Reg8)
  /-- `LD (XY+d),n`, R375. -/
  | ldXydImm (x : XY)
  /-- `INC (XY+d)`, R376. -/
  | incXyd (x : XY)
  /-- `DEC (XY+d)`, R377. -/
  | decXyd (x : XY)
  /-- `alu (XY+d)`, R378. -/
  | aluXyd (x : XY) (op : AluOp)
  /-- `LD XYH,n` and `LD XYL,n`, R379. -/
  | ldHalfImm (x : XY) (h : Half)
  /-- `LD r,XYH` and `LD r,XYL`, R379. -/
  | ldRegHalf (x : XY) (r : PlainReg) (h : Half)
  /-- `LD XYH,r` and `LD XYL,r`, R379. -/
  | ldHalfReg (x : XY) (h : Half) (r : PlainReg)
  /-- loads between the halves of one index register, R379. -/
  | ldHalfHalf (x : XY) (h : Half) (k : Half)
  /-- `INC XYH` and `INC XYL`, R380. -/
  | incHalf (x : XY) (h : Half)
  /-- `DEC XYH` and `DEC XYL`, R380. -/
  | decHalf (x : XY) (h : Half)
  /-- `alu XYH` and `alu XYL`, R381. -/
  | aluHalf (x : XY) (op : AluOp) (h : Half)
  /-- rotate or shift of a register, R421 to R428. -/
  | rotReg (k : RotOp) (r : Reg8)
  /-- rotate or shift of the byte at HL, R421 to R428. -/
  | rotAtHl (k : RotOp)
  /-- `BIT b,r`, R429. -/
  | bitReg (b : BitNo) (r : Reg8)
  /-- `BIT b,(HL)`, R430. -/
  | bitAtHl (b : BitNo)
  /-- `RES b,r`, R431. -/
  | resReg (b : BitNo) (r : Reg8)
  /-- `RES b,(HL)`, R431. -/
  | resAtHl (b : BitNo)
  /-- `SET b,r`, R432. -/
  | setReg (b : BitNo) (r : Reg8)
  /-- `SET b,(HL)`, R432. -/
  | setAtHl (b : BitNo)
  /-- indexed rotate or shift, memory only, R433. -/
  | rotXyd (x : XY) (k : RotOp)
  /-- indexed rotate or shift with the register copy, R433. -/
  | rotXydCopy (x : XY) (k : RotOp) (r : Reg8)
  /-- `BIT b,(XY+d)`; `z` is the opcode's low field, which changes nothing, R434. -/
  | bitXyd (x : XY) (b : BitNo) (z : BitNo)
  /-- `RES b,(XY+d)`, R433. -/
  | resXyd (x : XY) (b : BitNo)
  /-- `RES b,(XY+d)` with the register copy, R433. -/
  | resXydCopy (x : XY) (b : BitNo) (r : Reg8)
  /-- `SET b,(XY+d)`, R433. -/
  | setXyd (x : XY) (b : BitNo)
  /-- `SET b,(XY+d)` with the register copy, R433. -/
  | setXydCopy (x : XY) (b : BitNo) (r : Reg8)
  /-- `IN r,(C)`, R451. -/
  | inReg (r : Reg8)
  /-- `IN (C)`, R452. -/
  | inFlags
  /-- `OUT (C),r`, R453. -/
  | outReg (r : Reg8)
  /-- `OUT (C),0`, R454. -/
  | outZero
  /-- `SBC HL,rr`, R455. -/
  | sbcHl (p : Pair)
  /-- `ADC HL,rr`, R456. -/
  | adcHl (p : Pair)
  /-- `LD (nn),rr` of the extended table, R457. -/
  | ldAtNnPair (p : Pair)
  /-- `LD rr,(nn)` of the extended table, R458. -/
  | ldPairAtNn (p : Pair)
  /-- `NEG`; `y` is the opcode's middle field (0 is the documented 44), R459. -/
  | neg (y : BitNo)
  /-- `RETN`; `y` is the opcode's middle field (0 is the documented 45), R460. -/
  | retn (y : BitNo)
  /-- `RETI`, R461. -/
  | reti
  /-- `IM m`; `y` is the opcode's middle field, R462. -/
  | im (m : IntMode) (y : BitNo)
  /-- `LD I,A`, R463. -/
  | ldIA
  /-- `LD R,A`, R464. -/
  | ldRA
  /-- `LD A,I`, R465. -/
  | ldAI
  /-- `LD A,R`, R466. -/
  | ldAR
  /-- `RRD`, R467. -/
  | rrd
  /-- `RLD`, R468. -/
  | rld
  /-- `LDI`, R469. -/
  | ldi
  /-- `LDD`, R470. -/
  | ldd
  /-- `LDIR`, R471. -/
  | ldir
  /-- `LDDR`, R472. -/
  | lddr
  /-- `CPI`, R473. -/
  | cpi
  /-- `CPD`, R474. -/
  | cpd
  /-- `CPIR`, R475. -/
  | cpir
  /-- `CPDR`, R476. -/
  | cpdr
  /-- `INI`, R477. -/
  | ini
  /-- `IND`, R478. -/
  | ind
  /-- `INIR`, R479. -/
  | inir
  /-- `INDR`, R480. -/
  | indr
  /-- `OUTI`, R481. -/
  | outi
  /-- `OUTD`, R482. -/
  | outd
  /-- `OTIR`, R483. -/
  | otir
  /-- `OTDR`, R484. -/
  | otdr
  /-- `NOP (ED)`; `op` is the undefined opcode, R485. -/
  | nopEd (op : Byte)
  deriving DecidableEq, Repr

/-- The instructions, one constructor a mnemonic of opcode_table.json, with the opcode fields that vary within its row. Two more, the `_ed`
ones, are the extended table's duplicates of `LD (nn),HL` and `LD HL,(nn)`. -/
inductive Instr where
  | bit_0_at_ixd (z : BitNo)
  | bit_1_at_ixd (z : BitNo)
  | bit_2_at_ixd (z : BitNo)
  | bit_3_at_ixd (z : BitNo)
  | bit_4_at_ixd (z : BitNo)
  | bit_5_at_ixd (z : BitNo)
  | bit_6_at_ixd (z : BitNo)
  | bit_7_at_ixd (z : BitNo)
  | bit_0_at_iyd (z : BitNo)
  | bit_1_at_iyd (z : BitNo)
  | bit_2_at_iyd (z : BitNo)
  | bit_3_at_iyd (z : BitNo)
  | bit_4_at_iyd (z : BitNo)
  | bit_5_at_iyd (z : BitNo)
  | bit_6_at_iyd (z : BitNo)
  | bit_7_at_iyd (z : BitNo)
  | nop_ed (op : Byte)
  | neg (y : BitNo)
  | retn (y : BitNo)
  | im_0 (y : BitNo)
  | im_1 (y : BitNo)
  | im_2 (y : BitNo)
  | nop
  | ld_bc_nn
  | ld_at_bc_a
  | inc_bc
  | inc_b
  | dec_b
  | ld_b_n
  | rlca
  | ex_af_af
  | add_hl_bc
  | ld_a_at_bc
  | dec_bc
  | inc_c
  | dec_c
  | ld_c_n
  | rrca
  | djnz_e
  | ld_de_nn
  | ld_at_de_a
  | inc_de
  | inc_d
  | dec_d
  | ld_d_n
  | rla
  | jr_e
  | add_hl_de
  | ld_a_at_de
  | dec_de
  | inc_e
  | dec_e
  | ld_e_n
  | rra
  | jr_nz_e
  | ld_hl_nn
  | ld_at_nn_hl
  | inc_hl
  | inc_h
  | dec_h
  | ld_h_n
  | daa
  | jr_z_e
  | add_hl_hl
  | ld_hl_at_nn
  | dec_hl
  | inc_l
  | dec_l
  | ld_l_n
  | cpl
  | jr_nc_e
  | ld_sp_nn
  | ld_at_nn_a
  | inc_sp
  | inc_at_hl
  | dec_at_hl
  | ld_at_hl_n
  | scf
  | jr_c_e
  | add_hl_sp
  | ld_a_at_nn
  | dec_sp
  | inc_a
  | dec_a
  | ld_a_n
  | ccf
  | ld_b_b
  | ld_b_c
  | ld_b_d
  | ld_b_e
  | ld_b_h
  | ld_b_l
  | ld_b_at_hl
  | ld_b_a
  | ld_c_b
  | ld_c_c
  | ld_c_d
  | ld_c_e
  | ld_c_h
  | ld_c_l
  | ld_c_at_hl
  | ld_c_a
  | ld_d_b
  | ld_d_c
  | ld_d_d
  | ld_d_e
  | ld_d_h
  | ld_d_l
  | ld_d_at_hl
  | ld_d_a
  | ld_e_b
  | ld_e_c
  | ld_e_d
  | ld_e_e
  | ld_e_h
  | ld_e_l
  | ld_e_at_hl
  | ld_e_a
  | ld_h_b
  | ld_h_c
  | ld_h_d
  | ld_h_e
  | ld_h_h
  | ld_h_l
  | ld_h_at_hl
  | ld_h_a
  | ld_l_b
  | ld_l_c
  | ld_l_d
  | ld_l_e
  | ld_l_h
  | ld_l_l
  | ld_l_at_hl
  | ld_l_a
  | ld_at_hl_b
  | ld_at_hl_c
  | ld_at_hl_d
  | ld_at_hl_e
  | ld_at_hl_h
  | ld_at_hl_l
  | halt
  | ld_at_hl_a
  | ld_a_b
  | ld_a_c
  | ld_a_d
  | ld_a_e
  | ld_a_h
  | ld_a_l
  | ld_a_at_hl
  | ld_a_a
  | add_a_b
  | add_a_c
  | add_a_d
  | add_a_e
  | add_a_h
  | add_a_l
  | add_a_at_hl
  | add_a_a
  | adc_a_b
  | adc_a_c
  | adc_a_d
  | adc_a_e
  | adc_a_h
  | adc_a_l
  | adc_a_at_hl
  | adc_a_a
  | sub_b
  | sub_c
  | sub_d
  | sub_e
  | sub_h
  | sub_l
  | sub_at_hl
  | sub_a
  | sbc_a_b
  | sbc_a_c
  | sbc_a_d
  | sbc_a_e
  | sbc_a_h
  | sbc_a_l
  | sbc_a_at_hl
  | sbc_a_a
  | and_b
  | and_c
  | and_d
  | and_e
  | and_h
  | and_l
  | and_at_hl
  | and_a
  | xor_b
  | xor_c
  | xor_d
  | xor_e
  | xor_h
  | xor_l
  | xor_at_hl
  | xor_a
  | or_b
  | or_c
  | or_d
  | or_e
  | or_h
  | or_l
  | or_at_hl
  | or_a
  | cp_b
  | cp_c
  | cp_d
  | cp_e
  | cp_h
  | cp_l
  | cp_at_hl
  | cp_a
  | ret_nz
  | pop_bc
  | jp_nz_nn
  | jp_nn
  | call_nz_nn
  | push_bc
  | add_a_n
  | rst_00h
  | ret_z
  | ret
  | jp_z_nn
  | prefix_cb
  | call_z_nn
  | call_nn
  | adc_a_n
  | rst_08h
  | ret_nc
  | pop_de
  | jp_nc_nn
  | out_at_n_a
  | call_nc_nn
  | push_de
  | sub_n
  | rst_10h
  | ret_c
  | exx
  | jp_c_nn
  | in_a_at_n
  | call_c_nn
  | prefix_dd
  | sbc_a_n
  | rst_18h
  | ret_po
  | pop_hl
  | jp_po_nn
  | ex_at_sp_hl
  | call_po_nn
  | push_hl
  | and_n
  | rst_20h
  | ret_pe
  | jp_at_hl
  | jp_pe_nn
  | ex_de_hl
  | call_pe_nn
  | prefix_ed
  | xor_n
  | rst_28h
  | ret_p
  | pop_af
  | jp_p_nn
  | di
  | call_p_nn
  | push_af
  | or_n
  | rst_30h
  | ret_m
  | ld_sp_hl
  | jp_m_nn
  | ei
  | call_m_nn
  | prefix_fd
  | cp_n
  | rst_38h
  | add_ix_bc
  | add_ix_de
  | ld_ix_nn
  | ld_at_nn_ix
  | inc_ix
  | inc_ixh
  | dec_ixh
  | ld_ixh_n
  | add_ix_ix
  | ld_ix_at_nn
  | dec_ix
  | inc_ixl
  | dec_ixl
  | ld_ixl_n
  | inc_at_ixd
  | dec_at_ixd
  | ld_at_ixd_n
  | add_ix_sp
  | ld_b_ixh
  | ld_b_ixl
  | ld_b_at_ixd
  | ld_c_ixh
  | ld_c_ixl
  | ld_c_at_ixd
  | ld_d_ixh
  | ld_d_ixl
  | ld_d_at_ixd
  | ld_e_ixh
  | ld_e_ixl
  | ld_e_at_ixd
  | ld_ixh_b
  | ld_ixh_c
  | ld_ixh_d
  | ld_ixh_e
  | ld_ixh_ixh
  | ld_ixh_ixl
  | ld_h_at_ixd
  | ld_ixh_a
  | ld_ixl_b
  | ld_ixl_c
  | ld_ixl_d
  | ld_ixl_e
  | ld_ixl_ixh
  | ld_ixl_ixl
  | ld_l_at_ixd
  | ld_ixl_a
  | ld_at_ixd_b
  | ld_at_ixd_c
  | ld_at_ixd_d
  | ld_at_ixd_e
  | ld_at_ixd_h
  | ld_at_ixd_l
  | ld_at_ixd_a
  | ld_a_ixh
  | ld_a_ixl
  | ld_a_at_ixd
  | add_a_ixh
  | add_a_ixl
  | add_a_at_ixd
  | adc_a_ixh
  | adc_a_ixl
  | adc_a_at_ixd
  | sub_ixh
  | sub_ixl
  | sub_at_ixd
  | sbc_a_ixh
  | sbc_a_ixl
  | sbc_a_at_ixd
  | and_ixh
  | and_ixl
  | and_at_ixd
  | xor_ixh
  | xor_ixl
  | xor_at_ixd
  | or_ixh
  | or_ixl
  | or_at_ixd
  | cp_ixh
  | cp_ixl
  | cp_at_ixd
  | pop_ix
  | ex_at_sp_ix
  | push_ix
  | jp_at_ix
  | ld_sp_ix
  | add_iy_bc
  | add_iy_de
  | ld_iy_nn
  | ld_at_nn_iy
  | inc_iy
  | inc_iyh
  | dec_iyh
  | ld_iyh_n
  | add_iy_iy
  | ld_iy_at_nn
  | dec_iy
  | inc_iyl
  | dec_iyl
  | ld_iyl_n
  | inc_at_iyd
  | dec_at_iyd
  | ld_at_iyd_n
  | add_iy_sp
  | ld_b_iyh
  | ld_b_iyl
  | ld_b_at_iyd
  | ld_c_iyh
  | ld_c_iyl
  | ld_c_at_iyd
  | ld_d_iyh
  | ld_d_iyl
  | ld_d_at_iyd
  | ld_e_iyh
  | ld_e_iyl
  | ld_e_at_iyd
  | ld_iyh_b
  | ld_iyh_c
  | ld_iyh_d
  | ld_iyh_e
  | ld_iyh_iyh
  | ld_iyh_iyl
  | ld_h_at_iyd
  | ld_iyh_a
  | ld_iyl_b
  | ld_iyl_c
  | ld_iyl_d
  | ld_iyl_e
  | ld_iyl_iyh
  | ld_iyl_iyl
  | ld_l_at_iyd
  | ld_iyl_a
  | ld_at_iyd_b
  | ld_at_iyd_c
  | ld_at_iyd_d
  | ld_at_iyd_e
  | ld_at_iyd_h
  | ld_at_iyd_l
  | ld_at_iyd_a
  | ld_a_iyh
  | ld_a_iyl
  | ld_a_at_iyd
  | add_a_iyh
  | add_a_iyl
  | add_a_at_iyd
  | adc_a_iyh
  | adc_a_iyl
  | adc_a_at_iyd
  | sub_iyh
  | sub_iyl
  | sub_at_iyd
  | sbc_a_iyh
  | sbc_a_iyl
  | sbc_a_at_iyd
  | and_iyh
  | and_iyl
  | and_at_iyd
  | xor_iyh
  | xor_iyl
  | xor_at_iyd
  | or_iyh
  | or_iyl
  | or_at_iyd
  | cp_iyh
  | cp_iyl
  | cp_at_iyd
  | pop_iy
  | ex_at_sp_iy
  | push_iy
  | jp_at_iy
  | ld_sp_iy
  | rlc_b
  | rlc_c
  | rlc_d
  | rlc_e
  | rlc_h
  | rlc_l
  | rlc_at_hl
  | rlc_a
  | rrc_b
  | rrc_c
  | rrc_d
  | rrc_e
  | rrc_h
  | rrc_l
  | rrc_at_hl
  | rrc_a
  | rl_b
  | rl_c
  | rl_d
  | rl_e
  | rl_h
  | rl_l
  | rl_at_hl
  | rl_a
  | rr_b
  | rr_c
  | rr_d
  | rr_e
  | rr_h
  | rr_l
  | rr_at_hl
  | rr_a
  | sla_b
  | sla_c
  | sla_d
  | sla_e
  | sla_h
  | sla_l
  | sla_at_hl
  | sla_a
  | sra_b
  | sra_c
  | sra_d
  | sra_e
  | sra_h
  | sra_l
  | sra_at_hl
  | sra_a
  | sll_b
  | sll_c
  | sll_d
  | sll_e
  | sll_h
  | sll_l
  | sll_at_hl
  | sll_a
  | srl_b
  | srl_c
  | srl_d
  | srl_e
  | srl_h
  | srl_l
  | srl_at_hl
  | srl_a
  | bit_0_b
  | bit_0_c
  | bit_0_d
  | bit_0_e
  | bit_0_h
  | bit_0_l
  | bit_0_at_hl
  | bit_0_a
  | bit_1_b
  | bit_1_c
  | bit_1_d
  | bit_1_e
  | bit_1_h
  | bit_1_l
  | bit_1_at_hl
  | bit_1_a
  | bit_2_b
  | bit_2_c
  | bit_2_d
  | bit_2_e
  | bit_2_h
  | bit_2_l
  | bit_2_at_hl
  | bit_2_a
  | bit_3_b
  | bit_3_c
  | bit_3_d
  | bit_3_e
  | bit_3_h
  | bit_3_l
  | bit_3_at_hl
  | bit_3_a
  | bit_4_b
  | bit_4_c
  | bit_4_d
  | bit_4_e
  | bit_4_h
  | bit_4_l
  | bit_4_at_hl
  | bit_4_a
  | bit_5_b
  | bit_5_c
  | bit_5_d
  | bit_5_e
  | bit_5_h
  | bit_5_l
  | bit_5_at_hl
  | bit_5_a
  | bit_6_b
  | bit_6_c
  | bit_6_d
  | bit_6_e
  | bit_6_h
  | bit_6_l
  | bit_6_at_hl
  | bit_6_a
  | bit_7_b
  | bit_7_c
  | bit_7_d
  | bit_7_e
  | bit_7_h
  | bit_7_l
  | bit_7_at_hl
  | bit_7_a
  | res_0_b
  | res_0_c
  | res_0_d
  | res_0_e
  | res_0_h
  | res_0_l
  | res_0_at_hl
  | res_0_a
  | res_1_b
  | res_1_c
  | res_1_d
  | res_1_e
  | res_1_h
  | res_1_l
  | res_1_at_hl
  | res_1_a
  | res_2_b
  | res_2_c
  | res_2_d
  | res_2_e
  | res_2_h
  | res_2_l
  | res_2_at_hl
  | res_2_a
  | res_3_b
  | res_3_c
  | res_3_d
  | res_3_e
  | res_3_h
  | res_3_l
  | res_3_at_hl
  | res_3_a
  | res_4_b
  | res_4_c
  | res_4_d
  | res_4_e
  | res_4_h
  | res_4_l
  | res_4_at_hl
  | res_4_a
  | res_5_b
  | res_5_c
  | res_5_d
  | res_5_e
  | res_5_h
  | res_5_l
  | res_5_at_hl
  | res_5_a
  | res_6_b
  | res_6_c
  | res_6_d
  | res_6_e
  | res_6_h
  | res_6_l
  | res_6_at_hl
  | res_6_a
  | res_7_b
  | res_7_c
  | res_7_d
  | res_7_e
  | res_7_h
  | res_7_l
  | res_7_at_hl
  | res_7_a
  | set_0_b
  | set_0_c
  | set_0_d
  | set_0_e
  | set_0_h
  | set_0_l
  | set_0_at_hl
  | set_0_a
  | set_1_b
  | set_1_c
  | set_1_d
  | set_1_e
  | set_1_h
  | set_1_l
  | set_1_at_hl
  | set_1_a
  | set_2_b
  | set_2_c
  | set_2_d
  | set_2_e
  | set_2_h
  | set_2_l
  | set_2_at_hl
  | set_2_a
  | set_3_b
  | set_3_c
  | set_3_d
  | set_3_e
  | set_3_h
  | set_3_l
  | set_3_at_hl
  | set_3_a
  | set_4_b
  | set_4_c
  | set_4_d
  | set_4_e
  | set_4_h
  | set_4_l
  | set_4_at_hl
  | set_4_a
  | set_5_b
  | set_5_c
  | set_5_d
  | set_5_e
  | set_5_h
  | set_5_l
  | set_5_at_hl
  | set_5_a
  | set_6_b
  | set_6_c
  | set_6_d
  | set_6_e
  | set_6_h
  | set_6_l
  | set_6_at_hl
  | set_6_a
  | set_7_b
  | set_7_c
  | set_7_d
  | set_7_e
  | set_7_h
  | set_7_l
  | set_7_at_hl
  | set_7_a
  | rlc_at_ixd_b
  | rlc_at_ixd_c
  | rlc_at_ixd_d
  | rlc_at_ixd_e
  | rlc_at_ixd_h
  | rlc_at_ixd_l
  | rlc_at_ixd
  | rlc_at_ixd_a
  | rrc_at_ixd_b
  | rrc_at_ixd_c
  | rrc_at_ixd_d
  | rrc_at_ixd_e
  | rrc_at_ixd_h
  | rrc_at_ixd_l
  | rrc_at_ixd
  | rrc_at_ixd_a
  | rl_at_ixd_b
  | rl_at_ixd_c
  | rl_at_ixd_d
  | rl_at_ixd_e
  | rl_at_ixd_h
  | rl_at_ixd_l
  | rl_at_ixd
  | rl_at_ixd_a
  | rr_at_ixd_b
  | rr_at_ixd_c
  | rr_at_ixd_d
  | rr_at_ixd_e
  | rr_at_ixd_h
  | rr_at_ixd_l
  | rr_at_ixd
  | rr_at_ixd_a
  | sla_at_ixd_b
  | sla_at_ixd_c
  | sla_at_ixd_d
  | sla_at_ixd_e
  | sla_at_ixd_h
  | sla_at_ixd_l
  | sla_at_ixd
  | sla_at_ixd_a
  | sra_at_ixd_b
  | sra_at_ixd_c
  | sra_at_ixd_d
  | sra_at_ixd_e
  | sra_at_ixd_h
  | sra_at_ixd_l
  | sra_at_ixd
  | sra_at_ixd_a
  | sll_at_ixd_b
  | sll_at_ixd_c
  | sll_at_ixd_d
  | sll_at_ixd_e
  | sll_at_ixd_h
  | sll_at_ixd_l
  | sll_at_ixd
  | sll_at_ixd_a
  | srl_at_ixd_b
  | srl_at_ixd_c
  | srl_at_ixd_d
  | srl_at_ixd_e
  | srl_at_ixd_h
  | srl_at_ixd_l
  | srl_at_ixd
  | srl_at_ixd_a
  | res_0_at_ixd_b
  | res_0_at_ixd_c
  | res_0_at_ixd_d
  | res_0_at_ixd_e
  | res_0_at_ixd_h
  | res_0_at_ixd_l
  | res_0_at_ixd
  | res_0_at_ixd_a
  | res_1_at_ixd_b
  | res_1_at_ixd_c
  | res_1_at_ixd_d
  | res_1_at_ixd_e
  | res_1_at_ixd_h
  | res_1_at_ixd_l
  | res_1_at_ixd
  | res_1_at_ixd_a
  | res_2_at_ixd_b
  | res_2_at_ixd_c
  | res_2_at_ixd_d
  | res_2_at_ixd_e
  | res_2_at_ixd_h
  | res_2_at_ixd_l
  | res_2_at_ixd
  | res_2_at_ixd_a
  | res_3_at_ixd_b
  | res_3_at_ixd_c
  | res_3_at_ixd_d
  | res_3_at_ixd_e
  | res_3_at_ixd_h
  | res_3_at_ixd_l
  | res_3_at_ixd
  | res_3_at_ixd_a
  | res_4_at_ixd_b
  | res_4_at_ixd_c
  | res_4_at_ixd_d
  | res_4_at_ixd_e
  | res_4_at_ixd_h
  | res_4_at_ixd_l
  | res_4_at_ixd
  | res_4_at_ixd_a
  | res_5_at_ixd_b
  | res_5_at_ixd_c
  | res_5_at_ixd_d
  | res_5_at_ixd_e
  | res_5_at_ixd_h
  | res_5_at_ixd_l
  | res_5_at_ixd
  | res_5_at_ixd_a
  | res_6_at_ixd_b
  | res_6_at_ixd_c
  | res_6_at_ixd_d
  | res_6_at_ixd_e
  | res_6_at_ixd_h
  | res_6_at_ixd_l
  | res_6_at_ixd
  | res_6_at_ixd_a
  | res_7_at_ixd_b
  | res_7_at_ixd_c
  | res_7_at_ixd_d
  | res_7_at_ixd_e
  | res_7_at_ixd_h
  | res_7_at_ixd_l
  | res_7_at_ixd
  | res_7_at_ixd_a
  | set_0_at_ixd_b
  | set_0_at_ixd_c
  | set_0_at_ixd_d
  | set_0_at_ixd_e
  | set_0_at_ixd_h
  | set_0_at_ixd_l
  | set_0_at_ixd
  | set_0_at_ixd_a
  | set_1_at_ixd_b
  | set_1_at_ixd_c
  | set_1_at_ixd_d
  | set_1_at_ixd_e
  | set_1_at_ixd_h
  | set_1_at_ixd_l
  | set_1_at_ixd
  | set_1_at_ixd_a
  | set_2_at_ixd_b
  | set_2_at_ixd_c
  | set_2_at_ixd_d
  | set_2_at_ixd_e
  | set_2_at_ixd_h
  | set_2_at_ixd_l
  | set_2_at_ixd
  | set_2_at_ixd_a
  | set_3_at_ixd_b
  | set_3_at_ixd_c
  | set_3_at_ixd_d
  | set_3_at_ixd_e
  | set_3_at_ixd_h
  | set_3_at_ixd_l
  | set_3_at_ixd
  | set_3_at_ixd_a
  | set_4_at_ixd_b
  | set_4_at_ixd_c
  | set_4_at_ixd_d
  | set_4_at_ixd_e
  | set_4_at_ixd_h
  | set_4_at_ixd_l
  | set_4_at_ixd
  | set_4_at_ixd_a
  | set_5_at_ixd_b
  | set_5_at_ixd_c
  | set_5_at_ixd_d
  | set_5_at_ixd_e
  | set_5_at_ixd_h
  | set_5_at_ixd_l
  | set_5_at_ixd
  | set_5_at_ixd_a
  | set_6_at_ixd_b
  | set_6_at_ixd_c
  | set_6_at_ixd_d
  | set_6_at_ixd_e
  | set_6_at_ixd_h
  | set_6_at_ixd_l
  | set_6_at_ixd
  | set_6_at_ixd_a
  | set_7_at_ixd_b
  | set_7_at_ixd_c
  | set_7_at_ixd_d
  | set_7_at_ixd_e
  | set_7_at_ixd_h
  | set_7_at_ixd_l
  | set_7_at_ixd
  | set_7_at_ixd_a
  | rlc_at_iyd_b
  | rlc_at_iyd_c
  | rlc_at_iyd_d
  | rlc_at_iyd_e
  | rlc_at_iyd_h
  | rlc_at_iyd_l
  | rlc_at_iyd
  | rlc_at_iyd_a
  | rrc_at_iyd_b
  | rrc_at_iyd_c
  | rrc_at_iyd_d
  | rrc_at_iyd_e
  | rrc_at_iyd_h
  | rrc_at_iyd_l
  | rrc_at_iyd
  | rrc_at_iyd_a
  | rl_at_iyd_b
  | rl_at_iyd_c
  | rl_at_iyd_d
  | rl_at_iyd_e
  | rl_at_iyd_h
  | rl_at_iyd_l
  | rl_at_iyd
  | rl_at_iyd_a
  | rr_at_iyd_b
  | rr_at_iyd_c
  | rr_at_iyd_d
  | rr_at_iyd_e
  | rr_at_iyd_h
  | rr_at_iyd_l
  | rr_at_iyd
  | rr_at_iyd_a
  | sla_at_iyd_b
  | sla_at_iyd_c
  | sla_at_iyd_d
  | sla_at_iyd_e
  | sla_at_iyd_h
  | sla_at_iyd_l
  | sla_at_iyd
  | sla_at_iyd_a
  | sra_at_iyd_b
  | sra_at_iyd_c
  | sra_at_iyd_d
  | sra_at_iyd_e
  | sra_at_iyd_h
  | sra_at_iyd_l
  | sra_at_iyd
  | sra_at_iyd_a
  | sll_at_iyd_b
  | sll_at_iyd_c
  | sll_at_iyd_d
  | sll_at_iyd_e
  | sll_at_iyd_h
  | sll_at_iyd_l
  | sll_at_iyd
  | sll_at_iyd_a
  | srl_at_iyd_b
  | srl_at_iyd_c
  | srl_at_iyd_d
  | srl_at_iyd_e
  | srl_at_iyd_h
  | srl_at_iyd_l
  | srl_at_iyd
  | srl_at_iyd_a
  | res_0_at_iyd_b
  | res_0_at_iyd_c
  | res_0_at_iyd_d
  | res_0_at_iyd_e
  | res_0_at_iyd_h
  | res_0_at_iyd_l
  | res_0_at_iyd
  | res_0_at_iyd_a
  | res_1_at_iyd_b
  | res_1_at_iyd_c
  | res_1_at_iyd_d
  | res_1_at_iyd_e
  | res_1_at_iyd_h
  | res_1_at_iyd_l
  | res_1_at_iyd
  | res_1_at_iyd_a
  | res_2_at_iyd_b
  | res_2_at_iyd_c
  | res_2_at_iyd_d
  | res_2_at_iyd_e
  | res_2_at_iyd_h
  | res_2_at_iyd_l
  | res_2_at_iyd
  | res_2_at_iyd_a
  | res_3_at_iyd_b
  | res_3_at_iyd_c
  | res_3_at_iyd_d
  | res_3_at_iyd_e
  | res_3_at_iyd_h
  | res_3_at_iyd_l
  | res_3_at_iyd
  | res_3_at_iyd_a
  | res_4_at_iyd_b
  | res_4_at_iyd_c
  | res_4_at_iyd_d
  | res_4_at_iyd_e
  | res_4_at_iyd_h
  | res_4_at_iyd_l
  | res_4_at_iyd
  | res_4_at_iyd_a
  | res_5_at_iyd_b
  | res_5_at_iyd_c
  | res_5_at_iyd_d
  | res_5_at_iyd_e
  | res_5_at_iyd_h
  | res_5_at_iyd_l
  | res_5_at_iyd
  | res_5_at_iyd_a
  | res_6_at_iyd_b
  | res_6_at_iyd_c
  | res_6_at_iyd_d
  | res_6_at_iyd_e
  | res_6_at_iyd_h
  | res_6_at_iyd_l
  | res_6_at_iyd
  | res_6_at_iyd_a
  | res_7_at_iyd_b
  | res_7_at_iyd_c
  | res_7_at_iyd_d
  | res_7_at_iyd_e
  | res_7_at_iyd_h
  | res_7_at_iyd_l
  | res_7_at_iyd
  | res_7_at_iyd_a
  | set_0_at_iyd_b
  | set_0_at_iyd_c
  | set_0_at_iyd_d
  | set_0_at_iyd_e
  | set_0_at_iyd_h
  | set_0_at_iyd_l
  | set_0_at_iyd
  | set_0_at_iyd_a
  | set_1_at_iyd_b
  | set_1_at_iyd_c
  | set_1_at_iyd_d
  | set_1_at_iyd_e
  | set_1_at_iyd_h
  | set_1_at_iyd_l
  | set_1_at_iyd
  | set_1_at_iyd_a
  | set_2_at_iyd_b
  | set_2_at_iyd_c
  | set_2_at_iyd_d
  | set_2_at_iyd_e
  | set_2_at_iyd_h
  | set_2_at_iyd_l
  | set_2_at_iyd
  | set_2_at_iyd_a
  | set_3_at_iyd_b
  | set_3_at_iyd_c
  | set_3_at_iyd_d
  | set_3_at_iyd_e
  | set_3_at_iyd_h
  | set_3_at_iyd_l
  | set_3_at_iyd
  | set_3_at_iyd_a
  | set_4_at_iyd_b
  | set_4_at_iyd_c
  | set_4_at_iyd_d
  | set_4_at_iyd_e
  | set_4_at_iyd_h
  | set_4_at_iyd_l
  | set_4_at_iyd
  | set_4_at_iyd_a
  | set_5_at_iyd_b
  | set_5_at_iyd_c
  | set_5_at_iyd_d
  | set_5_at_iyd_e
  | set_5_at_iyd_h
  | set_5_at_iyd_l
  | set_5_at_iyd
  | set_5_at_iyd_a
  | set_6_at_iyd_b
  | set_6_at_iyd_c
  | set_6_at_iyd_d
  | set_6_at_iyd_e
  | set_6_at_iyd_h
  | set_6_at_iyd_l
  | set_6_at_iyd
  | set_6_at_iyd_a
  | set_7_at_iyd_b
  | set_7_at_iyd_c
  | set_7_at_iyd_d
  | set_7_at_iyd_e
  | set_7_at_iyd_h
  | set_7_at_iyd_l
  | set_7_at_iyd
  | set_7_at_iyd_a
  | in_b_at_c
  | out_at_c_b
  | sbc_hl_bc
  | ld_at_nn_bc
  | ld_i_a
  | in_c_at_c
  | out_at_c_c
  | adc_hl_bc
  | ld_bc_at_nn
  | reti
  | ld_r_a
  | in_d_at_c
  | out_at_c_d
  | sbc_hl_de
  | ld_at_nn_de
  | ld_a_i
  | in_e_at_c
  | out_at_c_e
  | adc_hl_de
  | ld_de_at_nn
  | ld_a_r
  | in_h_at_c
  | out_at_c_h
  | sbc_hl_hl
  | ld_at_nn_hl_ed
  | rrd
  | in_l_at_c
  | out_at_c_l
  | adc_hl_hl
  | ld_hl_at_nn_ed
  | rld
  | in_at_c
  | out_at_c_0
  | sbc_hl_sp
  | ld_at_nn_sp
  | in_a_at_c
  | out_at_c_a
  | adc_hl_sp
  | ld_sp_at_nn
  | ldi
  | cpi
  | ini
  | outi
  | ldd
  | cpd
  | ind
  | outd
  | ldir
  | cpir
  | inir
  | otir
  | lddr
  | cpdr
  | indr
  | otdr
  deriving DecidableEq, Repr

end Sys2Proof
end

