-- ==== Sys2Proof/WellFormed.lean ====
section
/-! DEFINITION. Which terms of `Instr` stand for an encoding. Operand bytes take every value; only the constructors
that keep a varying opcode field restrict it, to the values the opcode map gives their row (R102, R485). -/

namespace Sys2Proof

/-- The `ED` positions that no rule assigns (R485, the list of values in R102). -/
def edUndefined (op : Byte) : Bool :=
  let v := op.toNat
  v < 0x40 || v == 0x77 || v == 0x7F || (0x80 ≤ v && v < 0xA0) || (0xA4 ≤ v && v < 0xA8) || (0xAC ≤ v && v < 0xB0)
    || (0xB4 ≤ v && v < 0xB8) || 0xBC ≤ v

/-- The values of the middle field that encode an interrupt mode: mode `[0, 0, 1, 2, 0, 0, 1, 2][y]` (R462). -/
def imField (m : IntMode) (y : BitNo) : Bool :=
  match m with
  | .im0 => y == .b0 || y == .b1 || y == .b4 || y == .b5
  | .im1 => y == .b2 || y == .b6
  | .im2 => y == .b3 || y == .b7

/-- Well-formed instructions. -/
def Instr.wf : Instr → Bool
  | .retn y => y != .b1
  | .im_0 y => imField .im0 y
  | .im_1 y => imField .im1 y
  | .im_2 y => imField .im2 y
  | .nop_ed op => edUndefined op
  | _ => true

end Sys2Proof
end

