-- ==== Sys2Proof/Decode.lean ====
section
/-! DEFINITION. From bytes to instructions and back (30_encoding.md, 41_dispatch_prefix.md R161 to R166). The decoder
reads the fields x, y, z, p, q of an opcode byte (R92) to a `Form` and names the form's table row by `Form.instr`; the
encoder is written row by row from opcode_table.json, so that the round trip compares the two. An instruction names
its table entry; its operand bytes are read by its meaning as it runs, as R164 says ("The core itself never computes a
length: it consumes bytes as the rules read them", R105). The list decoder returns them beside the instruction. -/

namespace Sys2Proof

/-! ## Bytes and words -/

/-- `lo(v)` of 00_scope.md section 5.1. -/
def lowByte (v : Word) : Byte := v.extractLsb' 0 8

/-- `hi(v)` of 00_scope.md section 5.1. -/
def highByte (v : Word) : Byte := v.extractLsb' 8 8

/-- `pair(h, l)` of 00_scope.md section 5.1. -/
def pairOf (h l : Byte) : Word := h ++ l

/-- `sext_16(b)` of 00_scope.md section 5.1. -/
def signExtend16 (b : Byte) : Word := b.signExtend 16

/-! ## Opcode fields and code tables -/

/-- `x = op[7:6]` (R92). -/
def fieldX (op : Byte) : Nat := op.toNat / 64

/-- `y = op[5:3]` (R92). -/
def fieldY (op : Byte) : Nat := op.toNat / 8 % 8

/-- `z = op[2:0]` (R92). -/
def fieldZ (op : Byte) : Nat := op.toNat % 8

/-- R93; code 6 is the memory operand. -/
def Reg8.ofCode : Nat → Option Reg8
  | 0 => some .b
  | 1 => some .c
  | 2 => some .d
  | 3 => some .e
  | 4 => some .h
  | 5 => some .l
  | 7 => some .a
  | _ => none

/-- R94. -/
def Pair.ofCode : Nat → Pair
  | 0 => .bc
  | 1 => .de
  | 2 => .hl
  | _ => .sp

/-- R95. -/
def QPair.ofCode : Nat → QPair
  | 0 => .bc
  | 1 => .de
  | 2 => .hl
  | _ => .af

/-- R96. -/
def Cond.ofCode : Nat → Cond
  | 0 => .nz
  | 1 => .z
  | 2 => .nc
  | 3 => .c
  | 4 => .po
  | 5 => .pe
  | 6 => .p
  | _ => .m

/-- R96, codes 0 to 3. -/
def RelCond.ofCode : Nat → RelCond
  | 0 => .nz
  | 1 => .z
  | 2 => .nc
  | _ => .c

/-- R97. -/
def AluOp.ofCode : Nat → AluOp
  | 0 => .add
  | 1 => .adc
  | 2 => .sub
  | 3 => .sbc
  | 4 => .and
  | 5 => .xor
  | 6 => .or
  | _ => .cp

/-- R97. -/
def RotOp.ofCode : Nat → RotOp
  | 0 => .rlc
  | 1 => .rrc
  | 2 => .rl
  | 3 => .rr
  | 4 => .sla
  | 5 => .sra
  | 6 => .sll
  | _ => .srl

/-- A three-bit field as a bit number. -/
def BitNo.ofCode : Nat → BitNo
  | 0 => .b0
  | 1 => .b1
  | 2 => .b2
  | 3 => .b3
  | 4 => .b4
  | 5 => .b5
  | 6 => .b6
  | _ => .b7

/-- The number a three-bit field holds. -/
def BitNo.val : BitNo → Nat
  | .b0 => 0
  | .b1 => 1
  | .b2 => 2
  | .b3 => 3
  | .b4 => 4
  | .b5 => 5
  | .b6 => 6
  | .b7 => 7

/-- In the index table codes 4 and 5 name the halves of the index register (R93, R379). -/
def Reg8.indexed : Reg8 → Sum Half PlainReg
  | .h => .inl .high
  | .l => .inl .low
  | .b => .inr .b
  | .c => .inr .c
  | .d => .inr .d
  | .e => .inr .e
  | .a => .inr .a

/-! ## The tables -/

/-- The standard table, `x = 0` (R99). -/
def decodeMain0 (y z : Nat) : Form :=
  match z with
  | 0 =>
    match y with
    | 0 => .nop
    | 1 => .exAf
    | 2 => .djnz
    | 3 => .jr
    | _ => .jrCc (RelCond.ofCode (y - 4))
  | 1 => if y % 2 = 0 then .ldPairImm (Pair.ofCode (y / 2)) else .addHl (Pair.ofCode (y / 2))
  | 2 =>
    match y with
    | 0 => .ldAtBcA
    | 1 => .ldAAtBc
    | 2 => .ldAtDeA
    | 3 => .ldAAtDe
    | 4 => .ldAtNnHl
    | 5 => .ldHlAtNn
    | 6 => .ldAtNnA
    | _ => .ldAAtNn
  | 3 => if y % 2 = 0 then .incPair (Pair.ofCode (y / 2)) else .decPair (Pair.ofCode (y / 2))
  | 4 =>
    match Reg8.ofCode y with
    | some r => .incReg r
    | none => .incAtHl
  | 5 =>
    match Reg8.ofCode y with
    | some r => .decReg r
    | none => .decAtHl
  | 6 =>
    match Reg8.ofCode y with
    | some r => .ldRegImm r
    | none => .ldAtHlImm
  | _ =>
    match y with
    | 0 => .rlca
    | 1 => .rrca
    | 2 => .rla
    | 3 => .rra
    | 4 => .daa
    | 5 => .cpl
    | 6 => .scf
    | _ => .ccf

/-- The standard table, `x = 1` (R99): loads, and `HALT` where both codes are 6. -/
def decodeMain1 (y z : Nat) : Form :=
  match Reg8.ofCode y, Reg8.ofCode z with
  | some r, some q => .ldRegReg r q
  | some r, none => .ldRegAtHl r
  | none, some q => .ldAtHlReg q
  | none, none => .halt

/-- The standard table, `x = 2` (R99). -/
def decodeMain2 (y z : Nat) : Form :=
  match Reg8.ofCode z with
  | some r => .aluReg (AluOp.ofCode y) r
  | none => .aluAtHl (AluOp.ofCode y)

/-- The standard table, `x = 3` (R99), the four prefix bytes among it. -/
def decodeMain3 (y z : Nat) : Form :=
  match z with
  | 0 => .retCc (Cond.ofCode y)
  | 1 =>
    if y % 2 = 0 then .pop (QPair.ofCode (y / 2))
    else
      match y / 2 with
      | 0 => .ret
      | 1 => .exx
      | 2 => .jpHl
      | _ => .ldSpHl
  | 2 => .jpCc (Cond.ofCode y)
  | 3 =>
    match y with
    | 0 => .jp
    | 1 => .prefixCb
    | 2 => .outA
    | 3 => .inA
    | 4 => .exSpHl
    | 5 => .exDeHl
    | 6 => .di
    | _ => .ei
  | 4 => .callCc (Cond.ofCode y)
  | 5 =>
    if y % 2 = 0 then .push (QPair.ofCode (y / 2))
    else
      match y / 2 with
      | 0 => .call
      | 1 => .prefixDd
      | 2 => .prefixEd
      | _ => .prefixFd
  | 6 => .aluImm (AluOp.ofCode y)
  | _ => .rst (BitNo.ofCode y)

/-- The standard table (R99). -/
def decodeMain (op : Byte) : Form :=
  match fieldX op with
  | 0 => decodeMain0 (fieldY op) (fieldZ op)
  | 1 => decodeMain1 (fieldY op) (fieldZ op)
  | 2 => decodeMain2 (fieldY op) (fieldZ op)
  | _ => decodeMain3 (fieldY op) (fieldZ op)

/-- The index table (R100, R165): the general law of R100 applied to the standard entry. An entry that names `HL`,
`H`, `L` or `(HL)` is an override, except `EX DE,HL` and `EXX`; every other entry holds the no-override marker and
is the standard entry (R382). In an entry with `(HL)` the other operand keeps its name. -/
def decodeIndex (x : XY) (op : Byte) : Form :=
  match decodeMain op with
  | .ldPairImm .hl => .ldXyImm x
  | .ldAtNnHl => .ldAtNnXy x
  | .ldHlAtNn => .ldXyAtNn x
  | .ldSpHl => .ldSpXy x
  | .push .hl => .pushXy x
  | .pop .hl => .popXy x
  | .exSpHl => .exSpXy x
  | .jpHl => .jpXy x
  | .addHl p => .addXy x p
  | .incPair .hl => .incXy x
  | .decPair .hl => .decXy x
  | .ldRegAtHl r => .ldRegXyd x r
  | .ldAtHlReg r => .ldXydReg x r
  | .ldAtHlImm => .ldXydImm x
  | .incAtHl => .incXyd x
  | .decAtHl => .decXyd x
  | .aluAtHl k => .aluXyd x k
  | .ldRegImm r =>
    match r.indexed with
    | .inl h => .ldHalfImm x h
    | .inr _ => .ldRegImm r
  | .ldRegReg r q =>
    match r.indexed, q.indexed with
    | .inl h, .inl k => .ldHalfHalf x h k
    | .inl h, .inr q' => .ldHalfReg x h q'
    | .inr r', .inl k => .ldRegHalf x r' k
    | .inr _, .inr _ => .ldRegReg r q
  | .incReg r =>
    match r.indexed with
    | .inl h => .incHalf x h
    | .inr _ => .incReg r
  | .decReg r =>
    match r.indexed with
    | .inl h => .decHalf x h
    | .inr _ => .decReg r
  | .aluReg k r =>
    match r.indexed with
    | .inl h => .aluHalf x k h
    | .inr _ => .aluReg k r
  | f => f

/-- The bit table (R101). `CB CB` is `SET 1,E`, as R101 (x = 3), R432 and the row 0xCBCB of opcode_table.json say; R163 and
the worked table of 41_dispatch_prefix.md write `BIT 1,E` for it (DEDUCED: a slip of R163's example; log 18). -/
def decodeBit (op : Byte) : Form :=
  let y := fieldY op
  match fieldX op, Reg8.ofCode (fieldZ op) with
  | 0, some r => .rotReg (RotOp.ofCode y) r
  | 0, none => .rotAtHl (RotOp.ofCode y)
  | 1, some r => .bitReg (BitNo.ofCode y) r
  | 1, none => .bitAtHl (BitNo.ofCode y)
  | 2, some r => .resReg (BitNo.ofCode y) r
  | 2, none => .resAtHl (BitNo.ofCode y)
  | _, some r => .setReg (BitNo.ofCode y) r
  | _, none => .setAtHl (BitNo.ofCode y)

/-- The indexed bit table (R103). -/
def decodeIndexedBit (x : XY) (op : Byte) : Form :=
  let y := fieldY op
  match fieldX op, Reg8.ofCode (fieldZ op) with
  | 0, some r => .rotXydCopy x (RotOp.ofCode y) r
  | 0, none => .rotXyd x (RotOp.ofCode y)
  | 1, _ => .bitXyd x (BitNo.ofCode y) (BitNo.ofCode (fieldZ op))
  | 2, some r => .resXydCopy x (BitNo.ofCode y) r
  | 2, none => .resXyd x (BitNo.ofCode y)
  | _, some r => .setXydCopy x (BitNo.ofCode y) r
  | _, none => .setXyd x (BitNo.ofCode y)

/-- The extended table, `x = 1` (R102). -/
def decodeExtended1 (op : Byte) (y z : Nat) : Form :=
  match z with
  | 0 =>
    match Reg8.ofCode y with
    | some r => .inReg r
    | none => .inFlags
  | 1 =>
    match Reg8.ofCode y with
    | some r => .outReg r
    | none => .outZero
  | 2 => if y % 2 = 0 then .sbcHl (Pair.ofCode (y / 2)) else .adcHl (Pair.ofCode (y / 2))
  | 3 =>
    if y % 2 = 0 then .ldAtNnPair (Pair.ofCode (y / 2))
    else .ldPairAtNn (Pair.ofCode (y / 2))
  | 4 => .neg (BitNo.ofCode y)
  | 5 => if y = 1 then .reti else .retn (BitNo.ofCode y)
  | 6 =>
    match y with
    | 2 => .im .im1 .b2
    | 3 => .im .im2 .b3
    | 6 => .im .im1 .b6
    | 7 => .im .im2 .b7
    | _ => .im .im0 (BitNo.ofCode y)
  | _ =>
    match y with
    | 0 => .ldIA
    | 1 => .ldRA
    | 2 => .ldAI
    | 3 => .ldAR
    | 4 => .rrd
    | 5 => .rld
    | _ => .nopEd op

/-- The sixteen block instructions of the extended table, by the opcode byte (R102); every other byte is `NOP (ED)`
(R485). -/
def decodeExtended2 (op : Byte) (y z : Nat) : Form :=
  match y, z with
  | 4, 0 => .ldi
  | 4, 1 => .cpi
  | 4, 2 => .ini
  | 4, 3 => .outi
  | 5, 0 => .ldd
  | 5, 1 => .cpd
  | 5, 2 => .ind
  | 5, 3 => .outd
  | 6, 0 => .ldir
  | 6, 1 => .cpir
  | 6, 2 => .inir
  | 6, 3 => .otir
  | 7, 0 => .lddr
  | 7, 1 => .cpdr
  | 7, 2 => .indr
  | 7, 3 => .otdr
  | _, _ => .nopEd op

/-- The extended table (R102). -/
def decodeExtended (op : Byte) : Form :=
  match fieldX op with
  | 1 => decodeExtended1 op (fieldY op) (fieldZ op)
  | 2 => decodeExtended2 op (fieldY op) (fieldZ op)
  | _ => .nopEd op

/-- The table entry an opcode byte selects under the two latches (R161, R164, R165, R166). Total: no byte sequence is
illegal (R104, R173). -/
def decodeForm (pm : PrefixMode) (im : IndexMode) (op : Byte) : Form :=
  match pm, im with
  | .extended, _ => decodeExtended op
  | .bit, .none => decodeBit op
  | .bit, .ix => decodeIndexedBit .ix op
  | .bit, .iy => decodeIndexedBit .iy op
  | .none, .none => decodeMain op
  | .none, .ix => decodeIndex .ix op
  | .none, .iy => decodeIndex .iy op


/-! ## The rows of the forms: `Instr` constructors by operand fields -/

/-- The rows of `LD r,r'`. -/
def Instr.ldRegReg : Reg8 → Reg8 → Instr
  | .b, .b => .ld_b_b
  | .b, .c => .ld_b_c
  | .b, .d => .ld_b_d
  | .b, .e => .ld_b_e
  | .b, .h => .ld_b_h
  | .b, .l => .ld_b_l
  | .b, .a => .ld_b_a
  | .c, .b => .ld_c_b
  | .c, .c => .ld_c_c
  | .c, .d => .ld_c_d
  | .c, .e => .ld_c_e
  | .c, .h => .ld_c_h
  | .c, .l => .ld_c_l
  | .c, .a => .ld_c_a
  | .d, .b => .ld_d_b
  | .d, .c => .ld_d_c
  | .d, .d => .ld_d_d
  | .d, .e => .ld_d_e
  | .d, .h => .ld_d_h
  | .d, .l => .ld_d_l
  | .d, .a => .ld_d_a
  | .e, .b => .ld_e_b
  | .e, .c => .ld_e_c
  | .e, .d => .ld_e_d
  | .e, .e => .ld_e_e
  | .e, .h => .ld_e_h
  | .e, .l => .ld_e_l
  | .e, .a => .ld_e_a
  | .h, .b => .ld_h_b
  | .h, .c => .ld_h_c
  | .h, .d => .ld_h_d
  | .h, .e => .ld_h_e
  | .h, .h => .ld_h_h
  | .h, .l => .ld_h_l
  | .h, .a => .ld_h_a
  | .l, .b => .ld_l_b
  | .l, .c => .ld_l_c
  | .l, .d => .ld_l_d
  | .l, .e => .ld_l_e
  | .l, .h => .ld_l_h
  | .l, .l => .ld_l_l
  | .l, .a => .ld_l_a
  | .a, .b => .ld_a_b
  | .a, .c => .ld_a_c
  | .a, .d => .ld_a_d
  | .a, .e => .ld_a_e
  | .a, .h => .ld_a_h
  | .a, .l => .ld_a_l
  | .a, .a => .ld_a_a

/-- The rows of `LD r,n`. -/
def Instr.ldRegImm : Reg8 → Instr
  | .b => .ld_b_n
  | .c => .ld_c_n
  | .d => .ld_d_n
  | .e => .ld_e_n
  | .h => .ld_h_n
  | .l => .ld_l_n
  | .a => .ld_a_n

/-- The rows of `LD r,(HL)`. -/
def Instr.ldRegAtHl : Reg8 → Instr
  | .b => .ld_b_at_hl
  | .c => .ld_c_at_hl
  | .d => .ld_d_at_hl
  | .e => .ld_e_at_hl
  | .h => .ld_h_at_hl
  | .l => .ld_l_at_hl
  | .a => .ld_a_at_hl

/-- The rows of `LD (HL),r`. -/
def Instr.ldAtHlReg : Reg8 → Instr
  | .b => .ld_at_hl_b
  | .c => .ld_at_hl_c
  | .d => .ld_at_hl_d
  | .e => .ld_at_hl_e
  | .h => .ld_at_hl_h
  | .l => .ld_at_hl_l
  | .a => .ld_at_hl_a

/-- The rows of `LD rr,nn`. -/
def Instr.ldPairImm : Pair → Instr
  | .bc => .ld_bc_nn
  | .de => .ld_de_nn
  | .hl => .ld_hl_nn
  | .sp => .ld_sp_nn

/-- The rows of `PUSH qq`. -/
def Instr.push : QPair → Instr
  | .bc => .push_bc
  | .de => .push_de
  | .hl => .push_hl
  | .af => .push_af

/-- The rows of `POP qq`. -/
def Instr.pop : QPair → Instr
  | .bc => .pop_bc
  | .de => .pop_de
  | .hl => .pop_hl
  | .af => .pop_af

/-- The rows of `alu r`. -/
def Instr.aluReg : AluOp → Reg8 → Instr
  | .add, .b => .add_a_b
  | .add, .c => .add_a_c
  | .add, .d => .add_a_d
  | .add, .e => .add_a_e
  | .add, .h => .add_a_h
  | .add, .l => .add_a_l
  | .add, .a => .add_a_a
  | .adc, .b => .adc_a_b
  | .adc, .c => .adc_a_c
  | .adc, .d => .adc_a_d
  | .adc, .e => .adc_a_e
  | .adc, .h => .adc_a_h
  | .adc, .l => .adc_a_l
  | .adc, .a => .adc_a_a
  | .sub, .b => .sub_b
  | .sub, .c => .sub_c
  | .sub, .d => .sub_d
  | .sub, .e => .sub_e
  | .sub, .h => .sub_h
  | .sub, .l => .sub_l
  | .sub, .a => .sub_a
  | .sbc, .b => .sbc_a_b
  | .sbc, .c => .sbc_a_c
  | .sbc, .d => .sbc_a_d
  | .sbc, .e => .sbc_a_e
  | .sbc, .h => .sbc_a_h
  | .sbc, .l => .sbc_a_l
  | .sbc, .a => .sbc_a_a
  | .and, .b => .and_b
  | .and, .c => .and_c
  | .and, .d => .and_d
  | .and, .e => .and_e
  | .and, .h => .and_h
  | .and, .l => .and_l
  | .and, .a => .and_a
  | .xor, .b => .xor_b
  | .xor, .c => .xor_c
  | .xor, .d => .xor_d
  | .xor, .e => .xor_e
  | .xor, .h => .xor_h
  | .xor, .l => .xor_l
  | .xor, .a => .xor_a
  | .or, .b => .or_b
  | .or, .c => .or_c
  | .or, .d => .or_d
  | .or, .e => .or_e
  | .or, .h => .or_h
  | .or, .l => .or_l
  | .or, .a => .or_a
  | .cp, .b => .cp_b
  | .cp, .c => .cp_c
  | .cp, .d => .cp_d
  | .cp, .e => .cp_e
  | .cp, .h => .cp_h
  | .cp, .l => .cp_l
  | .cp, .a => .cp_a

/-- The rows of `alu (HL)`. -/
def Instr.aluAtHl : AluOp → Instr
  | .add => .add_a_at_hl
  | .adc => .adc_a_at_hl
  | .sub => .sub_at_hl
  | .sbc => .sbc_a_at_hl
  | .and => .and_at_hl
  | .xor => .xor_at_hl
  | .or => .or_at_hl
  | .cp => .cp_at_hl

/-- The rows of `alu n`. -/
def Instr.aluImm : AluOp → Instr
  | .add => .add_a_n
  | .adc => .adc_a_n
  | .sub => .sub_n
  | .sbc => .sbc_a_n
  | .and => .and_n
  | .xor => .xor_n
  | .or => .or_n
  | .cp => .cp_n

/-- The rows of `INC r`. -/
def Instr.incReg : Reg8 → Instr
  | .b => .inc_b
  | .c => .inc_c
  | .d => .inc_d
  | .e => .inc_e
  | .h => .inc_h
  | .l => .inc_l
  | .a => .inc_a

/-- The rows of `DEC r`. -/
def Instr.decReg : Reg8 → Instr
  | .b => .dec_b
  | .c => .dec_c
  | .d => .dec_d
  | .e => .dec_e
  | .h => .dec_h
  | .l => .dec_l
  | .a => .dec_a

/-- The rows of `ADD HL,rr`. -/
def Instr.addHl : Pair → Instr
  | .bc => .add_hl_bc
  | .de => .add_hl_de
  | .hl => .add_hl_hl
  | .sp => .add_hl_sp

/-- The rows of `INC rr`. -/
def Instr.incPair : Pair → Instr
  | .bc => .inc_bc
  | .de => .inc_de
  | .hl => .inc_hl
  | .sp => .inc_sp

/-- The rows of `DEC rr`. -/
def Instr.decPair : Pair → Instr
  | .bc => .dec_bc
  | .de => .dec_de
  | .hl => .dec_hl
  | .sp => .dec_sp

/-- The rows of `JP cc,nn`. -/
def Instr.jpCc : Cond → Instr
  | .nz => .jp_nz_nn
  | .z => .jp_z_nn
  | .nc => .jp_nc_nn
  | .c => .jp_c_nn
  | .po => .jp_po_nn
  | .pe => .jp_pe_nn
  | .p => .jp_p_nn
  | .m => .jp_m_nn

/-- The rows of `JR cc,e`. -/
def Instr.jrCc : RelCond → Instr
  | .nz => .jr_nz_e
  | .z => .jr_z_e
  | .nc => .jr_nc_e
  | .c => .jr_c_e

/-- The rows of `CALL cc,nn`. -/
def Instr.callCc : Cond → Instr
  | .nz => .call_nz_nn
  | .z => .call_z_nn
  | .nc => .call_nc_nn
  | .c => .call_c_nn
  | .po => .call_po_nn
  | .pe => .call_pe_nn
  | .p => .call_p_nn
  | .m => .call_m_nn

/-- The rows of `RET cc`. -/
def Instr.retCc : Cond → Instr
  | .nz => .ret_nz
  | .z => .ret_z
  | .nc => .ret_nc
  | .c => .ret_c
  | .po => .ret_po
  | .pe => .ret_pe
  | .p => .ret_p
  | .m => .ret_m

/-- The rows of `RST p`, p = y * 8. -/
def Instr.rst : BitNo → Instr
  | .b0 => .rst_00h
  | .b1 => .rst_08h
  | .b2 => .rst_10h
  | .b3 => .rst_18h
  | .b4 => .rst_20h
  | .b5 => .rst_28h
  | .b6 => .rst_30h
  | .b7 => .rst_38h

/-- The rows of `LD XY,nn`. -/
def Instr.ldXyImm : XY → Instr
  | .ix => .ld_ix_nn
  | .iy => .ld_iy_nn

/-- The rows of `LD (nn),XY`. -/
def Instr.ldAtNnXy : XY → Instr
  | .ix => .ld_at_nn_ix
  | .iy => .ld_at_nn_iy

/-- The rows of `LD XY,(nn)`. -/
def Instr.ldXyAtNn : XY → Instr
  | .ix => .ld_ix_at_nn
  | .iy => .ld_iy_at_nn

/-- The rows of `LD SP,XY`. -/
def Instr.ldSpXy : XY → Instr
  | .ix => .ld_sp_ix
  | .iy => .ld_sp_iy

/-- The rows of `PUSH XY`. -/
def Instr.pushXy : XY → Instr
  | .ix => .push_ix
  | .iy => .push_iy

/-- The rows of `POP XY`. -/
def Instr.popXy : XY → Instr
  | .ix => .pop_ix
  | .iy => .pop_iy

/-- The rows of `EX (SP),XY`. -/
def Instr.exSpXy : XY → Instr
  | .ix => .ex_at_sp_ix
  | .iy => .ex_at_sp_iy

/-- The rows of `JP (XY)`. -/
def Instr.jpXy : XY → Instr
  | .ix => .jp_at_ix
  | .iy => .jp_at_iy

/-- The rows of `ADD XY,rr`, where the pair code 2 names XY itself. -/
def Instr.addXy : XY → Pair → Instr
  | .ix, .bc => .add_ix_bc
  | .ix, .de => .add_ix_de
  | .ix, .hl => .add_ix_ix
  | .ix, .sp => .add_ix_sp
  | .iy, .bc => .add_iy_bc
  | .iy, .de => .add_iy_de
  | .iy, .hl => .add_iy_iy
  | .iy, .sp => .add_iy_sp

/-- The rows of `INC XY`. -/
def Instr.incXy : XY → Instr
  | .ix => .inc_ix
  | .iy => .inc_iy

/-- The rows of `DEC XY`. -/
def Instr.decXy : XY → Instr
  | .ix => .dec_ix
  | .iy => .dec_iy

/-- The rows of `LD r,(XY+d)`. -/
def Instr.ldRegXyd : XY → Reg8 → Instr
  | .ix, .b => .ld_b_at_ixd
  | .ix, .c => .ld_c_at_ixd
  | .ix, .d => .ld_d_at_ixd
  | .ix, .e => .ld_e_at_ixd
  | .ix, .h => .ld_h_at_ixd
  | .ix, .l => .ld_l_at_ixd
  | .ix, .a => .ld_a_at_ixd
  | .iy, .b => .ld_b_at_iyd
  | .iy, .c => .ld_c_at_iyd
  | .iy, .d => .ld_d_at_iyd
  | .iy, .e => .ld_e_at_iyd
  | .iy, .h => .ld_h_at_iyd
  | .iy, .l => .ld_l_at_iyd
  | .iy, .a => .ld_a_at_iyd

/-- The rows of `LD (XY+d),r`. -/
def Instr.ldXydReg : XY → Reg8 → Instr
  | .ix, .b => .ld_at_ixd_b
  | .ix, .c => .ld_at_ixd_c
  | .ix, .d => .ld_at_ixd_d
  | .ix, .e => .ld_at_ixd_e
  | .ix, .h => .ld_at_ixd_h
  | .ix, .l => .ld_at_ixd_l
  | .ix, .a => .ld_at_ixd_a
  | .iy, .b => .ld_at_iyd_b
  | .iy, .c => .ld_at_iyd_c
  | .iy, .d => .ld_at_iyd_d
  | .iy, .e => .ld_at_iyd_e
  | .iy, .h => .ld_at_iyd_h
  | .iy, .l => .ld_at_iyd_l
  | .iy, .a => .ld_at_iyd_a

/-- The rows of `LD (XY+d),n`. -/
def Instr.ldXydImm : XY → Instr
  | .ix => .ld_at_ixd_n
  | .iy => .ld_at_iyd_n

/-- The rows of `INC (XY+d)`. -/
def Instr.incXyd : XY → Instr
  | .ix => .inc_at_ixd
  | .iy => .inc_at_iyd

/-- The rows of `DEC (XY+d)`. -/
def Instr.decXyd : XY → Instr
  | .ix => .dec_at_ixd
  | .iy => .dec_at_iyd

/-- The rows of `alu (XY+d)`. -/
def Instr.aluXyd : XY → AluOp → Instr
  | .ix, .add => .add_a_at_ixd
  | .ix, .adc => .adc_a_at_ixd
  | .ix, .sub => .sub_at_ixd
  | .ix, .sbc => .sbc_a_at_ixd
  | .ix, .and => .and_at_ixd
  | .ix, .xor => .xor_at_ixd
  | .ix, .or => .or_at_ixd
  | .ix, .cp => .cp_at_ixd
  | .iy, .add => .add_a_at_iyd
  | .iy, .adc => .adc_a_at_iyd
  | .iy, .sub => .sub_at_iyd
  | .iy, .sbc => .sbc_a_at_iyd
  | .iy, .and => .and_at_iyd
  | .iy, .xor => .xor_at_iyd
  | .iy, .or => .or_at_iyd
  | .iy, .cp => .cp_at_iyd

/-- The rows of `LD XYH,n` and `LD XYL,n`. -/
def Instr.ldHalfImm : XY → Half → Instr
  | .ix, .high => .ld_ixh_n
  | .ix, .low => .ld_ixl_n
  | .iy, .high => .ld_iyh_n
  | .iy, .low => .ld_iyl_n

/-- The rows of `LD r,XYH` and `LD r,XYL`. -/
def Instr.ldRegHalf : XY → PlainReg → Half → Instr
  | .ix, .b, .high => .ld_b_ixh
  | .ix, .b, .low => .ld_b_ixl
  | .ix, .c, .high => .ld_c_ixh
  | .ix, .c, .low => .ld_c_ixl
  | .ix, .d, .high => .ld_d_ixh
  | .ix, .d, .low => .ld_d_ixl
  | .ix, .e, .high => .ld_e_ixh
  | .ix, .e, .low => .ld_e_ixl
  | .ix, .a, .high => .ld_a_ixh
  | .ix, .a, .low => .ld_a_ixl
  | .iy, .b, .high => .ld_b_iyh
  | .iy, .b, .low => .ld_b_iyl
  | .iy, .c, .high => .ld_c_iyh
  | .iy, .c, .low => .ld_c_iyl
  | .iy, .d, .high => .ld_d_iyh
  | .iy, .d, .low => .ld_d_iyl
  | .iy, .e, .high => .ld_e_iyh
  | .iy, .e, .low => .ld_e_iyl
  | .iy, .a, .high => .ld_a_iyh
  | .iy, .a, .low => .ld_a_iyl

/-- The rows of `LD XYH,r` and `LD XYL,r`. -/
def Instr.ldHalfReg : XY → Half → PlainReg → Instr
  | .ix, .high, .b => .ld_ixh_b
  | .ix, .high, .c => .ld_ixh_c
  | .ix, .high, .d => .ld_ixh_d
  | .ix, .high, .e => .ld_ixh_e
  | .ix, .high, .a => .ld_ixh_a
  | .ix, .low, .b => .ld_ixl_b
  | .ix, .low, .c => .ld_ixl_c
  | .ix, .low, .d => .ld_ixl_d
  | .ix, .low, .e => .ld_ixl_e
  | .ix, .low, .a => .ld_ixl_a
  | .iy, .high, .b => .ld_iyh_b
  | .iy, .high, .c => .ld_iyh_c
  | .iy, .high, .d => .ld_iyh_d
  | .iy, .high, .e => .ld_iyh_e
  | .iy, .high, .a => .ld_iyh_a
  | .iy, .low, .b => .ld_iyl_b
  | .iy, .low, .c => .ld_iyl_c
  | .iy, .low, .d => .ld_iyl_d
  | .iy, .low, .e => .ld_iyl_e
  | .iy, .low, .a => .ld_iyl_a

/-- The rows of loads between the halves of one index register. -/
def Instr.ldHalfHalf : XY → Half → Half → Instr
  | .ix, .high, .high => .ld_ixh_ixh
  | .ix, .high, .low => .ld_ixh_ixl
  | .ix, .low, .high => .ld_ixl_ixh
  | .ix, .low, .low => .ld_ixl_ixl
  | .iy, .high, .high => .ld_iyh_iyh
  | .iy, .high, .low => .ld_iyh_iyl
  | .iy, .low, .high => .ld_iyl_iyh
  | .iy, .low, .low => .ld_iyl_iyl

/-- The rows of `INC XYH` and `INC XYL`. -/
def Instr.incHalf : XY → Half → Instr
  | .ix, .high => .inc_ixh
  | .ix, .low => .inc_ixl
  | .iy, .high => .inc_iyh
  | .iy, .low => .inc_iyl

/-- The rows of `DEC XYH` and `DEC XYL`. -/
def Instr.decHalf : XY → Half → Instr
  | .ix, .high => .dec_ixh
  | .ix, .low => .dec_ixl
  | .iy, .high => .dec_iyh
  | .iy, .low => .dec_iyl

/-- The rows of `alu XYH` and `alu XYL`. -/
def Instr.aluHalf : XY → AluOp → Half → Instr
  | .ix, .add, .high => .add_a_ixh
  | .ix, .add, .low => .add_a_ixl
  | .ix, .adc, .high => .adc_a_ixh
  | .ix, .adc, .low => .adc_a_ixl
  | .ix, .sub, .high => .sub_ixh
  | .ix, .sub, .low => .sub_ixl
  | .ix, .sbc, .high => .sbc_a_ixh
  | .ix, .sbc, .low => .sbc_a_ixl
  | .ix, .and, .high => .and_ixh
  | .ix, .and, .low => .and_ixl
  | .ix, .xor, .high => .xor_ixh
  | .ix, .xor, .low => .xor_ixl
  | .ix, .or, .high => .or_ixh
  | .ix, .or, .low => .or_ixl
  | .ix, .cp, .high => .cp_ixh
  | .ix, .cp, .low => .cp_ixl
  | .iy, .add, .high => .add_a_iyh
  | .iy, .add, .low => .add_a_iyl
  | .iy, .adc, .high => .adc_a_iyh
  | .iy, .adc, .low => .adc_a_iyl
  | .iy, .sub, .high => .sub_iyh
  | .iy, .sub, .low => .sub_iyl
  | .iy, .sbc, .high => .sbc_a_iyh
  | .iy, .sbc, .low => .sbc_a_iyl
  | .iy, .and, .high => .and_iyh
  | .iy, .and, .low => .and_iyl
  | .iy, .xor, .high => .xor_iyh
  | .iy, .xor, .low => .xor_iyl
  | .iy, .or, .high => .or_iyh
  | .iy, .or, .low => .or_iyl
  | .iy, .cp, .high => .cp_iyh
  | .iy, .cp, .low => .cp_iyl

/-- The rows of rotate or shift of a register. -/
def Instr.rotReg : RotOp → Reg8 → Instr
  | .rlc, .b => .rlc_b
  | .rlc, .c => .rlc_c
  | .rlc, .d => .rlc_d
  | .rlc, .e => .rlc_e
  | .rlc, .h => .rlc_h
  | .rlc, .l => .rlc_l
  | .rlc, .a => .rlc_a
  | .rrc, .b => .rrc_b
  | .rrc, .c => .rrc_c
  | .rrc, .d => .rrc_d
  | .rrc, .e => .rrc_e
  | .rrc, .h => .rrc_h
  | .rrc, .l => .rrc_l
  | .rrc, .a => .rrc_a
  | .rl, .b => .rl_b
  | .rl, .c => .rl_c
  | .rl, .d => .rl_d
  | .rl, .e => .rl_e
  | .rl, .h => .rl_h
  | .rl, .l => .rl_l
  | .rl, .a => .rl_a
  | .rr, .b => .rr_b
  | .rr, .c => .rr_c
  | .rr, .d => .rr_d
  | .rr, .e => .rr_e
  | .rr, .h => .rr_h
  | .rr, .l => .rr_l
  | .rr, .a => .rr_a
  | .sla, .b => .sla_b
  | .sla, .c => .sla_c
  | .sla, .d => .sla_d
  | .sla, .e => .sla_e
  | .sla, .h => .sla_h
  | .sla, .l => .sla_l
  | .sla, .a => .sla_a
  | .sra, .b => .sra_b
  | .sra, .c => .sra_c
  | .sra, .d => .sra_d
  | .sra, .e => .sra_e
  | .sra, .h => .sra_h
  | .sra, .l => .sra_l
  | .sra, .a => .sra_a
  | .sll, .b => .sll_b
  | .sll, .c => .sll_c
  | .sll, .d => .sll_d
  | .sll, .e => .sll_e
  | .sll, .h => .sll_h
  | .sll, .l => .sll_l
  | .sll, .a => .sll_a
  | .srl, .b => .srl_b
  | .srl, .c => .srl_c
  | .srl, .d => .srl_d
  | .srl, .e => .srl_e
  | .srl, .h => .srl_h
  | .srl, .l => .srl_l
  | .srl, .a => .srl_a

/-- The rows of rotate or shift of the byte at HL. -/
def Instr.rotAtHl : RotOp → Instr
  | .rlc => .rlc_at_hl
  | .rrc => .rrc_at_hl
  | .rl => .rl_at_hl
  | .rr => .rr_at_hl
  | .sla => .sla_at_hl
  | .sra => .sra_at_hl
  | .sll => .sll_at_hl
  | .srl => .srl_at_hl

/-- The rows of `BIT b,r`. -/
def Instr.bitReg : BitNo → Reg8 → Instr
  | .b0, .b => .bit_0_b
  | .b0, .c => .bit_0_c
  | .b0, .d => .bit_0_d
  | .b0, .e => .bit_0_e
  | .b0, .h => .bit_0_h
  | .b0, .l => .bit_0_l
  | .b0, .a => .bit_0_a
  | .b1, .b => .bit_1_b
  | .b1, .c => .bit_1_c
  | .b1, .d => .bit_1_d
  | .b1, .e => .bit_1_e
  | .b1, .h => .bit_1_h
  | .b1, .l => .bit_1_l
  | .b1, .a => .bit_1_a
  | .b2, .b => .bit_2_b
  | .b2, .c => .bit_2_c
  | .b2, .d => .bit_2_d
  | .b2, .e => .bit_2_e
  | .b2, .h => .bit_2_h
  | .b2, .l => .bit_2_l
  | .b2, .a => .bit_2_a
  | .b3, .b => .bit_3_b
  | .b3, .c => .bit_3_c
  | .b3, .d => .bit_3_d
  | .b3, .e => .bit_3_e
  | .b3, .h => .bit_3_h
  | .b3, .l => .bit_3_l
  | .b3, .a => .bit_3_a
  | .b4, .b => .bit_4_b
  | .b4, .c => .bit_4_c
  | .b4, .d => .bit_4_d
  | .b4, .e => .bit_4_e
  | .b4, .h => .bit_4_h
  | .b4, .l => .bit_4_l
  | .b4, .a => .bit_4_a
  | .b5, .b => .bit_5_b
  | .b5, .c => .bit_5_c
  | .b5, .d => .bit_5_d
  | .b5, .e => .bit_5_e
  | .b5, .h => .bit_5_h
  | .b5, .l => .bit_5_l
  | .b5, .a => .bit_5_a
  | .b6, .b => .bit_6_b
  | .b6, .c => .bit_6_c
  | .b6, .d => .bit_6_d
  | .b6, .e => .bit_6_e
  | .b6, .h => .bit_6_h
  | .b6, .l => .bit_6_l
  | .b6, .a => .bit_6_a
  | .b7, .b => .bit_7_b
  | .b7, .c => .bit_7_c
  | .b7, .d => .bit_7_d
  | .b7, .e => .bit_7_e
  | .b7, .h => .bit_7_h
  | .b7, .l => .bit_7_l
  | .b7, .a => .bit_7_a

/-- The rows of `BIT b,(HL)`. -/
def Instr.bitAtHl : BitNo → Instr
  | .b0 => .bit_0_at_hl
  | .b1 => .bit_1_at_hl
  | .b2 => .bit_2_at_hl
  | .b3 => .bit_3_at_hl
  | .b4 => .bit_4_at_hl
  | .b5 => .bit_5_at_hl
  | .b6 => .bit_6_at_hl
  | .b7 => .bit_7_at_hl

/-- The rows of `RES b,r`. -/
def Instr.resReg : BitNo → Reg8 → Instr
  | .b0, .b => .res_0_b
  | .b0, .c => .res_0_c
  | .b0, .d => .res_0_d
  | .b0, .e => .res_0_e
  | .b0, .h => .res_0_h
  | .b0, .l => .res_0_l
  | .b0, .a => .res_0_a
  | .b1, .b => .res_1_b
  | .b1, .c => .res_1_c
  | .b1, .d => .res_1_d
  | .b1, .e => .res_1_e
  | .b1, .h => .res_1_h
  | .b1, .l => .res_1_l
  | .b1, .a => .res_1_a
  | .b2, .b => .res_2_b
  | .b2, .c => .res_2_c
  | .b2, .d => .res_2_d
  | .b2, .e => .res_2_e
  | .b2, .h => .res_2_h
  | .b2, .l => .res_2_l
  | .b2, .a => .res_2_a
  | .b3, .b => .res_3_b
  | .b3, .c => .res_3_c
  | .b3, .d => .res_3_d
  | .b3, .e => .res_3_e
  | .b3, .h => .res_3_h
  | .b3, .l => .res_3_l
  | .b3, .a => .res_3_a
  | .b4, .b => .res_4_b
  | .b4, .c => .res_4_c
  | .b4, .d => .res_4_d
  | .b4, .e => .res_4_e
  | .b4, .h => .res_4_h
  | .b4, .l => .res_4_l
  | .b4, .a => .res_4_a
  | .b5, .b => .res_5_b
  | .b5, .c => .res_5_c
  | .b5, .d => .res_5_d
  | .b5, .e => .res_5_e
  | .b5, .h => .res_5_h
  | .b5, .l => .res_5_l
  | .b5, .a => .res_5_a
  | .b6, .b => .res_6_b
  | .b6, .c => .res_6_c
  | .b6, .d => .res_6_d
  | .b6, .e => .res_6_e
  | .b6, .h => .res_6_h
  | .b6, .l => .res_6_l
  | .b6, .a => .res_6_a
  | .b7, .b => .res_7_b
  | .b7, .c => .res_7_c
  | .b7, .d => .res_7_d
  | .b7, .e => .res_7_e
  | .b7, .h => .res_7_h
  | .b7, .l => .res_7_l
  | .b7, .a => .res_7_a

/-- The rows of `RES b,(HL)`. -/
def Instr.resAtHl : BitNo → Instr
  | .b0 => .res_0_at_hl
  | .b1 => .res_1_at_hl
  | .b2 => .res_2_at_hl
  | .b3 => .res_3_at_hl
  | .b4 => .res_4_at_hl
  | .b5 => .res_5_at_hl
  | .b6 => .res_6_at_hl
  | .b7 => .res_7_at_hl

/-- The rows of `SET b,r`. -/
def Instr.setReg : BitNo → Reg8 → Instr
  | .b0, .b => .set_0_b
  | .b0, .c => .set_0_c
  | .b0, .d => .set_0_d
  | .b0, .e => .set_0_e
  | .b0, .h => .set_0_h
  | .b0, .l => .set_0_l
  | .b0, .a => .set_0_a
  | .b1, .b => .set_1_b
  | .b1, .c => .set_1_c
  | .b1, .d => .set_1_d
  | .b1, .e => .set_1_e
  | .b1, .h => .set_1_h
  | .b1, .l => .set_1_l
  | .b1, .a => .set_1_a
  | .b2, .b => .set_2_b
  | .b2, .c => .set_2_c
  | .b2, .d => .set_2_d
  | .b2, .e => .set_2_e
  | .b2, .h => .set_2_h
  | .b2, .l => .set_2_l
  | .b2, .a => .set_2_a
  | .b3, .b => .set_3_b
  | .b3, .c => .set_3_c
  | .b3, .d => .set_3_d
  | .b3, .e => .set_3_e
  | .b3, .h => .set_3_h
  | .b3, .l => .set_3_l
  | .b3, .a => .set_3_a
  | .b4, .b => .set_4_b
  | .b4, .c => .set_4_c
  | .b4, .d => .set_4_d
  | .b4, .e => .set_4_e
  | .b4, .h => .set_4_h
  | .b4, .l => .set_4_l
  | .b4, .a => .set_4_a
  | .b5, .b => .set_5_b
  | .b5, .c => .set_5_c
  | .b5, .d => .set_5_d
  | .b5, .e => .set_5_e
  | .b5, .h => .set_5_h
  | .b5, .l => .set_5_l
  | .b5, .a => .set_5_a
  | .b6, .b => .set_6_b
  | .b6, .c => .set_6_c
  | .b6, .d => .set_6_d
  | .b6, .e => .set_6_e
  | .b6, .h => .set_6_h
  | .b6, .l => .set_6_l
  | .b6, .a => .set_6_a
  | .b7, .b => .set_7_b
  | .b7, .c => .set_7_c
  | .b7, .d => .set_7_d
  | .b7, .e => .set_7_e
  | .b7, .h => .set_7_h
  | .b7, .l => .set_7_l
  | .b7, .a => .set_7_a

/-- The rows of `SET b,(HL)`. -/
def Instr.setAtHl : BitNo → Instr
  | .b0 => .set_0_at_hl
  | .b1 => .set_1_at_hl
  | .b2 => .set_2_at_hl
  | .b3 => .set_3_at_hl
  | .b4 => .set_4_at_hl
  | .b5 => .set_5_at_hl
  | .b6 => .set_6_at_hl
  | .b7 => .set_7_at_hl

/-- The rows of indexed rotate or shift, memory only. -/
def Instr.rotXyd : XY → RotOp → Instr
  | .ix, .rlc => .rlc_at_ixd
  | .ix, .rrc => .rrc_at_ixd
  | .ix, .rl => .rl_at_ixd
  | .ix, .rr => .rr_at_ixd
  | .ix, .sla => .sla_at_ixd
  | .ix, .sra => .sra_at_ixd
  | .ix, .sll => .sll_at_ixd
  | .ix, .srl => .srl_at_ixd
  | .iy, .rlc => .rlc_at_iyd
  | .iy, .rrc => .rrc_at_iyd
  | .iy, .rl => .rl_at_iyd
  | .iy, .rr => .rr_at_iyd
  | .iy, .sla => .sla_at_iyd
  | .iy, .sra => .sra_at_iyd
  | .iy, .sll => .sll_at_iyd
  | .iy, .srl => .srl_at_iyd

/-- The rows of indexed rotate or shift with the register copy. -/
def Instr.rotXydCopy : XY → RotOp → Reg8 → Instr
  | .ix, .rlc, .b => .rlc_at_ixd_b
  | .ix, .rlc, .c => .rlc_at_ixd_c
  | .ix, .rlc, .d => .rlc_at_ixd_d
  | .ix, .rlc, .e => .rlc_at_ixd_e
  | .ix, .rlc, .h => .rlc_at_ixd_h
  | .ix, .rlc, .l => .rlc_at_ixd_l
  | .ix, .rlc, .a => .rlc_at_ixd_a
  | .ix, .rrc, .b => .rrc_at_ixd_b
  | .ix, .rrc, .c => .rrc_at_ixd_c
  | .ix, .rrc, .d => .rrc_at_ixd_d
  | .ix, .rrc, .e => .rrc_at_ixd_e
  | .ix, .rrc, .h => .rrc_at_ixd_h
  | .ix, .rrc, .l => .rrc_at_ixd_l
  | .ix, .rrc, .a => .rrc_at_ixd_a
  | .ix, .rl, .b => .rl_at_ixd_b
  | .ix, .rl, .c => .rl_at_ixd_c
  | .ix, .rl, .d => .rl_at_ixd_d
  | .ix, .rl, .e => .rl_at_ixd_e
  | .ix, .rl, .h => .rl_at_ixd_h
  | .ix, .rl, .l => .rl_at_ixd_l
  | .ix, .rl, .a => .rl_at_ixd_a
  | .ix, .rr, .b => .rr_at_ixd_b
  | .ix, .rr, .c => .rr_at_ixd_c
  | .ix, .rr, .d => .rr_at_ixd_d
  | .ix, .rr, .e => .rr_at_ixd_e
  | .ix, .rr, .h => .rr_at_ixd_h
  | .ix, .rr, .l => .rr_at_ixd_l
  | .ix, .rr, .a => .rr_at_ixd_a
  | .ix, .sla, .b => .sla_at_ixd_b
  | .ix, .sla, .c => .sla_at_ixd_c
  | .ix, .sla, .d => .sla_at_ixd_d
  | .ix, .sla, .e => .sla_at_ixd_e
  | .ix, .sla, .h => .sla_at_ixd_h
  | .ix, .sla, .l => .sla_at_ixd_l
  | .ix, .sla, .a => .sla_at_ixd_a
  | .ix, .sra, .b => .sra_at_ixd_b
  | .ix, .sra, .c => .sra_at_ixd_c
  | .ix, .sra, .d => .sra_at_ixd_d
  | .ix, .sra, .e => .sra_at_ixd_e
  | .ix, .sra, .h => .sra_at_ixd_h
  | .ix, .sra, .l => .sra_at_ixd_l
  | .ix, .sra, .a => .sra_at_ixd_a
  | .ix, .sll, .b => .sll_at_ixd_b
  | .ix, .sll, .c => .sll_at_ixd_c
  | .ix, .sll, .d => .sll_at_ixd_d
  | .ix, .sll, .e => .sll_at_ixd_e
  | .ix, .sll, .h => .sll_at_ixd_h
  | .ix, .sll, .l => .sll_at_ixd_l
  | .ix, .sll, .a => .sll_at_ixd_a
  | .ix, .srl, .b => .srl_at_ixd_b
  | .ix, .srl, .c => .srl_at_ixd_c
  | .ix, .srl, .d => .srl_at_ixd_d
  | .ix, .srl, .e => .srl_at_ixd_e
  | .ix, .srl, .h => .srl_at_ixd_h
  | .ix, .srl, .l => .srl_at_ixd_l
  | .ix, .srl, .a => .srl_at_ixd_a
  | .iy, .rlc, .b => .rlc_at_iyd_b
  | .iy, .rlc, .c => .rlc_at_iyd_c
  | .iy, .rlc, .d => .rlc_at_iyd_d
  | .iy, .rlc, .e => .rlc_at_iyd_e
  | .iy, .rlc, .h => .rlc_at_iyd_h
  | .iy, .rlc, .l => .rlc_at_iyd_l
  | .iy, .rlc, .a => .rlc_at_iyd_a
  | .iy, .rrc, .b => .rrc_at_iyd_b
  | .iy, .rrc, .c => .rrc_at_iyd_c
  | .iy, .rrc, .d => .rrc_at_iyd_d
  | .iy, .rrc, .e => .rrc_at_iyd_e
  | .iy, .rrc, .h => .rrc_at_iyd_h
  | .iy, .rrc, .l => .rrc_at_iyd_l
  | .iy, .rrc, .a => .rrc_at_iyd_a
  | .iy, .rl, .b => .rl_at_iyd_b
  | .iy, .rl, .c => .rl_at_iyd_c
  | .iy, .rl, .d => .rl_at_iyd_d
  | .iy, .rl, .e => .rl_at_iyd_e
  | .iy, .rl, .h => .rl_at_iyd_h
  | .iy, .rl, .l => .rl_at_iyd_l
  | .iy, .rl, .a => .rl_at_iyd_a
  | .iy, .rr, .b => .rr_at_iyd_b
  | .iy, .rr, .c => .rr_at_iyd_c
  | .iy, .rr, .d => .rr_at_iyd_d
  | .iy, .rr, .e => .rr_at_iyd_e
  | .iy, .rr, .h => .rr_at_iyd_h
  | .iy, .rr, .l => .rr_at_iyd_l
  | .iy, .rr, .a => .rr_at_iyd_a
  | .iy, .sla, .b => .sla_at_iyd_b
  | .iy, .sla, .c => .sla_at_iyd_c
  | .iy, .sla, .d => .sla_at_iyd_d
  | .iy, .sla, .e => .sla_at_iyd_e
  | .iy, .sla, .h => .sla_at_iyd_h
  | .iy, .sla, .l => .sla_at_iyd_l
  | .iy, .sla, .a => .sla_at_iyd_a
  | .iy, .sra, .b => .sra_at_iyd_b
  | .iy, .sra, .c => .sra_at_iyd_c
  | .iy, .sra, .d => .sra_at_iyd_d
  | .iy, .sra, .e => .sra_at_iyd_e
  | .iy, .sra, .h => .sra_at_iyd_h
  | .iy, .sra, .l => .sra_at_iyd_l
  | .iy, .sra, .a => .sra_at_iyd_a
  | .iy, .sll, .b => .sll_at_iyd_b
  | .iy, .sll, .c => .sll_at_iyd_c
  | .iy, .sll, .d => .sll_at_iyd_d
  | .iy, .sll, .e => .sll_at_iyd_e
  | .iy, .sll, .h => .sll_at_iyd_h
  | .iy, .sll, .l => .sll_at_iyd_l
  | .iy, .sll, .a => .sll_at_iyd_a
  | .iy, .srl, .b => .srl_at_iyd_b
  | .iy, .srl, .c => .srl_at_iyd_c
  | .iy, .srl, .d => .srl_at_iyd_d
  | .iy, .srl, .e => .srl_at_iyd_e
  | .iy, .srl, .h => .srl_at_iyd_h
  | .iy, .srl, .l => .srl_at_iyd_l
  | .iy, .srl, .a => .srl_at_iyd_a

/-- The rows of `BIT b,(XY+d)`; `z` is the opcode's low field, which changes nothing. -/
def Instr.bitXyd : XY → BitNo → BitNo → Instr
  | .ix, .b0, z => .bit_0_at_ixd z
  | .ix, .b1, z => .bit_1_at_ixd z
  | .ix, .b2, z => .bit_2_at_ixd z
  | .ix, .b3, z => .bit_3_at_ixd z
  | .ix, .b4, z => .bit_4_at_ixd z
  | .ix, .b5, z => .bit_5_at_ixd z
  | .ix, .b6, z => .bit_6_at_ixd z
  | .ix, .b7, z => .bit_7_at_ixd z
  | .iy, .b0, z => .bit_0_at_iyd z
  | .iy, .b1, z => .bit_1_at_iyd z
  | .iy, .b2, z => .bit_2_at_iyd z
  | .iy, .b3, z => .bit_3_at_iyd z
  | .iy, .b4, z => .bit_4_at_iyd z
  | .iy, .b5, z => .bit_5_at_iyd z
  | .iy, .b6, z => .bit_6_at_iyd z
  | .iy, .b7, z => .bit_7_at_iyd z

/-- The rows of `RES b,(XY+d)`. -/
def Instr.resXyd : XY → BitNo → Instr
  | .ix, .b0 => .res_0_at_ixd
  | .ix, .b1 => .res_1_at_ixd
  | .ix, .b2 => .res_2_at_ixd
  | .ix, .b3 => .res_3_at_ixd
  | .ix, .b4 => .res_4_at_ixd
  | .ix, .b5 => .res_5_at_ixd
  | .ix, .b6 => .res_6_at_ixd
  | .ix, .b7 => .res_7_at_ixd
  | .iy, .b0 => .res_0_at_iyd
  | .iy, .b1 => .res_1_at_iyd
  | .iy, .b2 => .res_2_at_iyd
  | .iy, .b3 => .res_3_at_iyd
  | .iy, .b4 => .res_4_at_iyd
  | .iy, .b5 => .res_5_at_iyd
  | .iy, .b6 => .res_6_at_iyd
  | .iy, .b7 => .res_7_at_iyd

/-- The rows of `RES b,(XY+d)` with the register copy. -/
def Instr.resXydCopy : XY → BitNo → Reg8 → Instr
  | .ix, .b0, .b => .res_0_at_ixd_b
  | .ix, .b0, .c => .res_0_at_ixd_c
  | .ix, .b0, .d => .res_0_at_ixd_d
  | .ix, .b0, .e => .res_0_at_ixd_e
  | .ix, .b0, .h => .res_0_at_ixd_h
  | .ix, .b0, .l => .res_0_at_ixd_l
  | .ix, .b0, .a => .res_0_at_ixd_a
  | .ix, .b1, .b => .res_1_at_ixd_b
  | .ix, .b1, .c => .res_1_at_ixd_c
  | .ix, .b1, .d => .res_1_at_ixd_d
  | .ix, .b1, .e => .res_1_at_ixd_e
  | .ix, .b1, .h => .res_1_at_ixd_h
  | .ix, .b1, .l => .res_1_at_ixd_l
  | .ix, .b1, .a => .res_1_at_ixd_a
  | .ix, .b2, .b => .res_2_at_ixd_b
  | .ix, .b2, .c => .res_2_at_ixd_c
  | .ix, .b2, .d => .res_2_at_ixd_d
  | .ix, .b2, .e => .res_2_at_ixd_e
  | .ix, .b2, .h => .res_2_at_ixd_h
  | .ix, .b2, .l => .res_2_at_ixd_l
  | .ix, .b2, .a => .res_2_at_ixd_a
  | .ix, .b3, .b => .res_3_at_ixd_b
  | .ix, .b3, .c => .res_3_at_ixd_c
  | .ix, .b3, .d => .res_3_at_ixd_d
  | .ix, .b3, .e => .res_3_at_ixd_e
  | .ix, .b3, .h => .res_3_at_ixd_h
  | .ix, .b3, .l => .res_3_at_ixd_l
  | .ix, .b3, .a => .res_3_at_ixd_a
  | .ix, .b4, .b => .res_4_at_ixd_b
  | .ix, .b4, .c => .res_4_at_ixd_c
  | .ix, .b4, .d => .res_4_at_ixd_d
  | .ix, .b4, .e => .res_4_at_ixd_e
  | .ix, .b4, .h => .res_4_at_ixd_h
  | .ix, .b4, .l => .res_4_at_ixd_l
  | .ix, .b4, .a => .res_4_at_ixd_a
  | .ix, .b5, .b => .res_5_at_ixd_b
  | .ix, .b5, .c => .res_5_at_ixd_c
  | .ix, .b5, .d => .res_5_at_ixd_d
  | .ix, .b5, .e => .res_5_at_ixd_e
  | .ix, .b5, .h => .res_5_at_ixd_h
  | .ix, .b5, .l => .res_5_at_ixd_l
  | .ix, .b5, .a => .res_5_at_ixd_a
  | .ix, .b6, .b => .res_6_at_ixd_b
  | .ix, .b6, .c => .res_6_at_ixd_c
  | .ix, .b6, .d => .res_6_at_ixd_d
  | .ix, .b6, .e => .res_6_at_ixd_e
  | .ix, .b6, .h => .res_6_at_ixd_h
  | .ix, .b6, .l => .res_6_at_ixd_l
  | .ix, .b6, .a => .res_6_at_ixd_a
  | .ix, .b7, .b => .res_7_at_ixd_b
  | .ix, .b7, .c => .res_7_at_ixd_c
  | .ix, .b7, .d => .res_7_at_ixd_d
  | .ix, .b7, .e => .res_7_at_ixd_e
  | .ix, .b7, .h => .res_7_at_ixd_h
  | .ix, .b7, .l => .res_7_at_ixd_l
  | .ix, .b7, .a => .res_7_at_ixd_a
  | .iy, .b0, .b => .res_0_at_iyd_b
  | .iy, .b0, .c => .res_0_at_iyd_c
  | .iy, .b0, .d => .res_0_at_iyd_d
  | .iy, .b0, .e => .res_0_at_iyd_e
  | .iy, .b0, .h => .res_0_at_iyd_h
  | .iy, .b0, .l => .res_0_at_iyd_l
  | .iy, .b0, .a => .res_0_at_iyd_a
  | .iy, .b1, .b => .res_1_at_iyd_b
  | .iy, .b1, .c => .res_1_at_iyd_c
  | .iy, .b1, .d => .res_1_at_iyd_d
  | .iy, .b1, .e => .res_1_at_iyd_e
  | .iy, .b1, .h => .res_1_at_iyd_h
  | .iy, .b1, .l => .res_1_at_iyd_l
  | .iy, .b1, .a => .res_1_at_iyd_a
  | .iy, .b2, .b => .res_2_at_iyd_b
  | .iy, .b2, .c => .res_2_at_iyd_c
  | .iy, .b2, .d => .res_2_at_iyd_d
  | .iy, .b2, .e => .res_2_at_iyd_e
  | .iy, .b2, .h => .res_2_at_iyd_h
  | .iy, .b2, .l => .res_2_at_iyd_l
  | .iy, .b2, .a => .res_2_at_iyd_a
  | .iy, .b3, .b => .res_3_at_iyd_b
  | .iy, .b3, .c => .res_3_at_iyd_c
  | .iy, .b3, .d => .res_3_at_iyd_d
  | .iy, .b3, .e => .res_3_at_iyd_e
  | .iy, .b3, .h => .res_3_at_iyd_h
  | .iy, .b3, .l => .res_3_at_iyd_l
  | .iy, .b3, .a => .res_3_at_iyd_a
  | .iy, .b4, .b => .res_4_at_iyd_b
  | .iy, .b4, .c => .res_4_at_iyd_c
  | .iy, .b4, .d => .res_4_at_iyd_d
  | .iy, .b4, .e => .res_4_at_iyd_e
  | .iy, .b4, .h => .res_4_at_iyd_h
  | .iy, .b4, .l => .res_4_at_iyd_l
  | .iy, .b4, .a => .res_4_at_iyd_a
  | .iy, .b5, .b => .res_5_at_iyd_b
  | .iy, .b5, .c => .res_5_at_iyd_c
  | .iy, .b5, .d => .res_5_at_iyd_d
  | .iy, .b5, .e => .res_5_at_iyd_e
  | .iy, .b5, .h => .res_5_at_iyd_h
  | .iy, .b5, .l => .res_5_at_iyd_l
  | .iy, .b5, .a => .res_5_at_iyd_a
  | .iy, .b6, .b => .res_6_at_iyd_b
  | .iy, .b6, .c => .res_6_at_iyd_c
  | .iy, .b6, .d => .res_6_at_iyd_d
  | .iy, .b6, .e => .res_6_at_iyd_e
  | .iy, .b6, .h => .res_6_at_iyd_h
  | .iy, .b6, .l => .res_6_at_iyd_l
  | .iy, .b6, .a => .res_6_at_iyd_a
  | .iy, .b7, .b => .res_7_at_iyd_b
  | .iy, .b7, .c => .res_7_at_iyd_c
  | .iy, .b7, .d => .res_7_at_iyd_d
  | .iy, .b7, .e => .res_7_at_iyd_e
  | .iy, .b7, .h => .res_7_at_iyd_h
  | .iy, .b7, .l => .res_7_at_iyd_l
  | .iy, .b7, .a => .res_7_at_iyd_a

/-- The rows of `SET b,(XY+d)`. -/
def Instr.setXyd : XY → BitNo → Instr
  | .ix, .b0 => .set_0_at_ixd
  | .ix, .b1 => .set_1_at_ixd
  | .ix, .b2 => .set_2_at_ixd
  | .ix, .b3 => .set_3_at_ixd
  | .ix, .b4 => .set_4_at_ixd
  | .ix, .b5 => .set_5_at_ixd
  | .ix, .b6 => .set_6_at_ixd
  | .ix, .b7 => .set_7_at_ixd
  | .iy, .b0 => .set_0_at_iyd
  | .iy, .b1 => .set_1_at_iyd
  | .iy, .b2 => .set_2_at_iyd
  | .iy, .b3 => .set_3_at_iyd
  | .iy, .b4 => .set_4_at_iyd
  | .iy, .b5 => .set_5_at_iyd
  | .iy, .b6 => .set_6_at_iyd
  | .iy, .b7 => .set_7_at_iyd

/-- The rows of `SET b,(XY+d)` with the register copy. -/
def Instr.setXydCopy : XY → BitNo → Reg8 → Instr
  | .ix, .b0, .b => .set_0_at_ixd_b
  | .ix, .b0, .c => .set_0_at_ixd_c
  | .ix, .b0, .d => .set_0_at_ixd_d
  | .ix, .b0, .e => .set_0_at_ixd_e
  | .ix, .b0, .h => .set_0_at_ixd_h
  | .ix, .b0, .l => .set_0_at_ixd_l
  | .ix, .b0, .a => .set_0_at_ixd_a
  | .ix, .b1, .b => .set_1_at_ixd_b
  | .ix, .b1, .c => .set_1_at_ixd_c
  | .ix, .b1, .d => .set_1_at_ixd_d
  | .ix, .b1, .e => .set_1_at_ixd_e
  | .ix, .b1, .h => .set_1_at_ixd_h
  | .ix, .b1, .l => .set_1_at_ixd_l
  | .ix, .b1, .a => .set_1_at_ixd_a
  | .ix, .b2, .b => .set_2_at_ixd_b
  | .ix, .b2, .c => .set_2_at_ixd_c
  | .ix, .b2, .d => .set_2_at_ixd_d
  | .ix, .b2, .e => .set_2_at_ixd_e
  | .ix, .b2, .h => .set_2_at_ixd_h
  | .ix, .b2, .l => .set_2_at_ixd_l
  | .ix, .b2, .a => .set_2_at_ixd_a
  | .ix, .b3, .b => .set_3_at_ixd_b
  | .ix, .b3, .c => .set_3_at_ixd_c
  | .ix, .b3, .d => .set_3_at_ixd_d
  | .ix, .b3, .e => .set_3_at_ixd_e
  | .ix, .b3, .h => .set_3_at_ixd_h
  | .ix, .b3, .l => .set_3_at_ixd_l
  | .ix, .b3, .a => .set_3_at_ixd_a
  | .ix, .b4, .b => .set_4_at_ixd_b
  | .ix, .b4, .c => .set_4_at_ixd_c
  | .ix, .b4, .d => .set_4_at_ixd_d
  | .ix, .b4, .e => .set_4_at_ixd_e
  | .ix, .b4, .h => .set_4_at_ixd_h
  | .ix, .b4, .l => .set_4_at_ixd_l
  | .ix, .b4, .a => .set_4_at_ixd_a
  | .ix, .b5, .b => .set_5_at_ixd_b
  | .ix, .b5, .c => .set_5_at_ixd_c
  | .ix, .b5, .d => .set_5_at_ixd_d
  | .ix, .b5, .e => .set_5_at_ixd_e
  | .ix, .b5, .h => .set_5_at_ixd_h
  | .ix, .b5, .l => .set_5_at_ixd_l
  | .ix, .b5, .a => .set_5_at_ixd_a
  | .ix, .b6, .b => .set_6_at_ixd_b
  | .ix, .b6, .c => .set_6_at_ixd_c
  | .ix, .b6, .d => .set_6_at_ixd_d
  | .ix, .b6, .e => .set_6_at_ixd_e
  | .ix, .b6, .h => .set_6_at_ixd_h
  | .ix, .b6, .l => .set_6_at_ixd_l
  | .ix, .b6, .a => .set_6_at_ixd_a
  | .ix, .b7, .b => .set_7_at_ixd_b
  | .ix, .b7, .c => .set_7_at_ixd_c
  | .ix, .b7, .d => .set_7_at_ixd_d
  | .ix, .b7, .e => .set_7_at_ixd_e
  | .ix, .b7, .h => .set_7_at_ixd_h
  | .ix, .b7, .l => .set_7_at_ixd_l
  | .ix, .b7, .a => .set_7_at_ixd_a
  | .iy, .b0, .b => .set_0_at_iyd_b
  | .iy, .b0, .c => .set_0_at_iyd_c
  | .iy, .b0, .d => .set_0_at_iyd_d
  | .iy, .b0, .e => .set_0_at_iyd_e
  | .iy, .b0, .h => .set_0_at_iyd_h
  | .iy, .b0, .l => .set_0_at_iyd_l
  | .iy, .b0, .a => .set_0_at_iyd_a
  | .iy, .b1, .b => .set_1_at_iyd_b
  | .iy, .b1, .c => .set_1_at_iyd_c
  | .iy, .b1, .d => .set_1_at_iyd_d
  | .iy, .b1, .e => .set_1_at_iyd_e
  | .iy, .b1, .h => .set_1_at_iyd_h
  | .iy, .b1, .l => .set_1_at_iyd_l
  | .iy, .b1, .a => .set_1_at_iyd_a
  | .iy, .b2, .b => .set_2_at_iyd_b
  | .iy, .b2, .c => .set_2_at_iyd_c
  | .iy, .b2, .d => .set_2_at_iyd_d
  | .iy, .b2, .e => .set_2_at_iyd_e
  | .iy, .b2, .h => .set_2_at_iyd_h
  | .iy, .b2, .l => .set_2_at_iyd_l
  | .iy, .b2, .a => .set_2_at_iyd_a
  | .iy, .b3, .b => .set_3_at_iyd_b
  | .iy, .b3, .c => .set_3_at_iyd_c
  | .iy, .b3, .d => .set_3_at_iyd_d
  | .iy, .b3, .e => .set_3_at_iyd_e
  | .iy, .b3, .h => .set_3_at_iyd_h
  | .iy, .b3, .l => .set_3_at_iyd_l
  | .iy, .b3, .a => .set_3_at_iyd_a
  | .iy, .b4, .b => .set_4_at_iyd_b
  | .iy, .b4, .c => .set_4_at_iyd_c
  | .iy, .b4, .d => .set_4_at_iyd_d
  | .iy, .b4, .e => .set_4_at_iyd_e
  | .iy, .b4, .h => .set_4_at_iyd_h
  | .iy, .b4, .l => .set_4_at_iyd_l
  | .iy, .b4, .a => .set_4_at_iyd_a
  | .iy, .b5, .b => .set_5_at_iyd_b
  | .iy, .b5, .c => .set_5_at_iyd_c
  | .iy, .b5, .d => .set_5_at_iyd_d
  | .iy, .b5, .e => .set_5_at_iyd_e
  | .iy, .b5, .h => .set_5_at_iyd_h
  | .iy, .b5, .l => .set_5_at_iyd_l
  | .iy, .b5, .a => .set_5_at_iyd_a
  | .iy, .b6, .b => .set_6_at_iyd_b
  | .iy, .b6, .c => .set_6_at_iyd_c
  | .iy, .b6, .d => .set_6_at_iyd_d
  | .iy, .b6, .e => .set_6_at_iyd_e
  | .iy, .b6, .h => .set_6_at_iyd_h
  | .iy, .b6, .l => .set_6_at_iyd_l
  | .iy, .b6, .a => .set_6_at_iyd_a
  | .iy, .b7, .b => .set_7_at_iyd_b
  | .iy, .b7, .c => .set_7_at_iyd_c
  | .iy, .b7, .d => .set_7_at_iyd_d
  | .iy, .b7, .e => .set_7_at_iyd_e
  | .iy, .b7, .h => .set_7_at_iyd_h
  | .iy, .b7, .l => .set_7_at_iyd_l
  | .iy, .b7, .a => .set_7_at_iyd_a

/-- The rows of `IN r,(C)`. -/
def Instr.inReg : Reg8 → Instr
  | .b => .in_b_at_c
  | .c => .in_c_at_c
  | .d => .in_d_at_c
  | .e => .in_e_at_c
  | .h => .in_h_at_c
  | .l => .in_l_at_c
  | .a => .in_a_at_c

/-- The rows of `OUT (C),r`. -/
def Instr.outReg : Reg8 → Instr
  | .b => .out_at_c_b
  | .c => .out_at_c_c
  | .d => .out_at_c_d
  | .e => .out_at_c_e
  | .h => .out_at_c_h
  | .l => .out_at_c_l
  | .a => .out_at_c_a

/-- The rows of `SBC HL,rr`. -/
def Instr.sbcHl : Pair → Instr
  | .bc => .sbc_hl_bc
  | .de => .sbc_hl_de
  | .hl => .sbc_hl_hl
  | .sp => .sbc_hl_sp

/-- The rows of `ADC HL,rr`. -/
def Instr.adcHl : Pair → Instr
  | .bc => .adc_hl_bc
  | .de => .adc_hl_de
  | .hl => .adc_hl_hl
  | .sp => .adc_hl_sp

/-- The rows of `LD (nn),rr` of the extended table. -/
def Instr.ldAtNnPair : Pair → Instr
  | .bc => .ld_at_nn_bc
  | .de => .ld_at_nn_de
  | .hl => .ld_at_nn_hl_ed
  | .sp => .ld_at_nn_sp

/-- The rows of `LD rr,(nn)` of the extended table. -/
def Instr.ldPairAtNn : Pair → Instr
  | .bc => .ld_bc_at_nn
  | .de => .ld_de_at_nn
  | .hl => .ld_hl_at_nn_ed
  | .sp => .ld_sp_at_nn

/-- The rows of `IM m`; `y` is the opcode's middle field. -/
def Instr.im : IntMode → BitNo → Instr
  | .im0, y => .im_0 y
  | .im1, y => .im_1 y
  | .im2, y => .im_2 y

/-- The table row of a form. -/
def Form.instr : Form → Instr
  | .ldRegReg r q => Instr.ldRegReg r q
  | .ldRegImm r => Instr.ldRegImm r
  | .ldRegAtHl r => Instr.ldRegAtHl r
  | .ldAtHlReg r => Instr.ldAtHlReg r
  | .ldAtHlImm => .ld_at_hl_n
  | .ldAAtBc => .ld_a_at_bc
  | .ldAAtDe => .ld_a_at_de
  | .ldAAtNn => .ld_a_at_nn
  | .ldAtBcA => .ld_at_bc_a
  | .ldAtDeA => .ld_at_de_a
  | .ldAtNnA => .ld_at_nn_a
  | .ldPairImm p => Instr.ldPairImm p
  | .ldHlAtNn => .ld_hl_at_nn
  | .ldAtNnHl => .ld_at_nn_hl
  | .ldSpHl => .ld_sp_hl
  | .push p => Instr.push p
  | .pop p => Instr.pop p
  | .exDeHl => .ex_de_hl
  | .exAf => .ex_af_af
  | .exx => .exx
  | .exSpHl => .ex_at_sp_hl
  | .aluReg op r => Instr.aluReg op r
  | .aluAtHl op => Instr.aluAtHl op
  | .aluImm op => Instr.aluImm op
  | .incReg r => Instr.incReg r
  | .incAtHl => .inc_at_hl
  | .decReg r => Instr.decReg r
  | .decAtHl => .dec_at_hl
  | .daa => .daa
  | .cpl => .cpl
  | .scf => .scf
  | .ccf => .ccf
  | .rlca => .rlca
  | .rrca => .rrca
  | .rla => .rla
  | .rra => .rra
  | .addHl p => Instr.addHl p
  | .incPair p => Instr.incPair p
  | .decPair p => Instr.decPair p
  | .jp => .jp_nn
  | .jpCc cc => Instr.jpCc cc
  | .jpHl => .jp_at_hl
  | .jr => .jr_e
  | .jrCc cc => Instr.jrCc cc
  | .djnz => .djnz_e
  | .call => .call_nn
  | .callCc cc => Instr.callCc cc
  | .ret => .ret
  | .retCc cc => Instr.retCc cc
  | .rst y => Instr.rst y
  | .nop => .nop
  | .halt => .halt
  | .di => .di
  | .ei => .ei
  | .inA => .in_a_at_n
  | .outA => .out_at_n_a
  | .prefixCb => .prefix_cb
  | .prefixDd => .prefix_dd
  | .prefixEd => .prefix_ed
  | .prefixFd => .prefix_fd
  | .ldXyImm x => Instr.ldXyImm x
  | .ldAtNnXy x => Instr.ldAtNnXy x
  | .ldXyAtNn x => Instr.ldXyAtNn x
  | .ldSpXy x => Instr.ldSpXy x
  | .pushXy x => Instr.pushXy x
  | .popXy x => Instr.popXy x
  | .exSpXy x => Instr.exSpXy x
  | .jpXy x => Instr.jpXy x
  | .addXy x p => Instr.addXy x p
  | .incXy x => Instr.incXy x
  | .decXy x => Instr.decXy x
  | .ldRegXyd x r => Instr.ldRegXyd x r
  | .ldXydReg x r => Instr.ldXydReg x r
  | .ldXydImm x => Instr.ldXydImm x
  | .incXyd x => Instr.incXyd x
  | .decXyd x => Instr.decXyd x
  | .aluXyd x op => Instr.aluXyd x op
  | .ldHalfImm x h => Instr.ldHalfImm x h
  | .ldRegHalf x r h => Instr.ldRegHalf x r h
  | .ldHalfReg x h r => Instr.ldHalfReg x h r
  | .ldHalfHalf x h k => Instr.ldHalfHalf x h k
  | .incHalf x h => Instr.incHalf x h
  | .decHalf x h => Instr.decHalf x h
  | .aluHalf x op h => Instr.aluHalf x op h
  | .rotReg k r => Instr.rotReg k r
  | .rotAtHl k => Instr.rotAtHl k
  | .bitReg b r => Instr.bitReg b r
  | .bitAtHl b => Instr.bitAtHl b
  | .resReg b r => Instr.resReg b r
  | .resAtHl b => Instr.resAtHl b
  | .setReg b r => Instr.setReg b r
  | .setAtHl b => Instr.setAtHl b
  | .rotXyd x k => Instr.rotXyd x k
  | .rotXydCopy x k r => Instr.rotXydCopy x k r
  | .bitXyd x b z => Instr.bitXyd x b z
  | .resXyd x b => Instr.resXyd x b
  | .resXydCopy x b r => Instr.resXydCopy x b r
  | .setXyd x b => Instr.setXyd x b
  | .setXydCopy x b r => Instr.setXydCopy x b r
  | .inReg r => Instr.inReg r
  | .inFlags => .in_at_c
  | .outReg r => Instr.outReg r
  | .outZero => .out_at_c_0
  | .sbcHl p => Instr.sbcHl p
  | .adcHl p => Instr.adcHl p
  | .ldAtNnPair p => Instr.ldAtNnPair p
  | .ldPairAtNn p => Instr.ldPairAtNn p
  | .neg y => .neg y
  | .retn y => .retn y
  | .reti => .reti
  | .im m y => Instr.im m y
  | .ldIA => .ld_i_a
  | .ldRA => .ld_r_a
  | .ldAI => .ld_a_i
  | .ldAR => .ld_a_r
  | .rrd => .rrd
  | .rld => .rld
  | .ldi => .ldi
  | .ldd => .ldd
  | .ldir => .ldir
  | .lddr => .lddr
  | .cpi => .cpi
  | .cpd => .cpd
  | .cpir => .cpir
  | .cpdr => .cpdr
  | .ini => .ini
  | .ind => .ind
  | .inir => .inir
  | .indr => .indr
  | .outi => .outi
  | .outd => .outd
  | .otir => .otir
  | .otdr => .otdr
  | .nopEd op => .nop_ed op

/-- How many operand bytes a form's cycle reads after its first byte (R90). The indexed bit forms read the opcode
after the displacement. -/
def Form.operandBytes : Form → Nat
  | .ldRegReg _ _ => 0
  | .ldRegImm _ => 1
  | .ldRegAtHl _ => 0
  | .ldAtHlReg _ => 0
  | .ldAtHlImm => 1
  | .ldAAtBc => 0
  | .ldAAtDe => 0
  | .ldAAtNn => 2
  | .ldAtBcA => 0
  | .ldAtDeA => 0
  | .ldAtNnA => 2
  | .ldPairImm _ => 2
  | .ldHlAtNn => 2
  | .ldAtNnHl => 2
  | .ldSpHl => 0
  | .push _ => 0
  | .pop _ => 0
  | .exDeHl => 0
  | .exAf => 0
  | .exx => 0
  | .exSpHl => 0
  | .aluReg _ _ => 0
  | .aluAtHl _ => 0
  | .aluImm _ => 1
  | .incReg _ => 0
  | .incAtHl => 0
  | .decReg _ => 0
  | .decAtHl => 0
  | .daa => 0
  | .cpl => 0
  | .scf => 0
  | .ccf => 0
  | .rlca => 0
  | .rrca => 0
  | .rla => 0
  | .rra => 0
  | .addHl _ => 0
  | .incPair _ => 0
  | .decPair _ => 0
  | .jp => 2
  | .jpCc _ => 2
  | .jpHl => 0
  | .jr => 1
  | .jrCc _ => 1
  | .djnz => 1
  | .call => 2
  | .callCc _ => 2
  | .ret => 0
  | .retCc _ => 0
  | .rst _ => 0
  | .nop => 0
  | .halt => 0
  | .di => 0
  | .ei => 0
  | .inA => 1
  | .outA => 1
  | .prefixCb => 0
  | .prefixDd => 0
  | .prefixEd => 0
  | .prefixFd => 0
  | .ldXyImm _ => 2
  | .ldAtNnXy _ => 2
  | .ldXyAtNn _ => 2
  | .ldSpXy _ => 0
  | .pushXy _ => 0
  | .popXy _ => 0
  | .exSpXy _ => 0
  | .jpXy _ => 0
  | .addXy _ _ => 0
  | .incXy _ => 0
  | .decXy _ => 0
  | .ldRegXyd _ _ => 1
  | .ldXydReg _ _ => 1
  | .ldXydImm _ => 2
  | .incXyd _ => 1
  | .decXyd _ => 1
  | .aluXyd _ _ => 1
  | .ldHalfImm _ _ => 1
  | .ldRegHalf _ _ _ => 0
  | .ldHalfReg _ _ _ => 0
  | .ldHalfHalf _ _ _ => 0
  | .incHalf _ _ => 0
  | .decHalf _ _ => 0
  | .aluHalf _ _ _ => 0
  | .rotReg _ _ => 0
  | .rotAtHl _ => 0
  | .bitReg _ _ => 0
  | .bitAtHl _ => 0
  | .resReg _ _ => 0
  | .resAtHl _ => 0
  | .setReg _ _ => 0
  | .setAtHl _ => 0
  | .rotXyd _ _ => 1
  | .rotXydCopy _ _ _ => 1
  | .bitXyd _ _ _ => 1
  | .resXyd _ _ => 1
  | .resXydCopy _ _ _ => 1
  | .setXyd _ _ => 1
  | .setXydCopy _ _ _ => 1
  | .inReg _ => 0
  | .inFlags => 0
  | .outReg _ => 0
  | .outZero => 0
  | .sbcHl _ => 0
  | .adcHl _ => 0
  | .ldAtNnPair _ => 2
  | .ldPairAtNn _ => 2
  | .neg _ => 0
  | .retn _ => 0
  | .reti => 0
  | .im _ _ => 0
  | .ldIA => 0
  | .ldRA => 0
  | .ldAI => 0
  | .ldAR => 0
  | .rrd => 0
  | .rld => 0
  | .ldi => 0
  | .ldd => 0
  | .ldir => 0
  | .lddr => 0
  | .cpi => 0
  | .cpd => 0
  | .cpir => 0
  | .cpdr => 0
  | .ini => 0
  | .ind => 0
  | .inir => 0
  | .indr => 0
  | .outi => 0
  | .outd => 0
  | .otir => 0
  | .otdr => 0
  | .nopEd _ => 0

/-! ## The encoder, written from the rows of opcode_table.json -/

/-- The three-bit field `y` (bits 5:3) or `z` (bits 2:0) of an opcode byte. -/
def fieldBits (k : BitNo) (place : Nat) : Byte := BitVec.ofNat 8 (k.val * 2 ^ place)

/-- A row of opcode_table.json: the fixed bytes before the operand bytes, how many operand bytes there are, and the
fixed bytes after them (the opcode of the `DD CB d op` form). -/
structure RowCode where
  before : List Byte
  operands : Nat
  after : List Byte
  deriving DecidableEq, Repr

/-- The rows of opcode_table.json (its columns `bytes` and `match`). -/
def rowCode : Instr → RowCode
  | .bit_0_at_ixd z => ⟨[0xDD#8, 0xCB#8], 1, [0x40#8 ||| fieldBits z 0]⟩
  | .bit_1_at_ixd z => ⟨[0xDD#8, 0xCB#8], 1, [0x48#8 ||| fieldBits z 0]⟩
  | .bit_2_at_ixd z => ⟨[0xDD#8, 0xCB#8], 1, [0x50#8 ||| fieldBits z 0]⟩
  | .bit_3_at_ixd z => ⟨[0xDD#8, 0xCB#8], 1, [0x58#8 ||| fieldBits z 0]⟩
  | .bit_4_at_ixd z => ⟨[0xDD#8, 0xCB#8], 1, [0x60#8 ||| fieldBits z 0]⟩
  | .bit_5_at_ixd z => ⟨[0xDD#8, 0xCB#8], 1, [0x68#8 ||| fieldBits z 0]⟩
  | .bit_6_at_ixd z => ⟨[0xDD#8, 0xCB#8], 1, [0x70#8 ||| fieldBits z 0]⟩
  | .bit_7_at_ixd z => ⟨[0xDD#8, 0xCB#8], 1, [0x78#8 ||| fieldBits z 0]⟩
  | .bit_0_at_iyd z => ⟨[0xFD#8, 0xCB#8], 1, [0x40#8 ||| fieldBits z 0]⟩
  | .bit_1_at_iyd z => ⟨[0xFD#8, 0xCB#8], 1, [0x48#8 ||| fieldBits z 0]⟩
  | .bit_2_at_iyd z => ⟨[0xFD#8, 0xCB#8], 1, [0x50#8 ||| fieldBits z 0]⟩
  | .bit_3_at_iyd z => ⟨[0xFD#8, 0xCB#8], 1, [0x58#8 ||| fieldBits z 0]⟩
  | .bit_4_at_iyd z => ⟨[0xFD#8, 0xCB#8], 1, [0x60#8 ||| fieldBits z 0]⟩
  | .bit_5_at_iyd z => ⟨[0xFD#8, 0xCB#8], 1, [0x68#8 ||| fieldBits z 0]⟩
  | .bit_6_at_iyd z => ⟨[0xFD#8, 0xCB#8], 1, [0x70#8 ||| fieldBits z 0]⟩
  | .bit_7_at_iyd z => ⟨[0xFD#8, 0xCB#8], 1, [0x78#8 ||| fieldBits z 0]⟩
  | .nop_ed op => ⟨[0xED#8, op], 0, []⟩
  | .neg y => ⟨[0xED#8, 0x44#8 ||| fieldBits y 3], 0, []⟩
  | .retn y => ⟨[0xED#8, 0x45#8 ||| fieldBits y 3], 0, []⟩
  | .im_0 y => ⟨[0xED#8, 0x46#8 ||| fieldBits y 3], 0, []⟩
  | .im_1 y => ⟨[0xED#8, 0x46#8 ||| fieldBits y 3], 0, []⟩
  | .im_2 y => ⟨[0xED#8, 0x46#8 ||| fieldBits y 3], 0, []⟩
  | .nop => ⟨[0x00#8], 0, []⟩
  | .ld_bc_nn => ⟨[0x01#8], 2, []⟩
  | .ld_at_bc_a => ⟨[0x02#8], 0, []⟩
  | .inc_bc => ⟨[0x03#8], 0, []⟩
  | .inc_b => ⟨[0x04#8], 0, []⟩
  | .dec_b => ⟨[0x05#8], 0, []⟩
  | .ld_b_n => ⟨[0x06#8], 1, []⟩
  | .rlca => ⟨[0x07#8], 0, []⟩
  | .ex_af_af => ⟨[0x08#8], 0, []⟩
  | .add_hl_bc => ⟨[0x09#8], 0, []⟩
  | .ld_a_at_bc => ⟨[0x0A#8], 0, []⟩
  | .dec_bc => ⟨[0x0B#8], 0, []⟩
  | .inc_c => ⟨[0x0C#8], 0, []⟩
  | .dec_c => ⟨[0x0D#8], 0, []⟩
  | .ld_c_n => ⟨[0x0E#8], 1, []⟩
  | .rrca => ⟨[0x0F#8], 0, []⟩
  | .djnz_e => ⟨[0x10#8], 1, []⟩
  | .ld_de_nn => ⟨[0x11#8], 2, []⟩
  | .ld_at_de_a => ⟨[0x12#8], 0, []⟩
  | .inc_de => ⟨[0x13#8], 0, []⟩
  | .inc_d => ⟨[0x14#8], 0, []⟩
  | .dec_d => ⟨[0x15#8], 0, []⟩
  | .ld_d_n => ⟨[0x16#8], 1, []⟩
  | .rla => ⟨[0x17#8], 0, []⟩
  | .jr_e => ⟨[0x18#8], 1, []⟩
  | .add_hl_de => ⟨[0x19#8], 0, []⟩
  | .ld_a_at_de => ⟨[0x1A#8], 0, []⟩
  | .dec_de => ⟨[0x1B#8], 0, []⟩
  | .inc_e => ⟨[0x1C#8], 0, []⟩
  | .dec_e => ⟨[0x1D#8], 0, []⟩
  | .ld_e_n => ⟨[0x1E#8], 1, []⟩
  | .rra => ⟨[0x1F#8], 0, []⟩
  | .jr_nz_e => ⟨[0x20#8], 1, []⟩
  | .ld_hl_nn => ⟨[0x21#8], 2, []⟩
  | .ld_at_nn_hl => ⟨[0x22#8], 2, []⟩
  | .inc_hl => ⟨[0x23#8], 0, []⟩
  | .inc_h => ⟨[0x24#8], 0, []⟩
  | .dec_h => ⟨[0x25#8], 0, []⟩
  | .ld_h_n => ⟨[0x26#8], 1, []⟩
  | .daa => ⟨[0x27#8], 0, []⟩
  | .jr_z_e => ⟨[0x28#8], 1, []⟩
  | .add_hl_hl => ⟨[0x29#8], 0, []⟩
  | .ld_hl_at_nn => ⟨[0x2A#8], 2, []⟩
  | .dec_hl => ⟨[0x2B#8], 0, []⟩
  | .inc_l => ⟨[0x2C#8], 0, []⟩
  | .dec_l => ⟨[0x2D#8], 0, []⟩
  | .ld_l_n => ⟨[0x2E#8], 1, []⟩
  | .cpl => ⟨[0x2F#8], 0, []⟩
  | .jr_nc_e => ⟨[0x30#8], 1, []⟩
  | .ld_sp_nn => ⟨[0x31#8], 2, []⟩
  | .ld_at_nn_a => ⟨[0x32#8], 2, []⟩
  | .inc_sp => ⟨[0x33#8], 0, []⟩
  | .inc_at_hl => ⟨[0x34#8], 0, []⟩
  | .dec_at_hl => ⟨[0x35#8], 0, []⟩
  | .ld_at_hl_n => ⟨[0x36#8], 1, []⟩
  | .scf => ⟨[0x37#8], 0, []⟩
  | .jr_c_e => ⟨[0x38#8], 1, []⟩
  | .add_hl_sp => ⟨[0x39#8], 0, []⟩
  | .ld_a_at_nn => ⟨[0x3A#8], 2, []⟩
  | .dec_sp => ⟨[0x3B#8], 0, []⟩
  | .inc_a => ⟨[0x3C#8], 0, []⟩
  | .dec_a => ⟨[0x3D#8], 0, []⟩
  | .ld_a_n => ⟨[0x3E#8], 1, []⟩
  | .ccf => ⟨[0x3F#8], 0, []⟩
  | .ld_b_b => ⟨[0x40#8], 0, []⟩
  | .ld_b_c => ⟨[0x41#8], 0, []⟩
  | .ld_b_d => ⟨[0x42#8], 0, []⟩
  | .ld_b_e => ⟨[0x43#8], 0, []⟩
  | .ld_b_h => ⟨[0x44#8], 0, []⟩
  | .ld_b_l => ⟨[0x45#8], 0, []⟩
  | .ld_b_at_hl => ⟨[0x46#8], 0, []⟩
  | .ld_b_a => ⟨[0x47#8], 0, []⟩
  | .ld_c_b => ⟨[0x48#8], 0, []⟩
  | .ld_c_c => ⟨[0x49#8], 0, []⟩
  | .ld_c_d => ⟨[0x4A#8], 0, []⟩
  | .ld_c_e => ⟨[0x4B#8], 0, []⟩
  | .ld_c_h => ⟨[0x4C#8], 0, []⟩
  | .ld_c_l => ⟨[0x4D#8], 0, []⟩
  | .ld_c_at_hl => ⟨[0x4E#8], 0, []⟩
  | .ld_c_a => ⟨[0x4F#8], 0, []⟩
  | .ld_d_b => ⟨[0x50#8], 0, []⟩
  | .ld_d_c => ⟨[0x51#8], 0, []⟩
  | .ld_d_d => ⟨[0x52#8], 0, []⟩
  | .ld_d_e => ⟨[0x53#8], 0, []⟩
  | .ld_d_h => ⟨[0x54#8], 0, []⟩
  | .ld_d_l => ⟨[0x55#8], 0, []⟩
  | .ld_d_at_hl => ⟨[0x56#8], 0, []⟩
  | .ld_d_a => ⟨[0x57#8], 0, []⟩
  | .ld_e_b => ⟨[0x58#8], 0, []⟩
  | .ld_e_c => ⟨[0x59#8], 0, []⟩
  | .ld_e_d => ⟨[0x5A#8], 0, []⟩
  | .ld_e_e => ⟨[0x5B#8], 0, []⟩
  | .ld_e_h => ⟨[0x5C#8], 0, []⟩
  | .ld_e_l => ⟨[0x5D#8], 0, []⟩
  | .ld_e_at_hl => ⟨[0x5E#8], 0, []⟩
  | .ld_e_a => ⟨[0x5F#8], 0, []⟩
  | .ld_h_b => ⟨[0x60#8], 0, []⟩
  | .ld_h_c => ⟨[0x61#8], 0, []⟩
  | .ld_h_d => ⟨[0x62#8], 0, []⟩
  | .ld_h_e => ⟨[0x63#8], 0, []⟩
  | .ld_h_h => ⟨[0x64#8], 0, []⟩
  | .ld_h_l => ⟨[0x65#8], 0, []⟩
  | .ld_h_at_hl => ⟨[0x66#8], 0, []⟩
  | .ld_h_a => ⟨[0x67#8], 0, []⟩
  | .ld_l_b => ⟨[0x68#8], 0, []⟩
  | .ld_l_c => ⟨[0x69#8], 0, []⟩
  | .ld_l_d => ⟨[0x6A#8], 0, []⟩
  | .ld_l_e => ⟨[0x6B#8], 0, []⟩
  | .ld_l_h => ⟨[0x6C#8], 0, []⟩
  | .ld_l_l => ⟨[0x6D#8], 0, []⟩
  | .ld_l_at_hl => ⟨[0x6E#8], 0, []⟩
  | .ld_l_a => ⟨[0x6F#8], 0, []⟩
  | .ld_at_hl_b => ⟨[0x70#8], 0, []⟩
  | .ld_at_hl_c => ⟨[0x71#8], 0, []⟩
  | .ld_at_hl_d => ⟨[0x72#8], 0, []⟩
  | .ld_at_hl_e => ⟨[0x73#8], 0, []⟩
  | .ld_at_hl_h => ⟨[0x74#8], 0, []⟩
  | .ld_at_hl_l => ⟨[0x75#8], 0, []⟩
  | .halt => ⟨[0x76#8], 0, []⟩
  | .ld_at_hl_a => ⟨[0x77#8], 0, []⟩
  | .ld_a_b => ⟨[0x78#8], 0, []⟩
  | .ld_a_c => ⟨[0x79#8], 0, []⟩
  | .ld_a_d => ⟨[0x7A#8], 0, []⟩
  | .ld_a_e => ⟨[0x7B#8], 0, []⟩
  | .ld_a_h => ⟨[0x7C#8], 0, []⟩
  | .ld_a_l => ⟨[0x7D#8], 0, []⟩
  | .ld_a_at_hl => ⟨[0x7E#8], 0, []⟩
  | .ld_a_a => ⟨[0x7F#8], 0, []⟩
  | .add_a_b => ⟨[0x80#8], 0, []⟩
  | .add_a_c => ⟨[0x81#8], 0, []⟩
  | .add_a_d => ⟨[0x82#8], 0, []⟩
  | .add_a_e => ⟨[0x83#8], 0, []⟩
  | .add_a_h => ⟨[0x84#8], 0, []⟩
  | .add_a_l => ⟨[0x85#8], 0, []⟩
  | .add_a_at_hl => ⟨[0x86#8], 0, []⟩
  | .add_a_a => ⟨[0x87#8], 0, []⟩
  | .adc_a_b => ⟨[0x88#8], 0, []⟩
  | .adc_a_c => ⟨[0x89#8], 0, []⟩
  | .adc_a_d => ⟨[0x8A#8], 0, []⟩
  | .adc_a_e => ⟨[0x8B#8], 0, []⟩
  | .adc_a_h => ⟨[0x8C#8], 0, []⟩
  | .adc_a_l => ⟨[0x8D#8], 0, []⟩
  | .adc_a_at_hl => ⟨[0x8E#8], 0, []⟩
  | .adc_a_a => ⟨[0x8F#8], 0, []⟩
  | .sub_b => ⟨[0x90#8], 0, []⟩
  | .sub_c => ⟨[0x91#8], 0, []⟩
  | .sub_d => ⟨[0x92#8], 0, []⟩
  | .sub_e => ⟨[0x93#8], 0, []⟩
  | .sub_h => ⟨[0x94#8], 0, []⟩
  | .sub_l => ⟨[0x95#8], 0, []⟩
  | .sub_at_hl => ⟨[0x96#8], 0, []⟩
  | .sub_a => ⟨[0x97#8], 0, []⟩
  | .sbc_a_b => ⟨[0x98#8], 0, []⟩
  | .sbc_a_c => ⟨[0x99#8], 0, []⟩
  | .sbc_a_d => ⟨[0x9A#8], 0, []⟩
  | .sbc_a_e => ⟨[0x9B#8], 0, []⟩
  | .sbc_a_h => ⟨[0x9C#8], 0, []⟩
  | .sbc_a_l => ⟨[0x9D#8], 0, []⟩
  | .sbc_a_at_hl => ⟨[0x9E#8], 0, []⟩
  | .sbc_a_a => ⟨[0x9F#8], 0, []⟩
  | .and_b => ⟨[0xA0#8], 0, []⟩
  | .and_c => ⟨[0xA1#8], 0, []⟩
  | .and_d => ⟨[0xA2#8], 0, []⟩
  | .and_e => ⟨[0xA3#8], 0, []⟩
  | .and_h => ⟨[0xA4#8], 0, []⟩
  | .and_l => ⟨[0xA5#8], 0, []⟩
  | .and_at_hl => ⟨[0xA6#8], 0, []⟩
  | .and_a => ⟨[0xA7#8], 0, []⟩
  | .xor_b => ⟨[0xA8#8], 0, []⟩
  | .xor_c => ⟨[0xA9#8], 0, []⟩
  | .xor_d => ⟨[0xAA#8], 0, []⟩
  | .xor_e => ⟨[0xAB#8], 0, []⟩
  | .xor_h => ⟨[0xAC#8], 0, []⟩
  | .xor_l => ⟨[0xAD#8], 0, []⟩
  | .xor_at_hl => ⟨[0xAE#8], 0, []⟩
  | .xor_a => ⟨[0xAF#8], 0, []⟩
  | .or_b => ⟨[0xB0#8], 0, []⟩
  | .or_c => ⟨[0xB1#8], 0, []⟩
  | .or_d => ⟨[0xB2#8], 0, []⟩
  | .or_e => ⟨[0xB3#8], 0, []⟩
  | .or_h => ⟨[0xB4#8], 0, []⟩
  | .or_l => ⟨[0xB5#8], 0, []⟩
  | .or_at_hl => ⟨[0xB6#8], 0, []⟩
  | .or_a => ⟨[0xB7#8], 0, []⟩
  | .cp_b => ⟨[0xB8#8], 0, []⟩
  | .cp_c => ⟨[0xB9#8], 0, []⟩
  | .cp_d => ⟨[0xBA#8], 0, []⟩
  | .cp_e => ⟨[0xBB#8], 0, []⟩
  | .cp_h => ⟨[0xBC#8], 0, []⟩
  | .cp_l => ⟨[0xBD#8], 0, []⟩
  | .cp_at_hl => ⟨[0xBE#8], 0, []⟩
  | .cp_a => ⟨[0xBF#8], 0, []⟩
  | .ret_nz => ⟨[0xC0#8], 0, []⟩
  | .pop_bc => ⟨[0xC1#8], 0, []⟩
  | .jp_nz_nn => ⟨[0xC2#8], 2, []⟩
  | .jp_nn => ⟨[0xC3#8], 2, []⟩
  | .call_nz_nn => ⟨[0xC4#8], 2, []⟩
  | .push_bc => ⟨[0xC5#8], 0, []⟩
  | .add_a_n => ⟨[0xC6#8], 1, []⟩
  | .rst_00h => ⟨[0xC7#8], 0, []⟩
  | .ret_z => ⟨[0xC8#8], 0, []⟩
  | .ret => ⟨[0xC9#8], 0, []⟩
  | .jp_z_nn => ⟨[0xCA#8], 2, []⟩
  | .prefix_cb => ⟨[0xCB#8], 0, []⟩
  | .call_z_nn => ⟨[0xCC#8], 2, []⟩
  | .call_nn => ⟨[0xCD#8], 2, []⟩
  | .adc_a_n => ⟨[0xCE#8], 1, []⟩
  | .rst_08h => ⟨[0xCF#8], 0, []⟩
  | .ret_nc => ⟨[0xD0#8], 0, []⟩
  | .pop_de => ⟨[0xD1#8], 0, []⟩
  | .jp_nc_nn => ⟨[0xD2#8], 2, []⟩
  | .out_at_n_a => ⟨[0xD3#8], 1, []⟩
  | .call_nc_nn => ⟨[0xD4#8], 2, []⟩
  | .push_de => ⟨[0xD5#8], 0, []⟩
  | .sub_n => ⟨[0xD6#8], 1, []⟩
  | .rst_10h => ⟨[0xD7#8], 0, []⟩
  | .ret_c => ⟨[0xD8#8], 0, []⟩
  | .exx => ⟨[0xD9#8], 0, []⟩
  | .jp_c_nn => ⟨[0xDA#8], 2, []⟩
  | .in_a_at_n => ⟨[0xDB#8], 1, []⟩
  | .call_c_nn => ⟨[0xDC#8], 2, []⟩
  | .prefix_dd => ⟨[0xDD#8], 0, []⟩
  | .sbc_a_n => ⟨[0xDE#8], 1, []⟩
  | .rst_18h => ⟨[0xDF#8], 0, []⟩
  | .ret_po => ⟨[0xE0#8], 0, []⟩
  | .pop_hl => ⟨[0xE1#8], 0, []⟩
  | .jp_po_nn => ⟨[0xE2#8], 2, []⟩
  | .ex_at_sp_hl => ⟨[0xE3#8], 0, []⟩
  | .call_po_nn => ⟨[0xE4#8], 2, []⟩
  | .push_hl => ⟨[0xE5#8], 0, []⟩
  | .and_n => ⟨[0xE6#8], 1, []⟩
  | .rst_20h => ⟨[0xE7#8], 0, []⟩
  | .ret_pe => ⟨[0xE8#8], 0, []⟩
  | .jp_at_hl => ⟨[0xE9#8], 0, []⟩
  | .jp_pe_nn => ⟨[0xEA#8], 2, []⟩
  | .ex_de_hl => ⟨[0xEB#8], 0, []⟩
  | .call_pe_nn => ⟨[0xEC#8], 2, []⟩
  | .prefix_ed => ⟨[0xED#8], 0, []⟩
  | .xor_n => ⟨[0xEE#8], 1, []⟩
  | .rst_28h => ⟨[0xEF#8], 0, []⟩
  | .ret_p => ⟨[0xF0#8], 0, []⟩
  | .pop_af => ⟨[0xF1#8], 0, []⟩
  | .jp_p_nn => ⟨[0xF2#8], 2, []⟩
  | .di => ⟨[0xF3#8], 0, []⟩
  | .call_p_nn => ⟨[0xF4#8], 2, []⟩
  | .push_af => ⟨[0xF5#8], 0, []⟩
  | .or_n => ⟨[0xF6#8], 1, []⟩
  | .rst_30h => ⟨[0xF7#8], 0, []⟩
  | .ret_m => ⟨[0xF8#8], 0, []⟩
  | .ld_sp_hl => ⟨[0xF9#8], 0, []⟩
  | .jp_m_nn => ⟨[0xFA#8], 2, []⟩
  | .ei => ⟨[0xFB#8], 0, []⟩
  | .call_m_nn => ⟨[0xFC#8], 2, []⟩
  | .prefix_fd => ⟨[0xFD#8], 0, []⟩
  | .cp_n => ⟨[0xFE#8], 1, []⟩
  | .rst_38h => ⟨[0xFF#8], 0, []⟩
  | .add_ix_bc => ⟨[0xDD#8, 0x09#8], 0, []⟩
  | .add_ix_de => ⟨[0xDD#8, 0x19#8], 0, []⟩
  | .ld_ix_nn => ⟨[0xDD#8, 0x21#8], 2, []⟩
  | .ld_at_nn_ix => ⟨[0xDD#8, 0x22#8], 2, []⟩
  | .inc_ix => ⟨[0xDD#8, 0x23#8], 0, []⟩
  | .inc_ixh => ⟨[0xDD#8, 0x24#8], 0, []⟩
  | .dec_ixh => ⟨[0xDD#8, 0x25#8], 0, []⟩
  | .ld_ixh_n => ⟨[0xDD#8, 0x26#8], 1, []⟩
  | .add_ix_ix => ⟨[0xDD#8, 0x29#8], 0, []⟩
  | .ld_ix_at_nn => ⟨[0xDD#8, 0x2A#8], 2, []⟩
  | .dec_ix => ⟨[0xDD#8, 0x2B#8], 0, []⟩
  | .inc_ixl => ⟨[0xDD#8, 0x2C#8], 0, []⟩
  | .dec_ixl => ⟨[0xDD#8, 0x2D#8], 0, []⟩
  | .ld_ixl_n => ⟨[0xDD#8, 0x2E#8], 1, []⟩
  | .inc_at_ixd => ⟨[0xDD#8, 0x34#8], 1, []⟩
  | .dec_at_ixd => ⟨[0xDD#8, 0x35#8], 1, []⟩
  | .ld_at_ixd_n => ⟨[0xDD#8, 0x36#8], 2, []⟩
  | .add_ix_sp => ⟨[0xDD#8, 0x39#8], 0, []⟩
  | .ld_b_ixh => ⟨[0xDD#8, 0x44#8], 0, []⟩
  | .ld_b_ixl => ⟨[0xDD#8, 0x45#8], 0, []⟩
  | .ld_b_at_ixd => ⟨[0xDD#8, 0x46#8], 1, []⟩
  | .ld_c_ixh => ⟨[0xDD#8, 0x4C#8], 0, []⟩
  | .ld_c_ixl => ⟨[0xDD#8, 0x4D#8], 0, []⟩
  | .ld_c_at_ixd => ⟨[0xDD#8, 0x4E#8], 1, []⟩
  | .ld_d_ixh => ⟨[0xDD#8, 0x54#8], 0, []⟩
  | .ld_d_ixl => ⟨[0xDD#8, 0x55#8], 0, []⟩
  | .ld_d_at_ixd => ⟨[0xDD#8, 0x56#8], 1, []⟩
  | .ld_e_ixh => ⟨[0xDD#8, 0x5C#8], 0, []⟩
  | .ld_e_ixl => ⟨[0xDD#8, 0x5D#8], 0, []⟩
  | .ld_e_at_ixd => ⟨[0xDD#8, 0x5E#8], 1, []⟩
  | .ld_ixh_b => ⟨[0xDD#8, 0x60#8], 0, []⟩
  | .ld_ixh_c => ⟨[0xDD#8, 0x61#8], 0, []⟩
  | .ld_ixh_d => ⟨[0xDD#8, 0x62#8], 0, []⟩
  | .ld_ixh_e => ⟨[0xDD#8, 0x63#8], 0, []⟩
  | .ld_ixh_ixh => ⟨[0xDD#8, 0x64#8], 0, []⟩
  | .ld_ixh_ixl => ⟨[0xDD#8, 0x65#8], 0, []⟩
  | .ld_h_at_ixd => ⟨[0xDD#8, 0x66#8], 1, []⟩
  | .ld_ixh_a => ⟨[0xDD#8, 0x67#8], 0, []⟩
  | .ld_ixl_b => ⟨[0xDD#8, 0x68#8], 0, []⟩
  | .ld_ixl_c => ⟨[0xDD#8, 0x69#8], 0, []⟩
  | .ld_ixl_d => ⟨[0xDD#8, 0x6A#8], 0, []⟩
  | .ld_ixl_e => ⟨[0xDD#8, 0x6B#8], 0, []⟩
  | .ld_ixl_ixh => ⟨[0xDD#8, 0x6C#8], 0, []⟩
  | .ld_ixl_ixl => ⟨[0xDD#8, 0x6D#8], 0, []⟩
  | .ld_l_at_ixd => ⟨[0xDD#8, 0x6E#8], 1, []⟩
  | .ld_ixl_a => ⟨[0xDD#8, 0x6F#8], 0, []⟩
  | .ld_at_ixd_b => ⟨[0xDD#8, 0x70#8], 1, []⟩
  | .ld_at_ixd_c => ⟨[0xDD#8, 0x71#8], 1, []⟩
  | .ld_at_ixd_d => ⟨[0xDD#8, 0x72#8], 1, []⟩
  | .ld_at_ixd_e => ⟨[0xDD#8, 0x73#8], 1, []⟩
  | .ld_at_ixd_h => ⟨[0xDD#8, 0x74#8], 1, []⟩
  | .ld_at_ixd_l => ⟨[0xDD#8, 0x75#8], 1, []⟩
  | .ld_at_ixd_a => ⟨[0xDD#8, 0x77#8], 1, []⟩
  | .ld_a_ixh => ⟨[0xDD#8, 0x7C#8], 0, []⟩
  | .ld_a_ixl => ⟨[0xDD#8, 0x7D#8], 0, []⟩
  | .ld_a_at_ixd => ⟨[0xDD#8, 0x7E#8], 1, []⟩
  | .add_a_ixh => ⟨[0xDD#8, 0x84#8], 0, []⟩
  | .add_a_ixl => ⟨[0xDD#8, 0x85#8], 0, []⟩
  | .add_a_at_ixd => ⟨[0xDD#8, 0x86#8], 1, []⟩
  | .adc_a_ixh => ⟨[0xDD#8, 0x8C#8], 0, []⟩
  | .adc_a_ixl => ⟨[0xDD#8, 0x8D#8], 0, []⟩
  | .adc_a_at_ixd => ⟨[0xDD#8, 0x8E#8], 1, []⟩
  | .sub_ixh => ⟨[0xDD#8, 0x94#8], 0, []⟩
  | .sub_ixl => ⟨[0xDD#8, 0x95#8], 0, []⟩
  | .sub_at_ixd => ⟨[0xDD#8, 0x96#8], 1, []⟩
  | .sbc_a_ixh => ⟨[0xDD#8, 0x9C#8], 0, []⟩
  | .sbc_a_ixl => ⟨[0xDD#8, 0x9D#8], 0, []⟩
  | .sbc_a_at_ixd => ⟨[0xDD#8, 0x9E#8], 1, []⟩
  | .and_ixh => ⟨[0xDD#8, 0xA4#8], 0, []⟩
  | .and_ixl => ⟨[0xDD#8, 0xA5#8], 0, []⟩
  | .and_at_ixd => ⟨[0xDD#8, 0xA6#8], 1, []⟩
  | .xor_ixh => ⟨[0xDD#8, 0xAC#8], 0, []⟩
  | .xor_ixl => ⟨[0xDD#8, 0xAD#8], 0, []⟩
  | .xor_at_ixd => ⟨[0xDD#8, 0xAE#8], 1, []⟩
  | .or_ixh => ⟨[0xDD#8, 0xB4#8], 0, []⟩
  | .or_ixl => ⟨[0xDD#8, 0xB5#8], 0, []⟩
  | .or_at_ixd => ⟨[0xDD#8, 0xB6#8], 1, []⟩
  | .cp_ixh => ⟨[0xDD#8, 0xBC#8], 0, []⟩
  | .cp_ixl => ⟨[0xDD#8, 0xBD#8], 0, []⟩
  | .cp_at_ixd => ⟨[0xDD#8, 0xBE#8], 1, []⟩
  | .pop_ix => ⟨[0xDD#8, 0xE1#8], 0, []⟩
  | .ex_at_sp_ix => ⟨[0xDD#8, 0xE3#8], 0, []⟩
  | .push_ix => ⟨[0xDD#8, 0xE5#8], 0, []⟩
  | .jp_at_ix => ⟨[0xDD#8, 0xE9#8], 0, []⟩
  | .ld_sp_ix => ⟨[0xDD#8, 0xF9#8], 0, []⟩
  | .add_iy_bc => ⟨[0xFD#8, 0x09#8], 0, []⟩
  | .add_iy_de => ⟨[0xFD#8, 0x19#8], 0, []⟩
  | .ld_iy_nn => ⟨[0xFD#8, 0x21#8], 2, []⟩
  | .ld_at_nn_iy => ⟨[0xFD#8, 0x22#8], 2, []⟩
  | .inc_iy => ⟨[0xFD#8, 0x23#8], 0, []⟩
  | .inc_iyh => ⟨[0xFD#8, 0x24#8], 0, []⟩
  | .dec_iyh => ⟨[0xFD#8, 0x25#8], 0, []⟩
  | .ld_iyh_n => ⟨[0xFD#8, 0x26#8], 1, []⟩
  | .add_iy_iy => ⟨[0xFD#8, 0x29#8], 0, []⟩
  | .ld_iy_at_nn => ⟨[0xFD#8, 0x2A#8], 2, []⟩
  | .dec_iy => ⟨[0xFD#8, 0x2B#8], 0, []⟩
  | .inc_iyl => ⟨[0xFD#8, 0x2C#8], 0, []⟩
  | .dec_iyl => ⟨[0xFD#8, 0x2D#8], 0, []⟩
  | .ld_iyl_n => ⟨[0xFD#8, 0x2E#8], 1, []⟩
  | .inc_at_iyd => ⟨[0xFD#8, 0x34#8], 1, []⟩
  | .dec_at_iyd => ⟨[0xFD#8, 0x35#8], 1, []⟩
  | .ld_at_iyd_n => ⟨[0xFD#8, 0x36#8], 2, []⟩
  | .add_iy_sp => ⟨[0xFD#8, 0x39#8], 0, []⟩
  | .ld_b_iyh => ⟨[0xFD#8, 0x44#8], 0, []⟩
  | .ld_b_iyl => ⟨[0xFD#8, 0x45#8], 0, []⟩
  | .ld_b_at_iyd => ⟨[0xFD#8, 0x46#8], 1, []⟩
  | .ld_c_iyh => ⟨[0xFD#8, 0x4C#8], 0, []⟩
  | .ld_c_iyl => ⟨[0xFD#8, 0x4D#8], 0, []⟩
  | .ld_c_at_iyd => ⟨[0xFD#8, 0x4E#8], 1, []⟩
  | .ld_d_iyh => ⟨[0xFD#8, 0x54#8], 0, []⟩
  | .ld_d_iyl => ⟨[0xFD#8, 0x55#8], 0, []⟩
  | .ld_d_at_iyd => ⟨[0xFD#8, 0x56#8], 1, []⟩
  | .ld_e_iyh => ⟨[0xFD#8, 0x5C#8], 0, []⟩
  | .ld_e_iyl => ⟨[0xFD#8, 0x5D#8], 0, []⟩
  | .ld_e_at_iyd => ⟨[0xFD#8, 0x5E#8], 1, []⟩
  | .ld_iyh_b => ⟨[0xFD#8, 0x60#8], 0, []⟩
  | .ld_iyh_c => ⟨[0xFD#8, 0x61#8], 0, []⟩
  | .ld_iyh_d => ⟨[0xFD#8, 0x62#8], 0, []⟩
  | .ld_iyh_e => ⟨[0xFD#8, 0x63#8], 0, []⟩
  | .ld_iyh_iyh => ⟨[0xFD#8, 0x64#8], 0, []⟩
  | .ld_iyh_iyl => ⟨[0xFD#8, 0x65#8], 0, []⟩
  | .ld_h_at_iyd => ⟨[0xFD#8, 0x66#8], 1, []⟩
  | .ld_iyh_a => ⟨[0xFD#8, 0x67#8], 0, []⟩
  | .ld_iyl_b => ⟨[0xFD#8, 0x68#8], 0, []⟩
  | .ld_iyl_c => ⟨[0xFD#8, 0x69#8], 0, []⟩
  | .ld_iyl_d => ⟨[0xFD#8, 0x6A#8], 0, []⟩
  | .ld_iyl_e => ⟨[0xFD#8, 0x6B#8], 0, []⟩
  | .ld_iyl_iyh => ⟨[0xFD#8, 0x6C#8], 0, []⟩
  | .ld_iyl_iyl => ⟨[0xFD#8, 0x6D#8], 0, []⟩
  | .ld_l_at_iyd => ⟨[0xFD#8, 0x6E#8], 1, []⟩
  | .ld_iyl_a => ⟨[0xFD#8, 0x6F#8], 0, []⟩
  | .ld_at_iyd_b => ⟨[0xFD#8, 0x70#8], 1, []⟩
  | .ld_at_iyd_c => ⟨[0xFD#8, 0x71#8], 1, []⟩
  | .ld_at_iyd_d => ⟨[0xFD#8, 0x72#8], 1, []⟩
  | .ld_at_iyd_e => ⟨[0xFD#8, 0x73#8], 1, []⟩
  | .ld_at_iyd_h => ⟨[0xFD#8, 0x74#8], 1, []⟩
  | .ld_at_iyd_l => ⟨[0xFD#8, 0x75#8], 1, []⟩
  | .ld_at_iyd_a => ⟨[0xFD#8, 0x77#8], 1, []⟩
  | .ld_a_iyh => ⟨[0xFD#8, 0x7C#8], 0, []⟩
  | .ld_a_iyl => ⟨[0xFD#8, 0x7D#8], 0, []⟩
  | .ld_a_at_iyd => ⟨[0xFD#8, 0x7E#8], 1, []⟩
  | .add_a_iyh => ⟨[0xFD#8, 0x84#8], 0, []⟩
  | .add_a_iyl => ⟨[0xFD#8, 0x85#8], 0, []⟩
  | .add_a_at_iyd => ⟨[0xFD#8, 0x86#8], 1, []⟩
  | .adc_a_iyh => ⟨[0xFD#8, 0x8C#8], 0, []⟩
  | .adc_a_iyl => ⟨[0xFD#8, 0x8D#8], 0, []⟩
  | .adc_a_at_iyd => ⟨[0xFD#8, 0x8E#8], 1, []⟩
  | .sub_iyh => ⟨[0xFD#8, 0x94#8], 0, []⟩
  | .sub_iyl => ⟨[0xFD#8, 0x95#8], 0, []⟩
  | .sub_at_iyd => ⟨[0xFD#8, 0x96#8], 1, []⟩
  | .sbc_a_iyh => ⟨[0xFD#8, 0x9C#8], 0, []⟩
  | .sbc_a_iyl => ⟨[0xFD#8, 0x9D#8], 0, []⟩
  | .sbc_a_at_iyd => ⟨[0xFD#8, 0x9E#8], 1, []⟩
  | .and_iyh => ⟨[0xFD#8, 0xA4#8], 0, []⟩
  | .and_iyl => ⟨[0xFD#8, 0xA5#8], 0, []⟩
  | .and_at_iyd => ⟨[0xFD#8, 0xA6#8], 1, []⟩
  | .xor_iyh => ⟨[0xFD#8, 0xAC#8], 0, []⟩
  | .xor_iyl => ⟨[0xFD#8, 0xAD#8], 0, []⟩
  | .xor_at_iyd => ⟨[0xFD#8, 0xAE#8], 1, []⟩
  | .or_iyh => ⟨[0xFD#8, 0xB4#8], 0, []⟩
  | .or_iyl => ⟨[0xFD#8, 0xB5#8], 0, []⟩
  | .or_at_iyd => ⟨[0xFD#8, 0xB6#8], 1, []⟩
  | .cp_iyh => ⟨[0xFD#8, 0xBC#8], 0, []⟩
  | .cp_iyl => ⟨[0xFD#8, 0xBD#8], 0, []⟩
  | .cp_at_iyd => ⟨[0xFD#8, 0xBE#8], 1, []⟩
  | .pop_iy => ⟨[0xFD#8, 0xE1#8], 0, []⟩
  | .ex_at_sp_iy => ⟨[0xFD#8, 0xE3#8], 0, []⟩
  | .push_iy => ⟨[0xFD#8, 0xE5#8], 0, []⟩
  | .jp_at_iy => ⟨[0xFD#8, 0xE9#8], 0, []⟩
  | .ld_sp_iy => ⟨[0xFD#8, 0xF9#8], 0, []⟩
  | .rlc_b => ⟨[0xCB#8, 0x00#8], 0, []⟩
  | .rlc_c => ⟨[0xCB#8, 0x01#8], 0, []⟩
  | .rlc_d => ⟨[0xCB#8, 0x02#8], 0, []⟩
  | .rlc_e => ⟨[0xCB#8, 0x03#8], 0, []⟩
  | .rlc_h => ⟨[0xCB#8, 0x04#8], 0, []⟩
  | .rlc_l => ⟨[0xCB#8, 0x05#8], 0, []⟩
  | .rlc_at_hl => ⟨[0xCB#8, 0x06#8], 0, []⟩
  | .rlc_a => ⟨[0xCB#8, 0x07#8], 0, []⟩
  | .rrc_b => ⟨[0xCB#8, 0x08#8], 0, []⟩
  | .rrc_c => ⟨[0xCB#8, 0x09#8], 0, []⟩
  | .rrc_d => ⟨[0xCB#8, 0x0A#8], 0, []⟩
  | .rrc_e => ⟨[0xCB#8, 0x0B#8], 0, []⟩
  | .rrc_h => ⟨[0xCB#8, 0x0C#8], 0, []⟩
  | .rrc_l => ⟨[0xCB#8, 0x0D#8], 0, []⟩
  | .rrc_at_hl => ⟨[0xCB#8, 0x0E#8], 0, []⟩
  | .rrc_a => ⟨[0xCB#8, 0x0F#8], 0, []⟩
  | .rl_b => ⟨[0xCB#8, 0x10#8], 0, []⟩
  | .rl_c => ⟨[0xCB#8, 0x11#8], 0, []⟩
  | .rl_d => ⟨[0xCB#8, 0x12#8], 0, []⟩
  | .rl_e => ⟨[0xCB#8, 0x13#8], 0, []⟩
  | .rl_h => ⟨[0xCB#8, 0x14#8], 0, []⟩
  | .rl_l => ⟨[0xCB#8, 0x15#8], 0, []⟩
  | .rl_at_hl => ⟨[0xCB#8, 0x16#8], 0, []⟩
  | .rl_a => ⟨[0xCB#8, 0x17#8], 0, []⟩
  | .rr_b => ⟨[0xCB#8, 0x18#8], 0, []⟩
  | .rr_c => ⟨[0xCB#8, 0x19#8], 0, []⟩
  | .rr_d => ⟨[0xCB#8, 0x1A#8], 0, []⟩
  | .rr_e => ⟨[0xCB#8, 0x1B#8], 0, []⟩
  | .rr_h => ⟨[0xCB#8, 0x1C#8], 0, []⟩
  | .rr_l => ⟨[0xCB#8, 0x1D#8], 0, []⟩
  | .rr_at_hl => ⟨[0xCB#8, 0x1E#8], 0, []⟩
  | .rr_a => ⟨[0xCB#8, 0x1F#8], 0, []⟩
  | .sla_b => ⟨[0xCB#8, 0x20#8], 0, []⟩
  | .sla_c => ⟨[0xCB#8, 0x21#8], 0, []⟩
  | .sla_d => ⟨[0xCB#8, 0x22#8], 0, []⟩
  | .sla_e => ⟨[0xCB#8, 0x23#8], 0, []⟩
  | .sla_h => ⟨[0xCB#8, 0x24#8], 0, []⟩
  | .sla_l => ⟨[0xCB#8, 0x25#8], 0, []⟩
  | .sla_at_hl => ⟨[0xCB#8, 0x26#8], 0, []⟩
  | .sla_a => ⟨[0xCB#8, 0x27#8], 0, []⟩
  | .sra_b => ⟨[0xCB#8, 0x28#8], 0, []⟩
  | .sra_c => ⟨[0xCB#8, 0x29#8], 0, []⟩
  | .sra_d => ⟨[0xCB#8, 0x2A#8], 0, []⟩
  | .sra_e => ⟨[0xCB#8, 0x2B#8], 0, []⟩
  | .sra_h => ⟨[0xCB#8, 0x2C#8], 0, []⟩
  | .sra_l => ⟨[0xCB#8, 0x2D#8], 0, []⟩
  | .sra_at_hl => ⟨[0xCB#8, 0x2E#8], 0, []⟩
  | .sra_a => ⟨[0xCB#8, 0x2F#8], 0, []⟩
  | .sll_b => ⟨[0xCB#8, 0x30#8], 0, []⟩
  | .sll_c => ⟨[0xCB#8, 0x31#8], 0, []⟩
  | .sll_d => ⟨[0xCB#8, 0x32#8], 0, []⟩
  | .sll_e => ⟨[0xCB#8, 0x33#8], 0, []⟩
  | .sll_h => ⟨[0xCB#8, 0x34#8], 0, []⟩
  | .sll_l => ⟨[0xCB#8, 0x35#8], 0, []⟩
  | .sll_at_hl => ⟨[0xCB#8, 0x36#8], 0, []⟩
  | .sll_a => ⟨[0xCB#8, 0x37#8], 0, []⟩
  | .srl_b => ⟨[0xCB#8, 0x38#8], 0, []⟩
  | .srl_c => ⟨[0xCB#8, 0x39#8], 0, []⟩
  | .srl_d => ⟨[0xCB#8, 0x3A#8], 0, []⟩
  | .srl_e => ⟨[0xCB#8, 0x3B#8], 0, []⟩
  | .srl_h => ⟨[0xCB#8, 0x3C#8], 0, []⟩
  | .srl_l => ⟨[0xCB#8, 0x3D#8], 0, []⟩
  | .srl_at_hl => ⟨[0xCB#8, 0x3E#8], 0, []⟩
  | .srl_a => ⟨[0xCB#8, 0x3F#8], 0, []⟩
  | .bit_0_b => ⟨[0xCB#8, 0x40#8], 0, []⟩
  | .bit_0_c => ⟨[0xCB#8, 0x41#8], 0, []⟩
  | .bit_0_d => ⟨[0xCB#8, 0x42#8], 0, []⟩
  | .bit_0_e => ⟨[0xCB#8, 0x43#8], 0, []⟩
  | .bit_0_h => ⟨[0xCB#8, 0x44#8], 0, []⟩
  | .bit_0_l => ⟨[0xCB#8, 0x45#8], 0, []⟩
  | .bit_0_at_hl => ⟨[0xCB#8, 0x46#8], 0, []⟩
  | .bit_0_a => ⟨[0xCB#8, 0x47#8], 0, []⟩
  | .bit_1_b => ⟨[0xCB#8, 0x48#8], 0, []⟩
  | .bit_1_c => ⟨[0xCB#8, 0x49#8], 0, []⟩
  | .bit_1_d => ⟨[0xCB#8, 0x4A#8], 0, []⟩
  | .bit_1_e => ⟨[0xCB#8, 0x4B#8], 0, []⟩
  | .bit_1_h => ⟨[0xCB#8, 0x4C#8], 0, []⟩
  | .bit_1_l => ⟨[0xCB#8, 0x4D#8], 0, []⟩
  | .bit_1_at_hl => ⟨[0xCB#8, 0x4E#8], 0, []⟩
  | .bit_1_a => ⟨[0xCB#8, 0x4F#8], 0, []⟩
  | .bit_2_b => ⟨[0xCB#8, 0x50#8], 0, []⟩
  | .bit_2_c => ⟨[0xCB#8, 0x51#8], 0, []⟩
  | .bit_2_d => ⟨[0xCB#8, 0x52#8], 0, []⟩
  | .bit_2_e => ⟨[0xCB#8, 0x53#8], 0, []⟩
  | .bit_2_h => ⟨[0xCB#8, 0x54#8], 0, []⟩
  | .bit_2_l => ⟨[0xCB#8, 0x55#8], 0, []⟩
  | .bit_2_at_hl => ⟨[0xCB#8, 0x56#8], 0, []⟩
  | .bit_2_a => ⟨[0xCB#8, 0x57#8], 0, []⟩
  | .bit_3_b => ⟨[0xCB#8, 0x58#8], 0, []⟩
  | .bit_3_c => ⟨[0xCB#8, 0x59#8], 0, []⟩
  | .bit_3_d => ⟨[0xCB#8, 0x5A#8], 0, []⟩
  | .bit_3_e => ⟨[0xCB#8, 0x5B#8], 0, []⟩
  | .bit_3_h => ⟨[0xCB#8, 0x5C#8], 0, []⟩
  | .bit_3_l => ⟨[0xCB#8, 0x5D#8], 0, []⟩
  | .bit_3_at_hl => ⟨[0xCB#8, 0x5E#8], 0, []⟩
  | .bit_3_a => ⟨[0xCB#8, 0x5F#8], 0, []⟩
  | .bit_4_b => ⟨[0xCB#8, 0x60#8], 0, []⟩
  | .bit_4_c => ⟨[0xCB#8, 0x61#8], 0, []⟩
  | .bit_4_d => ⟨[0xCB#8, 0x62#8], 0, []⟩
  | .bit_4_e => ⟨[0xCB#8, 0x63#8], 0, []⟩
  | .bit_4_h => ⟨[0xCB#8, 0x64#8], 0, []⟩
  | .bit_4_l => ⟨[0xCB#8, 0x65#8], 0, []⟩
  | .bit_4_at_hl => ⟨[0xCB#8, 0x66#8], 0, []⟩
  | .bit_4_a => ⟨[0xCB#8, 0x67#8], 0, []⟩
  | .bit_5_b => ⟨[0xCB#8, 0x68#8], 0, []⟩
  | .bit_5_c => ⟨[0xCB#8, 0x69#8], 0, []⟩
  | .bit_5_d => ⟨[0xCB#8, 0x6A#8], 0, []⟩
  | .bit_5_e => ⟨[0xCB#8, 0x6B#8], 0, []⟩
  | .bit_5_h => ⟨[0xCB#8, 0x6C#8], 0, []⟩
  | .bit_5_l => ⟨[0xCB#8, 0x6D#8], 0, []⟩
  | .bit_5_at_hl => ⟨[0xCB#8, 0x6E#8], 0, []⟩
  | .bit_5_a => ⟨[0xCB#8, 0x6F#8], 0, []⟩
  | .bit_6_b => ⟨[0xCB#8, 0x70#8], 0, []⟩
  | .bit_6_c => ⟨[0xCB#8, 0x71#8], 0, []⟩
  | .bit_6_d => ⟨[0xCB#8, 0x72#8], 0, []⟩
  | .bit_6_e => ⟨[0xCB#8, 0x73#8], 0, []⟩
  | .bit_6_h => ⟨[0xCB#8, 0x74#8], 0, []⟩
  | .bit_6_l => ⟨[0xCB#8, 0x75#8], 0, []⟩
  | .bit_6_at_hl => ⟨[0xCB#8, 0x76#8], 0, []⟩
  | .bit_6_a => ⟨[0xCB#8, 0x77#8], 0, []⟩
  | .bit_7_b => ⟨[0xCB#8, 0x78#8], 0, []⟩
  | .bit_7_c => ⟨[0xCB#8, 0x79#8], 0, []⟩
  | .bit_7_d => ⟨[0xCB#8, 0x7A#8], 0, []⟩
  | .bit_7_e => ⟨[0xCB#8, 0x7B#8], 0, []⟩
  | .bit_7_h => ⟨[0xCB#8, 0x7C#8], 0, []⟩
  | .bit_7_l => ⟨[0xCB#8, 0x7D#8], 0, []⟩
  | .bit_7_at_hl => ⟨[0xCB#8, 0x7E#8], 0, []⟩
  | .bit_7_a => ⟨[0xCB#8, 0x7F#8], 0, []⟩
  | .res_0_b => ⟨[0xCB#8, 0x80#8], 0, []⟩
  | .res_0_c => ⟨[0xCB#8, 0x81#8], 0, []⟩
  | .res_0_d => ⟨[0xCB#8, 0x82#8], 0, []⟩
  | .res_0_e => ⟨[0xCB#8, 0x83#8], 0, []⟩
  | .res_0_h => ⟨[0xCB#8, 0x84#8], 0, []⟩
  | .res_0_l => ⟨[0xCB#8, 0x85#8], 0, []⟩
  | .res_0_at_hl => ⟨[0xCB#8, 0x86#8], 0, []⟩
  | .res_0_a => ⟨[0xCB#8, 0x87#8], 0, []⟩
  | .res_1_b => ⟨[0xCB#8, 0x88#8], 0, []⟩
  | .res_1_c => ⟨[0xCB#8, 0x89#8], 0, []⟩
  | .res_1_d => ⟨[0xCB#8, 0x8A#8], 0, []⟩
  | .res_1_e => ⟨[0xCB#8, 0x8B#8], 0, []⟩
  | .res_1_h => ⟨[0xCB#8, 0x8C#8], 0, []⟩
  | .res_1_l => ⟨[0xCB#8, 0x8D#8], 0, []⟩
  | .res_1_at_hl => ⟨[0xCB#8, 0x8E#8], 0, []⟩
  | .res_1_a => ⟨[0xCB#8, 0x8F#8], 0, []⟩
  | .res_2_b => ⟨[0xCB#8, 0x90#8], 0, []⟩
  | .res_2_c => ⟨[0xCB#8, 0x91#8], 0, []⟩
  | .res_2_d => ⟨[0xCB#8, 0x92#8], 0, []⟩
  | .res_2_e => ⟨[0xCB#8, 0x93#8], 0, []⟩
  | .res_2_h => ⟨[0xCB#8, 0x94#8], 0, []⟩
  | .res_2_l => ⟨[0xCB#8, 0x95#8], 0, []⟩
  | .res_2_at_hl => ⟨[0xCB#8, 0x96#8], 0, []⟩
  | .res_2_a => ⟨[0xCB#8, 0x97#8], 0, []⟩
  | .res_3_b => ⟨[0xCB#8, 0x98#8], 0, []⟩
  | .res_3_c => ⟨[0xCB#8, 0x99#8], 0, []⟩
  | .res_3_d => ⟨[0xCB#8, 0x9A#8], 0, []⟩
  | .res_3_e => ⟨[0xCB#8, 0x9B#8], 0, []⟩
  | .res_3_h => ⟨[0xCB#8, 0x9C#8], 0, []⟩
  | .res_3_l => ⟨[0xCB#8, 0x9D#8], 0, []⟩
  | .res_3_at_hl => ⟨[0xCB#8, 0x9E#8], 0, []⟩
  | .res_3_a => ⟨[0xCB#8, 0x9F#8], 0, []⟩
  | .res_4_b => ⟨[0xCB#8, 0xA0#8], 0, []⟩
  | .res_4_c => ⟨[0xCB#8, 0xA1#8], 0, []⟩
  | .res_4_d => ⟨[0xCB#8, 0xA2#8], 0, []⟩
  | .res_4_e => ⟨[0xCB#8, 0xA3#8], 0, []⟩
  | .res_4_h => ⟨[0xCB#8, 0xA4#8], 0, []⟩
  | .res_4_l => ⟨[0xCB#8, 0xA5#8], 0, []⟩
  | .res_4_at_hl => ⟨[0xCB#8, 0xA6#8], 0, []⟩
  | .res_4_a => ⟨[0xCB#8, 0xA7#8], 0, []⟩
  | .res_5_b => ⟨[0xCB#8, 0xA8#8], 0, []⟩
  | .res_5_c => ⟨[0xCB#8, 0xA9#8], 0, []⟩
  | .res_5_d => ⟨[0xCB#8, 0xAA#8], 0, []⟩
  | .res_5_e => ⟨[0xCB#8, 0xAB#8], 0, []⟩
  | .res_5_h => ⟨[0xCB#8, 0xAC#8], 0, []⟩
  | .res_5_l => ⟨[0xCB#8, 0xAD#8], 0, []⟩
  | .res_5_at_hl => ⟨[0xCB#8, 0xAE#8], 0, []⟩
  | .res_5_a => ⟨[0xCB#8, 0xAF#8], 0, []⟩
  | .res_6_b => ⟨[0xCB#8, 0xB0#8], 0, []⟩
  | .res_6_c => ⟨[0xCB#8, 0xB1#8], 0, []⟩
  | .res_6_d => ⟨[0xCB#8, 0xB2#8], 0, []⟩
  | .res_6_e => ⟨[0xCB#8, 0xB3#8], 0, []⟩
  | .res_6_h => ⟨[0xCB#8, 0xB4#8], 0, []⟩
  | .res_6_l => ⟨[0xCB#8, 0xB5#8], 0, []⟩
  | .res_6_at_hl => ⟨[0xCB#8, 0xB6#8], 0, []⟩
  | .res_6_a => ⟨[0xCB#8, 0xB7#8], 0, []⟩
  | .res_7_b => ⟨[0xCB#8, 0xB8#8], 0, []⟩
  | .res_7_c => ⟨[0xCB#8, 0xB9#8], 0, []⟩
  | .res_7_d => ⟨[0xCB#8, 0xBA#8], 0, []⟩
  | .res_7_e => ⟨[0xCB#8, 0xBB#8], 0, []⟩
  | .res_7_h => ⟨[0xCB#8, 0xBC#8], 0, []⟩
  | .res_7_l => ⟨[0xCB#8, 0xBD#8], 0, []⟩
  | .res_7_at_hl => ⟨[0xCB#8, 0xBE#8], 0, []⟩
  | .res_7_a => ⟨[0xCB#8, 0xBF#8], 0, []⟩
  | .set_0_b => ⟨[0xCB#8, 0xC0#8], 0, []⟩
  | .set_0_c => ⟨[0xCB#8, 0xC1#8], 0, []⟩
  | .set_0_d => ⟨[0xCB#8, 0xC2#8], 0, []⟩
  | .set_0_e => ⟨[0xCB#8, 0xC3#8], 0, []⟩
  | .set_0_h => ⟨[0xCB#8, 0xC4#8], 0, []⟩
  | .set_0_l => ⟨[0xCB#8, 0xC5#8], 0, []⟩
  | .set_0_at_hl => ⟨[0xCB#8, 0xC6#8], 0, []⟩
  | .set_0_a => ⟨[0xCB#8, 0xC7#8], 0, []⟩
  | .set_1_b => ⟨[0xCB#8, 0xC8#8], 0, []⟩
  | .set_1_c => ⟨[0xCB#8, 0xC9#8], 0, []⟩
  | .set_1_d => ⟨[0xCB#8, 0xCA#8], 0, []⟩
  | .set_1_e => ⟨[0xCB#8, 0xCB#8], 0, []⟩
  | .set_1_h => ⟨[0xCB#8, 0xCC#8], 0, []⟩
  | .set_1_l => ⟨[0xCB#8, 0xCD#8], 0, []⟩
  | .set_1_at_hl => ⟨[0xCB#8, 0xCE#8], 0, []⟩
  | .set_1_a => ⟨[0xCB#8, 0xCF#8], 0, []⟩
  | .set_2_b => ⟨[0xCB#8, 0xD0#8], 0, []⟩
  | .set_2_c => ⟨[0xCB#8, 0xD1#8], 0, []⟩
  | .set_2_d => ⟨[0xCB#8, 0xD2#8], 0, []⟩
  | .set_2_e => ⟨[0xCB#8, 0xD3#8], 0, []⟩
  | .set_2_h => ⟨[0xCB#8, 0xD4#8], 0, []⟩
  | .set_2_l => ⟨[0xCB#8, 0xD5#8], 0, []⟩
  | .set_2_at_hl => ⟨[0xCB#8, 0xD6#8], 0, []⟩
  | .set_2_a => ⟨[0xCB#8, 0xD7#8], 0, []⟩
  | .set_3_b => ⟨[0xCB#8, 0xD8#8], 0, []⟩
  | .set_3_c => ⟨[0xCB#8, 0xD9#8], 0, []⟩
  | .set_3_d => ⟨[0xCB#8, 0xDA#8], 0, []⟩
  | .set_3_e => ⟨[0xCB#8, 0xDB#8], 0, []⟩
  | .set_3_h => ⟨[0xCB#8, 0xDC#8], 0, []⟩
  | .set_3_l => ⟨[0xCB#8, 0xDD#8], 0, []⟩
  | .set_3_at_hl => ⟨[0xCB#8, 0xDE#8], 0, []⟩
  | .set_3_a => ⟨[0xCB#8, 0xDF#8], 0, []⟩
  | .set_4_b => ⟨[0xCB#8, 0xE0#8], 0, []⟩
  | .set_4_c => ⟨[0xCB#8, 0xE1#8], 0, []⟩
  | .set_4_d => ⟨[0xCB#8, 0xE2#8], 0, []⟩
  | .set_4_e => ⟨[0xCB#8, 0xE3#8], 0, []⟩
  | .set_4_h => ⟨[0xCB#8, 0xE4#8], 0, []⟩
  | .set_4_l => ⟨[0xCB#8, 0xE5#8], 0, []⟩
  | .set_4_at_hl => ⟨[0xCB#8, 0xE6#8], 0, []⟩
  | .set_4_a => ⟨[0xCB#8, 0xE7#8], 0, []⟩
  | .set_5_b => ⟨[0xCB#8, 0xE8#8], 0, []⟩
  | .set_5_c => ⟨[0xCB#8, 0xE9#8], 0, []⟩
  | .set_5_d => ⟨[0xCB#8, 0xEA#8], 0, []⟩
  | .set_5_e => ⟨[0xCB#8, 0xEB#8], 0, []⟩
  | .set_5_h => ⟨[0xCB#8, 0xEC#8], 0, []⟩
  | .set_5_l => ⟨[0xCB#8, 0xED#8], 0, []⟩
  | .set_5_at_hl => ⟨[0xCB#8, 0xEE#8], 0, []⟩
  | .set_5_a => ⟨[0xCB#8, 0xEF#8], 0, []⟩
  | .set_6_b => ⟨[0xCB#8, 0xF0#8], 0, []⟩
  | .set_6_c => ⟨[0xCB#8, 0xF1#8], 0, []⟩
  | .set_6_d => ⟨[0xCB#8, 0xF2#8], 0, []⟩
  | .set_6_e => ⟨[0xCB#8, 0xF3#8], 0, []⟩
  | .set_6_h => ⟨[0xCB#8, 0xF4#8], 0, []⟩
  | .set_6_l => ⟨[0xCB#8, 0xF5#8], 0, []⟩
  | .set_6_at_hl => ⟨[0xCB#8, 0xF6#8], 0, []⟩
  | .set_6_a => ⟨[0xCB#8, 0xF7#8], 0, []⟩
  | .set_7_b => ⟨[0xCB#8, 0xF8#8], 0, []⟩
  | .set_7_c => ⟨[0xCB#8, 0xF9#8], 0, []⟩
  | .set_7_d => ⟨[0xCB#8, 0xFA#8], 0, []⟩
  | .set_7_e => ⟨[0xCB#8, 0xFB#8], 0, []⟩
  | .set_7_h => ⟨[0xCB#8, 0xFC#8], 0, []⟩
  | .set_7_l => ⟨[0xCB#8, 0xFD#8], 0, []⟩
  | .set_7_at_hl => ⟨[0xCB#8, 0xFE#8], 0, []⟩
  | .set_7_a => ⟨[0xCB#8, 0xFF#8], 0, []⟩
  | .rlc_at_ixd_b => ⟨[0xDD#8, 0xCB#8], 1, [0x00#8]⟩
  | .rlc_at_ixd_c => ⟨[0xDD#8, 0xCB#8], 1, [0x01#8]⟩
  | .rlc_at_ixd_d => ⟨[0xDD#8, 0xCB#8], 1, [0x02#8]⟩
  | .rlc_at_ixd_e => ⟨[0xDD#8, 0xCB#8], 1, [0x03#8]⟩
  | .rlc_at_ixd_h => ⟨[0xDD#8, 0xCB#8], 1, [0x04#8]⟩
  | .rlc_at_ixd_l => ⟨[0xDD#8, 0xCB#8], 1, [0x05#8]⟩
  | .rlc_at_ixd => ⟨[0xDD#8, 0xCB#8], 1, [0x06#8]⟩
  | .rlc_at_ixd_a => ⟨[0xDD#8, 0xCB#8], 1, [0x07#8]⟩
  | .rrc_at_ixd_b => ⟨[0xDD#8, 0xCB#8], 1, [0x08#8]⟩
  | .rrc_at_ixd_c => ⟨[0xDD#8, 0xCB#8], 1, [0x09#8]⟩
  | .rrc_at_ixd_d => ⟨[0xDD#8, 0xCB#8], 1, [0x0A#8]⟩
  | .rrc_at_ixd_e => ⟨[0xDD#8, 0xCB#8], 1, [0x0B#8]⟩
  | .rrc_at_ixd_h => ⟨[0xDD#8, 0xCB#8], 1, [0x0C#8]⟩
  | .rrc_at_ixd_l => ⟨[0xDD#8, 0xCB#8], 1, [0x0D#8]⟩
  | .rrc_at_ixd => ⟨[0xDD#8, 0xCB#8], 1, [0x0E#8]⟩
  | .rrc_at_ixd_a => ⟨[0xDD#8, 0xCB#8], 1, [0x0F#8]⟩
  | .rl_at_ixd_b => ⟨[0xDD#8, 0xCB#8], 1, [0x10#8]⟩
  | .rl_at_ixd_c => ⟨[0xDD#8, 0xCB#8], 1, [0x11#8]⟩
  | .rl_at_ixd_d => ⟨[0xDD#8, 0xCB#8], 1, [0x12#8]⟩
  | .rl_at_ixd_e => ⟨[0xDD#8, 0xCB#8], 1, [0x13#8]⟩
  | .rl_at_ixd_h => ⟨[0xDD#8, 0xCB#8], 1, [0x14#8]⟩
  | .rl_at_ixd_l => ⟨[0xDD#8, 0xCB#8], 1, [0x15#8]⟩
  | .rl_at_ixd => ⟨[0xDD#8, 0xCB#8], 1, [0x16#8]⟩
  | .rl_at_ixd_a => ⟨[0xDD#8, 0xCB#8], 1, [0x17#8]⟩
  | .rr_at_ixd_b => ⟨[0xDD#8, 0xCB#8], 1, [0x18#8]⟩
  | .rr_at_ixd_c => ⟨[0xDD#8, 0xCB#8], 1, [0x19#8]⟩
  | .rr_at_ixd_d => ⟨[0xDD#8, 0xCB#8], 1, [0x1A#8]⟩
  | .rr_at_ixd_e => ⟨[0xDD#8, 0xCB#8], 1, [0x1B#8]⟩
  | .rr_at_ixd_h => ⟨[0xDD#8, 0xCB#8], 1, [0x1C#8]⟩
  | .rr_at_ixd_l => ⟨[0xDD#8, 0xCB#8], 1, [0x1D#8]⟩
  | .rr_at_ixd => ⟨[0xDD#8, 0xCB#8], 1, [0x1E#8]⟩
  | .rr_at_ixd_a => ⟨[0xDD#8, 0xCB#8], 1, [0x1F#8]⟩
  | .sla_at_ixd_b => ⟨[0xDD#8, 0xCB#8], 1, [0x20#8]⟩
  | .sla_at_ixd_c => ⟨[0xDD#8, 0xCB#8], 1, [0x21#8]⟩
  | .sla_at_ixd_d => ⟨[0xDD#8, 0xCB#8], 1, [0x22#8]⟩
  | .sla_at_ixd_e => ⟨[0xDD#8, 0xCB#8], 1, [0x23#8]⟩
  | .sla_at_ixd_h => ⟨[0xDD#8, 0xCB#8], 1, [0x24#8]⟩
  | .sla_at_ixd_l => ⟨[0xDD#8, 0xCB#8], 1, [0x25#8]⟩
  | .sla_at_ixd => ⟨[0xDD#8, 0xCB#8], 1, [0x26#8]⟩
  | .sla_at_ixd_a => ⟨[0xDD#8, 0xCB#8], 1, [0x27#8]⟩
  | .sra_at_ixd_b => ⟨[0xDD#8, 0xCB#8], 1, [0x28#8]⟩
  | .sra_at_ixd_c => ⟨[0xDD#8, 0xCB#8], 1, [0x29#8]⟩
  | .sra_at_ixd_d => ⟨[0xDD#8, 0xCB#8], 1, [0x2A#8]⟩
  | .sra_at_ixd_e => ⟨[0xDD#8, 0xCB#8], 1, [0x2B#8]⟩
  | .sra_at_ixd_h => ⟨[0xDD#8, 0xCB#8], 1, [0x2C#8]⟩
  | .sra_at_ixd_l => ⟨[0xDD#8, 0xCB#8], 1, [0x2D#8]⟩
  | .sra_at_ixd => ⟨[0xDD#8, 0xCB#8], 1, [0x2E#8]⟩
  | .sra_at_ixd_a => ⟨[0xDD#8, 0xCB#8], 1, [0x2F#8]⟩
  | .sll_at_ixd_b => ⟨[0xDD#8, 0xCB#8], 1, [0x30#8]⟩
  | .sll_at_ixd_c => ⟨[0xDD#8, 0xCB#8], 1, [0x31#8]⟩
  | .sll_at_ixd_d => ⟨[0xDD#8, 0xCB#8], 1, [0x32#8]⟩
  | .sll_at_ixd_e => ⟨[0xDD#8, 0xCB#8], 1, [0x33#8]⟩
  | .sll_at_ixd_h => ⟨[0xDD#8, 0xCB#8], 1, [0x34#8]⟩
  | .sll_at_ixd_l => ⟨[0xDD#8, 0xCB#8], 1, [0x35#8]⟩
  | .sll_at_ixd => ⟨[0xDD#8, 0xCB#8], 1, [0x36#8]⟩
  | .sll_at_ixd_a => ⟨[0xDD#8, 0xCB#8], 1, [0x37#8]⟩
  | .srl_at_ixd_b => ⟨[0xDD#8, 0xCB#8], 1, [0x38#8]⟩
  | .srl_at_ixd_c => ⟨[0xDD#8, 0xCB#8], 1, [0x39#8]⟩
  | .srl_at_ixd_d => ⟨[0xDD#8, 0xCB#8], 1, [0x3A#8]⟩
  | .srl_at_ixd_e => ⟨[0xDD#8, 0xCB#8], 1, [0x3B#8]⟩
  | .srl_at_ixd_h => ⟨[0xDD#8, 0xCB#8], 1, [0x3C#8]⟩
  | .srl_at_ixd_l => ⟨[0xDD#8, 0xCB#8], 1, [0x3D#8]⟩
  | .srl_at_ixd => ⟨[0xDD#8, 0xCB#8], 1, [0x3E#8]⟩
  | .srl_at_ixd_a => ⟨[0xDD#8, 0xCB#8], 1, [0x3F#8]⟩
  | .res_0_at_ixd_b => ⟨[0xDD#8, 0xCB#8], 1, [0x80#8]⟩
  | .res_0_at_ixd_c => ⟨[0xDD#8, 0xCB#8], 1, [0x81#8]⟩
  | .res_0_at_ixd_d => ⟨[0xDD#8, 0xCB#8], 1, [0x82#8]⟩
  | .res_0_at_ixd_e => ⟨[0xDD#8, 0xCB#8], 1, [0x83#8]⟩
  | .res_0_at_ixd_h => ⟨[0xDD#8, 0xCB#8], 1, [0x84#8]⟩
  | .res_0_at_ixd_l => ⟨[0xDD#8, 0xCB#8], 1, [0x85#8]⟩
  | .res_0_at_ixd => ⟨[0xDD#8, 0xCB#8], 1, [0x86#8]⟩
  | .res_0_at_ixd_a => ⟨[0xDD#8, 0xCB#8], 1, [0x87#8]⟩
  | .res_1_at_ixd_b => ⟨[0xDD#8, 0xCB#8], 1, [0x88#8]⟩
  | .res_1_at_ixd_c => ⟨[0xDD#8, 0xCB#8], 1, [0x89#8]⟩
  | .res_1_at_ixd_d => ⟨[0xDD#8, 0xCB#8], 1, [0x8A#8]⟩
  | .res_1_at_ixd_e => ⟨[0xDD#8, 0xCB#8], 1, [0x8B#8]⟩
  | .res_1_at_ixd_h => ⟨[0xDD#8, 0xCB#8], 1, [0x8C#8]⟩
  | .res_1_at_ixd_l => ⟨[0xDD#8, 0xCB#8], 1, [0x8D#8]⟩
  | .res_1_at_ixd => ⟨[0xDD#8, 0xCB#8], 1, [0x8E#8]⟩
  | .res_1_at_ixd_a => ⟨[0xDD#8, 0xCB#8], 1, [0x8F#8]⟩
  | .res_2_at_ixd_b => ⟨[0xDD#8, 0xCB#8], 1, [0x90#8]⟩
  | .res_2_at_ixd_c => ⟨[0xDD#8, 0xCB#8], 1, [0x91#8]⟩
  | .res_2_at_ixd_d => ⟨[0xDD#8, 0xCB#8], 1, [0x92#8]⟩
  | .res_2_at_ixd_e => ⟨[0xDD#8, 0xCB#8], 1, [0x93#8]⟩
  | .res_2_at_ixd_h => ⟨[0xDD#8, 0xCB#8], 1, [0x94#8]⟩
  | .res_2_at_ixd_l => ⟨[0xDD#8, 0xCB#8], 1, [0x95#8]⟩
  | .res_2_at_ixd => ⟨[0xDD#8, 0xCB#8], 1, [0x96#8]⟩
  | .res_2_at_ixd_a => ⟨[0xDD#8, 0xCB#8], 1, [0x97#8]⟩
  | .res_3_at_ixd_b => ⟨[0xDD#8, 0xCB#8], 1, [0x98#8]⟩
  | .res_3_at_ixd_c => ⟨[0xDD#8, 0xCB#8], 1, [0x99#8]⟩
  | .res_3_at_ixd_d => ⟨[0xDD#8, 0xCB#8], 1, [0x9A#8]⟩
  | .res_3_at_ixd_e => ⟨[0xDD#8, 0xCB#8], 1, [0x9B#8]⟩
  | .res_3_at_ixd_h => ⟨[0xDD#8, 0xCB#8], 1, [0x9C#8]⟩
  | .res_3_at_ixd_l => ⟨[0xDD#8, 0xCB#8], 1, [0x9D#8]⟩
  | .res_3_at_ixd => ⟨[0xDD#8, 0xCB#8], 1, [0x9E#8]⟩
  | .res_3_at_ixd_a => ⟨[0xDD#8, 0xCB#8], 1, [0x9F#8]⟩
  | .res_4_at_ixd_b => ⟨[0xDD#8, 0xCB#8], 1, [0xA0#8]⟩
  | .res_4_at_ixd_c => ⟨[0xDD#8, 0xCB#8], 1, [0xA1#8]⟩
  | .res_4_at_ixd_d => ⟨[0xDD#8, 0xCB#8], 1, [0xA2#8]⟩
  | .res_4_at_ixd_e => ⟨[0xDD#8, 0xCB#8], 1, [0xA3#8]⟩
  | .res_4_at_ixd_h => ⟨[0xDD#8, 0xCB#8], 1, [0xA4#8]⟩
  | .res_4_at_ixd_l => ⟨[0xDD#8, 0xCB#8], 1, [0xA5#8]⟩
  | .res_4_at_ixd => ⟨[0xDD#8, 0xCB#8], 1, [0xA6#8]⟩
  | .res_4_at_ixd_a => ⟨[0xDD#8, 0xCB#8], 1, [0xA7#8]⟩
  | .res_5_at_ixd_b => ⟨[0xDD#8, 0xCB#8], 1, [0xA8#8]⟩
  | .res_5_at_ixd_c => ⟨[0xDD#8, 0xCB#8], 1, [0xA9#8]⟩
  | .res_5_at_ixd_d => ⟨[0xDD#8, 0xCB#8], 1, [0xAA#8]⟩
  | .res_5_at_ixd_e => ⟨[0xDD#8, 0xCB#8], 1, [0xAB#8]⟩
  | .res_5_at_ixd_h => ⟨[0xDD#8, 0xCB#8], 1, [0xAC#8]⟩
  | .res_5_at_ixd_l => ⟨[0xDD#8, 0xCB#8], 1, [0xAD#8]⟩
  | .res_5_at_ixd => ⟨[0xDD#8, 0xCB#8], 1, [0xAE#8]⟩
  | .res_5_at_ixd_a => ⟨[0xDD#8, 0xCB#8], 1, [0xAF#8]⟩
  | .res_6_at_ixd_b => ⟨[0xDD#8, 0xCB#8], 1, [0xB0#8]⟩
  | .res_6_at_ixd_c => ⟨[0xDD#8, 0xCB#8], 1, [0xB1#8]⟩
  | .res_6_at_ixd_d => ⟨[0xDD#8, 0xCB#8], 1, [0xB2#8]⟩
  | .res_6_at_ixd_e => ⟨[0xDD#8, 0xCB#8], 1, [0xB3#8]⟩
  | .res_6_at_ixd_h => ⟨[0xDD#8, 0xCB#8], 1, [0xB4#8]⟩
  | .res_6_at_ixd_l => ⟨[0xDD#8, 0xCB#8], 1, [0xB5#8]⟩
  | .res_6_at_ixd => ⟨[0xDD#8, 0xCB#8], 1, [0xB6#8]⟩
  | .res_6_at_ixd_a => ⟨[0xDD#8, 0xCB#8], 1, [0xB7#8]⟩
  | .res_7_at_ixd_b => ⟨[0xDD#8, 0xCB#8], 1, [0xB8#8]⟩
  | .res_7_at_ixd_c => ⟨[0xDD#8, 0xCB#8], 1, [0xB9#8]⟩
  | .res_7_at_ixd_d => ⟨[0xDD#8, 0xCB#8], 1, [0xBA#8]⟩
  | .res_7_at_ixd_e => ⟨[0xDD#8, 0xCB#8], 1, [0xBB#8]⟩
  | .res_7_at_ixd_h => ⟨[0xDD#8, 0xCB#8], 1, [0xBC#8]⟩
  | .res_7_at_ixd_l => ⟨[0xDD#8, 0xCB#8], 1, [0xBD#8]⟩
  | .res_7_at_ixd => ⟨[0xDD#8, 0xCB#8], 1, [0xBE#8]⟩
  | .res_7_at_ixd_a => ⟨[0xDD#8, 0xCB#8], 1, [0xBF#8]⟩
  | .set_0_at_ixd_b => ⟨[0xDD#8, 0xCB#8], 1, [0xC0#8]⟩
  | .set_0_at_ixd_c => ⟨[0xDD#8, 0xCB#8], 1, [0xC1#8]⟩
  | .set_0_at_ixd_d => ⟨[0xDD#8, 0xCB#8], 1, [0xC2#8]⟩
  | .set_0_at_ixd_e => ⟨[0xDD#8, 0xCB#8], 1, [0xC3#8]⟩
  | .set_0_at_ixd_h => ⟨[0xDD#8, 0xCB#8], 1, [0xC4#8]⟩
  | .set_0_at_ixd_l => ⟨[0xDD#8, 0xCB#8], 1, [0xC5#8]⟩
  | .set_0_at_ixd => ⟨[0xDD#8, 0xCB#8], 1, [0xC6#8]⟩
  | .set_0_at_ixd_a => ⟨[0xDD#8, 0xCB#8], 1, [0xC7#8]⟩
  | .set_1_at_ixd_b => ⟨[0xDD#8, 0xCB#8], 1, [0xC8#8]⟩
  | .set_1_at_ixd_c => ⟨[0xDD#8, 0xCB#8], 1, [0xC9#8]⟩
  | .set_1_at_ixd_d => ⟨[0xDD#8, 0xCB#8], 1, [0xCA#8]⟩
  | .set_1_at_ixd_e => ⟨[0xDD#8, 0xCB#8], 1, [0xCB#8]⟩
  | .set_1_at_ixd_h => ⟨[0xDD#8, 0xCB#8], 1, [0xCC#8]⟩
  | .set_1_at_ixd_l => ⟨[0xDD#8, 0xCB#8], 1, [0xCD#8]⟩
  | .set_1_at_ixd => ⟨[0xDD#8, 0xCB#8], 1, [0xCE#8]⟩
  | .set_1_at_ixd_a => ⟨[0xDD#8, 0xCB#8], 1, [0xCF#8]⟩
  | .set_2_at_ixd_b => ⟨[0xDD#8, 0xCB#8], 1, [0xD0#8]⟩
  | .set_2_at_ixd_c => ⟨[0xDD#8, 0xCB#8], 1, [0xD1#8]⟩
  | .set_2_at_ixd_d => ⟨[0xDD#8, 0xCB#8], 1, [0xD2#8]⟩
  | .set_2_at_ixd_e => ⟨[0xDD#8, 0xCB#8], 1, [0xD3#8]⟩
  | .set_2_at_ixd_h => ⟨[0xDD#8, 0xCB#8], 1, [0xD4#8]⟩
  | .set_2_at_ixd_l => ⟨[0xDD#8, 0xCB#8], 1, [0xD5#8]⟩
  | .set_2_at_ixd => ⟨[0xDD#8, 0xCB#8], 1, [0xD6#8]⟩
  | .set_2_at_ixd_a => ⟨[0xDD#8, 0xCB#8], 1, [0xD7#8]⟩
  | .set_3_at_ixd_b => ⟨[0xDD#8, 0xCB#8], 1, [0xD8#8]⟩
  | .set_3_at_ixd_c => ⟨[0xDD#8, 0xCB#8], 1, [0xD9#8]⟩
  | .set_3_at_ixd_d => ⟨[0xDD#8, 0xCB#8], 1, [0xDA#8]⟩
  | .set_3_at_ixd_e => ⟨[0xDD#8, 0xCB#8], 1, [0xDB#8]⟩
  | .set_3_at_ixd_h => ⟨[0xDD#8, 0xCB#8], 1, [0xDC#8]⟩
  | .set_3_at_ixd_l => ⟨[0xDD#8, 0xCB#8], 1, [0xDD#8]⟩
  | .set_3_at_ixd => ⟨[0xDD#8, 0xCB#8], 1, [0xDE#8]⟩
  | .set_3_at_ixd_a => ⟨[0xDD#8, 0xCB#8], 1, [0xDF#8]⟩
  | .set_4_at_ixd_b => ⟨[0xDD#8, 0xCB#8], 1, [0xE0#8]⟩
  | .set_4_at_ixd_c => ⟨[0xDD#8, 0xCB#8], 1, [0xE1#8]⟩
  | .set_4_at_ixd_d => ⟨[0xDD#8, 0xCB#8], 1, [0xE2#8]⟩
  | .set_4_at_ixd_e => ⟨[0xDD#8, 0xCB#8], 1, [0xE3#8]⟩
  | .set_4_at_ixd_h => ⟨[0xDD#8, 0xCB#8], 1, [0xE4#8]⟩
  | .set_4_at_ixd_l => ⟨[0xDD#8, 0xCB#8], 1, [0xE5#8]⟩
  | .set_4_at_ixd => ⟨[0xDD#8, 0xCB#8], 1, [0xE6#8]⟩
  | .set_4_at_ixd_a => ⟨[0xDD#8, 0xCB#8], 1, [0xE7#8]⟩
  | .set_5_at_ixd_b => ⟨[0xDD#8, 0xCB#8], 1, [0xE8#8]⟩
  | .set_5_at_ixd_c => ⟨[0xDD#8, 0xCB#8], 1, [0xE9#8]⟩
  | .set_5_at_ixd_d => ⟨[0xDD#8, 0xCB#8], 1, [0xEA#8]⟩
  | .set_5_at_ixd_e => ⟨[0xDD#8, 0xCB#8], 1, [0xEB#8]⟩
  | .set_5_at_ixd_h => ⟨[0xDD#8, 0xCB#8], 1, [0xEC#8]⟩
  | .set_5_at_ixd_l => ⟨[0xDD#8, 0xCB#8], 1, [0xED#8]⟩
  | .set_5_at_ixd => ⟨[0xDD#8, 0xCB#8], 1, [0xEE#8]⟩
  | .set_5_at_ixd_a => ⟨[0xDD#8, 0xCB#8], 1, [0xEF#8]⟩
  | .set_6_at_ixd_b => ⟨[0xDD#8, 0xCB#8], 1, [0xF0#8]⟩
  | .set_6_at_ixd_c => ⟨[0xDD#8, 0xCB#8], 1, [0xF1#8]⟩
  | .set_6_at_ixd_d => ⟨[0xDD#8, 0xCB#8], 1, [0xF2#8]⟩
  | .set_6_at_ixd_e => ⟨[0xDD#8, 0xCB#8], 1, [0xF3#8]⟩
  | .set_6_at_ixd_h => ⟨[0xDD#8, 0xCB#8], 1, [0xF4#8]⟩
  | .set_6_at_ixd_l => ⟨[0xDD#8, 0xCB#8], 1, [0xF5#8]⟩
  | .set_6_at_ixd => ⟨[0xDD#8, 0xCB#8], 1, [0xF6#8]⟩
  | .set_6_at_ixd_a => ⟨[0xDD#8, 0xCB#8], 1, [0xF7#8]⟩
  | .set_7_at_ixd_b => ⟨[0xDD#8, 0xCB#8], 1, [0xF8#8]⟩
  | .set_7_at_ixd_c => ⟨[0xDD#8, 0xCB#8], 1, [0xF9#8]⟩
  | .set_7_at_ixd_d => ⟨[0xDD#8, 0xCB#8], 1, [0xFA#8]⟩
  | .set_7_at_ixd_e => ⟨[0xDD#8, 0xCB#8], 1, [0xFB#8]⟩
  | .set_7_at_ixd_h => ⟨[0xDD#8, 0xCB#8], 1, [0xFC#8]⟩
  | .set_7_at_ixd_l => ⟨[0xDD#8, 0xCB#8], 1, [0xFD#8]⟩
  | .set_7_at_ixd => ⟨[0xDD#8, 0xCB#8], 1, [0xFE#8]⟩
  | .set_7_at_ixd_a => ⟨[0xDD#8, 0xCB#8], 1, [0xFF#8]⟩
  | .rlc_at_iyd_b => ⟨[0xFD#8, 0xCB#8], 1, [0x00#8]⟩
  | .rlc_at_iyd_c => ⟨[0xFD#8, 0xCB#8], 1, [0x01#8]⟩
  | .rlc_at_iyd_d => ⟨[0xFD#8, 0xCB#8], 1, [0x02#8]⟩
  | .rlc_at_iyd_e => ⟨[0xFD#8, 0xCB#8], 1, [0x03#8]⟩
  | .rlc_at_iyd_h => ⟨[0xFD#8, 0xCB#8], 1, [0x04#8]⟩
  | .rlc_at_iyd_l => ⟨[0xFD#8, 0xCB#8], 1, [0x05#8]⟩
  | .rlc_at_iyd => ⟨[0xFD#8, 0xCB#8], 1, [0x06#8]⟩
  | .rlc_at_iyd_a => ⟨[0xFD#8, 0xCB#8], 1, [0x07#8]⟩
  | .rrc_at_iyd_b => ⟨[0xFD#8, 0xCB#8], 1, [0x08#8]⟩
  | .rrc_at_iyd_c => ⟨[0xFD#8, 0xCB#8], 1, [0x09#8]⟩
  | .rrc_at_iyd_d => ⟨[0xFD#8, 0xCB#8], 1, [0x0A#8]⟩
  | .rrc_at_iyd_e => ⟨[0xFD#8, 0xCB#8], 1, [0x0B#8]⟩
  | .rrc_at_iyd_h => ⟨[0xFD#8, 0xCB#8], 1, [0x0C#8]⟩
  | .rrc_at_iyd_l => ⟨[0xFD#8, 0xCB#8], 1, [0x0D#8]⟩
  | .rrc_at_iyd => ⟨[0xFD#8, 0xCB#8], 1, [0x0E#8]⟩
  | .rrc_at_iyd_a => ⟨[0xFD#8, 0xCB#8], 1, [0x0F#8]⟩
  | .rl_at_iyd_b => ⟨[0xFD#8, 0xCB#8], 1, [0x10#8]⟩
  | .rl_at_iyd_c => ⟨[0xFD#8, 0xCB#8], 1, [0x11#8]⟩
  | .rl_at_iyd_d => ⟨[0xFD#8, 0xCB#8], 1, [0x12#8]⟩
  | .rl_at_iyd_e => ⟨[0xFD#8, 0xCB#8], 1, [0x13#8]⟩
  | .rl_at_iyd_h => ⟨[0xFD#8, 0xCB#8], 1, [0x14#8]⟩
  | .rl_at_iyd_l => ⟨[0xFD#8, 0xCB#8], 1, [0x15#8]⟩
  | .rl_at_iyd => ⟨[0xFD#8, 0xCB#8], 1, [0x16#8]⟩
  | .rl_at_iyd_a => ⟨[0xFD#8, 0xCB#8], 1, [0x17#8]⟩
  | .rr_at_iyd_b => ⟨[0xFD#8, 0xCB#8], 1, [0x18#8]⟩
  | .rr_at_iyd_c => ⟨[0xFD#8, 0xCB#8], 1, [0x19#8]⟩
  | .rr_at_iyd_d => ⟨[0xFD#8, 0xCB#8], 1, [0x1A#8]⟩
  | .rr_at_iyd_e => ⟨[0xFD#8, 0xCB#8], 1, [0x1B#8]⟩
  | .rr_at_iyd_h => ⟨[0xFD#8, 0xCB#8], 1, [0x1C#8]⟩
  | .rr_at_iyd_l => ⟨[0xFD#8, 0xCB#8], 1, [0x1D#8]⟩
  | .rr_at_iyd => ⟨[0xFD#8, 0xCB#8], 1, [0x1E#8]⟩
  | .rr_at_iyd_a => ⟨[0xFD#8, 0xCB#8], 1, [0x1F#8]⟩
  | .sla_at_iyd_b => ⟨[0xFD#8, 0xCB#8], 1, [0x20#8]⟩
  | .sla_at_iyd_c => ⟨[0xFD#8, 0xCB#8], 1, [0x21#8]⟩
  | .sla_at_iyd_d => ⟨[0xFD#8, 0xCB#8], 1, [0x22#8]⟩
  | .sla_at_iyd_e => ⟨[0xFD#8, 0xCB#8], 1, [0x23#8]⟩
  | .sla_at_iyd_h => ⟨[0xFD#8, 0xCB#8], 1, [0x24#8]⟩
  | .sla_at_iyd_l => ⟨[0xFD#8, 0xCB#8], 1, [0x25#8]⟩
  | .sla_at_iyd => ⟨[0xFD#8, 0xCB#8], 1, [0x26#8]⟩
  | .sla_at_iyd_a => ⟨[0xFD#8, 0xCB#8], 1, [0x27#8]⟩
  | .sra_at_iyd_b => ⟨[0xFD#8, 0xCB#8], 1, [0x28#8]⟩
  | .sra_at_iyd_c => ⟨[0xFD#8, 0xCB#8], 1, [0x29#8]⟩
  | .sra_at_iyd_d => ⟨[0xFD#8, 0xCB#8], 1, [0x2A#8]⟩
  | .sra_at_iyd_e => ⟨[0xFD#8, 0xCB#8], 1, [0x2B#8]⟩
  | .sra_at_iyd_h => ⟨[0xFD#8, 0xCB#8], 1, [0x2C#8]⟩
  | .sra_at_iyd_l => ⟨[0xFD#8, 0xCB#8], 1, [0x2D#8]⟩
  | .sra_at_iyd => ⟨[0xFD#8, 0xCB#8], 1, [0x2E#8]⟩
  | .sra_at_iyd_a => ⟨[0xFD#8, 0xCB#8], 1, [0x2F#8]⟩
  | .sll_at_iyd_b => ⟨[0xFD#8, 0xCB#8], 1, [0x30#8]⟩
  | .sll_at_iyd_c => ⟨[0xFD#8, 0xCB#8], 1, [0x31#8]⟩
  | .sll_at_iyd_d => ⟨[0xFD#8, 0xCB#8], 1, [0x32#8]⟩
  | .sll_at_iyd_e => ⟨[0xFD#8, 0xCB#8], 1, [0x33#8]⟩
  | .sll_at_iyd_h => ⟨[0xFD#8, 0xCB#8], 1, [0x34#8]⟩
  | .sll_at_iyd_l => ⟨[0xFD#8, 0xCB#8], 1, [0x35#8]⟩
  | .sll_at_iyd => ⟨[0xFD#8, 0xCB#8], 1, [0x36#8]⟩
  | .sll_at_iyd_a => ⟨[0xFD#8, 0xCB#8], 1, [0x37#8]⟩
  | .srl_at_iyd_b => ⟨[0xFD#8, 0xCB#8], 1, [0x38#8]⟩
  | .srl_at_iyd_c => ⟨[0xFD#8, 0xCB#8], 1, [0x39#8]⟩
  | .srl_at_iyd_d => ⟨[0xFD#8, 0xCB#8], 1, [0x3A#8]⟩
  | .srl_at_iyd_e => ⟨[0xFD#8, 0xCB#8], 1, [0x3B#8]⟩
  | .srl_at_iyd_h => ⟨[0xFD#8, 0xCB#8], 1, [0x3C#8]⟩
  | .srl_at_iyd_l => ⟨[0xFD#8, 0xCB#8], 1, [0x3D#8]⟩
  | .srl_at_iyd => ⟨[0xFD#8, 0xCB#8], 1, [0x3E#8]⟩
  | .srl_at_iyd_a => ⟨[0xFD#8, 0xCB#8], 1, [0x3F#8]⟩
  | .res_0_at_iyd_b => ⟨[0xFD#8, 0xCB#8], 1, [0x80#8]⟩
  | .res_0_at_iyd_c => ⟨[0xFD#8, 0xCB#8], 1, [0x81#8]⟩
  | .res_0_at_iyd_d => ⟨[0xFD#8, 0xCB#8], 1, [0x82#8]⟩
  | .res_0_at_iyd_e => ⟨[0xFD#8, 0xCB#8], 1, [0x83#8]⟩
  | .res_0_at_iyd_h => ⟨[0xFD#8, 0xCB#8], 1, [0x84#8]⟩
  | .res_0_at_iyd_l => ⟨[0xFD#8, 0xCB#8], 1, [0x85#8]⟩
  | .res_0_at_iyd => ⟨[0xFD#8, 0xCB#8], 1, [0x86#8]⟩
  | .res_0_at_iyd_a => ⟨[0xFD#8, 0xCB#8], 1, [0x87#8]⟩
  | .res_1_at_iyd_b => ⟨[0xFD#8, 0xCB#8], 1, [0x88#8]⟩
  | .res_1_at_iyd_c => ⟨[0xFD#8, 0xCB#8], 1, [0x89#8]⟩
  | .res_1_at_iyd_d => ⟨[0xFD#8, 0xCB#8], 1, [0x8A#8]⟩
  | .res_1_at_iyd_e => ⟨[0xFD#8, 0xCB#8], 1, [0x8B#8]⟩
  | .res_1_at_iyd_h => ⟨[0xFD#8, 0xCB#8], 1, [0x8C#8]⟩
  | .res_1_at_iyd_l => ⟨[0xFD#8, 0xCB#8], 1, [0x8D#8]⟩
  | .res_1_at_iyd => ⟨[0xFD#8, 0xCB#8], 1, [0x8E#8]⟩
  | .res_1_at_iyd_a => ⟨[0xFD#8, 0xCB#8], 1, [0x8F#8]⟩
  | .res_2_at_iyd_b => ⟨[0xFD#8, 0xCB#8], 1, [0x90#8]⟩
  | .res_2_at_iyd_c => ⟨[0xFD#8, 0xCB#8], 1, [0x91#8]⟩
  | .res_2_at_iyd_d => ⟨[0xFD#8, 0xCB#8], 1, [0x92#8]⟩
  | .res_2_at_iyd_e => ⟨[0xFD#8, 0xCB#8], 1, [0x93#8]⟩
  | .res_2_at_iyd_h => ⟨[0xFD#8, 0xCB#8], 1, [0x94#8]⟩
  | .res_2_at_iyd_l => ⟨[0xFD#8, 0xCB#8], 1, [0x95#8]⟩
  | .res_2_at_iyd => ⟨[0xFD#8, 0xCB#8], 1, [0x96#8]⟩
  | .res_2_at_iyd_a => ⟨[0xFD#8, 0xCB#8], 1, [0x97#8]⟩
  | .res_3_at_iyd_b => ⟨[0xFD#8, 0xCB#8], 1, [0x98#8]⟩
  | .res_3_at_iyd_c => ⟨[0xFD#8, 0xCB#8], 1, [0x99#8]⟩
  | .res_3_at_iyd_d => ⟨[0xFD#8, 0xCB#8], 1, [0x9A#8]⟩
  | .res_3_at_iyd_e => ⟨[0xFD#8, 0xCB#8], 1, [0x9B#8]⟩
  | .res_3_at_iyd_h => ⟨[0xFD#8, 0xCB#8], 1, [0x9C#8]⟩
  | .res_3_at_iyd_l => ⟨[0xFD#8, 0xCB#8], 1, [0x9D#8]⟩
  | .res_3_at_iyd => ⟨[0xFD#8, 0xCB#8], 1, [0x9E#8]⟩
  | .res_3_at_iyd_a => ⟨[0xFD#8, 0xCB#8], 1, [0x9F#8]⟩
  | .res_4_at_iyd_b => ⟨[0xFD#8, 0xCB#8], 1, [0xA0#8]⟩
  | .res_4_at_iyd_c => ⟨[0xFD#8, 0xCB#8], 1, [0xA1#8]⟩
  | .res_4_at_iyd_d => ⟨[0xFD#8, 0xCB#8], 1, [0xA2#8]⟩
  | .res_4_at_iyd_e => ⟨[0xFD#8, 0xCB#8], 1, [0xA3#8]⟩
  | .res_4_at_iyd_h => ⟨[0xFD#8, 0xCB#8], 1, [0xA4#8]⟩
  | .res_4_at_iyd_l => ⟨[0xFD#8, 0xCB#8], 1, [0xA5#8]⟩
  | .res_4_at_iyd => ⟨[0xFD#8, 0xCB#8], 1, [0xA6#8]⟩
  | .res_4_at_iyd_a => ⟨[0xFD#8, 0xCB#8], 1, [0xA7#8]⟩
  | .res_5_at_iyd_b => ⟨[0xFD#8, 0xCB#8], 1, [0xA8#8]⟩
  | .res_5_at_iyd_c => ⟨[0xFD#8, 0xCB#8], 1, [0xA9#8]⟩
  | .res_5_at_iyd_d => ⟨[0xFD#8, 0xCB#8], 1, [0xAA#8]⟩
  | .res_5_at_iyd_e => ⟨[0xFD#8, 0xCB#8], 1, [0xAB#8]⟩
  | .res_5_at_iyd_h => ⟨[0xFD#8, 0xCB#8], 1, [0xAC#8]⟩
  | .res_5_at_iyd_l => ⟨[0xFD#8, 0xCB#8], 1, [0xAD#8]⟩
  | .res_5_at_iyd => ⟨[0xFD#8, 0xCB#8], 1, [0xAE#8]⟩
  | .res_5_at_iyd_a => ⟨[0xFD#8, 0xCB#8], 1, [0xAF#8]⟩
  | .res_6_at_iyd_b => ⟨[0xFD#8, 0xCB#8], 1, [0xB0#8]⟩
  | .res_6_at_iyd_c => ⟨[0xFD#8, 0xCB#8], 1, [0xB1#8]⟩
  | .res_6_at_iyd_d => ⟨[0xFD#8, 0xCB#8], 1, [0xB2#8]⟩
  | .res_6_at_iyd_e => ⟨[0xFD#8, 0xCB#8], 1, [0xB3#8]⟩
  | .res_6_at_iyd_h => ⟨[0xFD#8, 0xCB#8], 1, [0xB4#8]⟩
  | .res_6_at_iyd_l => ⟨[0xFD#8, 0xCB#8], 1, [0xB5#8]⟩
  | .res_6_at_iyd => ⟨[0xFD#8, 0xCB#8], 1, [0xB6#8]⟩
  | .res_6_at_iyd_a => ⟨[0xFD#8, 0xCB#8], 1, [0xB7#8]⟩
  | .res_7_at_iyd_b => ⟨[0xFD#8, 0xCB#8], 1, [0xB8#8]⟩
  | .res_7_at_iyd_c => ⟨[0xFD#8, 0xCB#8], 1, [0xB9#8]⟩
  | .res_7_at_iyd_d => ⟨[0xFD#8, 0xCB#8], 1, [0xBA#8]⟩
  | .res_7_at_iyd_e => ⟨[0xFD#8, 0xCB#8], 1, [0xBB#8]⟩
  | .res_7_at_iyd_h => ⟨[0xFD#8, 0xCB#8], 1, [0xBC#8]⟩
  | .res_7_at_iyd_l => ⟨[0xFD#8, 0xCB#8], 1, [0xBD#8]⟩
  | .res_7_at_iyd => ⟨[0xFD#8, 0xCB#8], 1, [0xBE#8]⟩
  | .res_7_at_iyd_a => ⟨[0xFD#8, 0xCB#8], 1, [0xBF#8]⟩
  | .set_0_at_iyd_b => ⟨[0xFD#8, 0xCB#8], 1, [0xC0#8]⟩
  | .set_0_at_iyd_c => ⟨[0xFD#8, 0xCB#8], 1, [0xC1#8]⟩
  | .set_0_at_iyd_d => ⟨[0xFD#8, 0xCB#8], 1, [0xC2#8]⟩
  | .set_0_at_iyd_e => ⟨[0xFD#8, 0xCB#8], 1, [0xC3#8]⟩
  | .set_0_at_iyd_h => ⟨[0xFD#8, 0xCB#8], 1, [0xC4#8]⟩
  | .set_0_at_iyd_l => ⟨[0xFD#8, 0xCB#8], 1, [0xC5#8]⟩
  | .set_0_at_iyd => ⟨[0xFD#8, 0xCB#8], 1, [0xC6#8]⟩
  | .set_0_at_iyd_a => ⟨[0xFD#8, 0xCB#8], 1, [0xC7#8]⟩
  | .set_1_at_iyd_b => ⟨[0xFD#8, 0xCB#8], 1, [0xC8#8]⟩
  | .set_1_at_iyd_c => ⟨[0xFD#8, 0xCB#8], 1, [0xC9#8]⟩
  | .set_1_at_iyd_d => ⟨[0xFD#8, 0xCB#8], 1, [0xCA#8]⟩
  | .set_1_at_iyd_e => ⟨[0xFD#8, 0xCB#8], 1, [0xCB#8]⟩
  | .set_1_at_iyd_h => ⟨[0xFD#8, 0xCB#8], 1, [0xCC#8]⟩
  | .set_1_at_iyd_l => ⟨[0xFD#8, 0xCB#8], 1, [0xCD#8]⟩
  | .set_1_at_iyd => ⟨[0xFD#8, 0xCB#8], 1, [0xCE#8]⟩
  | .set_1_at_iyd_a => ⟨[0xFD#8, 0xCB#8], 1, [0xCF#8]⟩
  | .set_2_at_iyd_b => ⟨[0xFD#8, 0xCB#8], 1, [0xD0#8]⟩
  | .set_2_at_iyd_c => ⟨[0xFD#8, 0xCB#8], 1, [0xD1#8]⟩
  | .set_2_at_iyd_d => ⟨[0xFD#8, 0xCB#8], 1, [0xD2#8]⟩
  | .set_2_at_iyd_e => ⟨[0xFD#8, 0xCB#8], 1, [0xD3#8]⟩
  | .set_2_at_iyd_h => ⟨[0xFD#8, 0xCB#8], 1, [0xD4#8]⟩
  | .set_2_at_iyd_l => ⟨[0xFD#8, 0xCB#8], 1, [0xD5#8]⟩
  | .set_2_at_iyd => ⟨[0xFD#8, 0xCB#8], 1, [0xD6#8]⟩
  | .set_2_at_iyd_a => ⟨[0xFD#8, 0xCB#8], 1, [0xD7#8]⟩
  | .set_3_at_iyd_b => ⟨[0xFD#8, 0xCB#8], 1, [0xD8#8]⟩
  | .set_3_at_iyd_c => ⟨[0xFD#8, 0xCB#8], 1, [0xD9#8]⟩
  | .set_3_at_iyd_d => ⟨[0xFD#8, 0xCB#8], 1, [0xDA#8]⟩
  | .set_3_at_iyd_e => ⟨[0xFD#8, 0xCB#8], 1, [0xDB#8]⟩
  | .set_3_at_iyd_h => ⟨[0xFD#8, 0xCB#8], 1, [0xDC#8]⟩
  | .set_3_at_iyd_l => ⟨[0xFD#8, 0xCB#8], 1, [0xDD#8]⟩
  | .set_3_at_iyd => ⟨[0xFD#8, 0xCB#8], 1, [0xDE#8]⟩
  | .set_3_at_iyd_a => ⟨[0xFD#8, 0xCB#8], 1, [0xDF#8]⟩
  | .set_4_at_iyd_b => ⟨[0xFD#8, 0xCB#8], 1, [0xE0#8]⟩
  | .set_4_at_iyd_c => ⟨[0xFD#8, 0xCB#8], 1, [0xE1#8]⟩
  | .set_4_at_iyd_d => ⟨[0xFD#8, 0xCB#8], 1, [0xE2#8]⟩
  | .set_4_at_iyd_e => ⟨[0xFD#8, 0xCB#8], 1, [0xE3#8]⟩
  | .set_4_at_iyd_h => ⟨[0xFD#8, 0xCB#8], 1, [0xE4#8]⟩
  | .set_4_at_iyd_l => ⟨[0xFD#8, 0xCB#8], 1, [0xE5#8]⟩
  | .set_4_at_iyd => ⟨[0xFD#8, 0xCB#8], 1, [0xE6#8]⟩
  | .set_4_at_iyd_a => ⟨[0xFD#8, 0xCB#8], 1, [0xE7#8]⟩
  | .set_5_at_iyd_b => ⟨[0xFD#8, 0xCB#8], 1, [0xE8#8]⟩
  | .set_5_at_iyd_c => ⟨[0xFD#8, 0xCB#8], 1, [0xE9#8]⟩
  | .set_5_at_iyd_d => ⟨[0xFD#8, 0xCB#8], 1, [0xEA#8]⟩
  | .set_5_at_iyd_e => ⟨[0xFD#8, 0xCB#8], 1, [0xEB#8]⟩
  | .set_5_at_iyd_h => ⟨[0xFD#8, 0xCB#8], 1, [0xEC#8]⟩
  | .set_5_at_iyd_l => ⟨[0xFD#8, 0xCB#8], 1, [0xED#8]⟩
  | .set_5_at_iyd => ⟨[0xFD#8, 0xCB#8], 1, [0xEE#8]⟩
  | .set_5_at_iyd_a => ⟨[0xFD#8, 0xCB#8], 1, [0xEF#8]⟩
  | .set_6_at_iyd_b => ⟨[0xFD#8, 0xCB#8], 1, [0xF0#8]⟩
  | .set_6_at_iyd_c => ⟨[0xFD#8, 0xCB#8], 1, [0xF1#8]⟩
  | .set_6_at_iyd_d => ⟨[0xFD#8, 0xCB#8], 1, [0xF2#8]⟩
  | .set_6_at_iyd_e => ⟨[0xFD#8, 0xCB#8], 1, [0xF3#8]⟩
  | .set_6_at_iyd_h => ⟨[0xFD#8, 0xCB#8], 1, [0xF4#8]⟩
  | .set_6_at_iyd_l => ⟨[0xFD#8, 0xCB#8], 1, [0xF5#8]⟩
  | .set_6_at_iyd => ⟨[0xFD#8, 0xCB#8], 1, [0xF6#8]⟩
  | .set_6_at_iyd_a => ⟨[0xFD#8, 0xCB#8], 1, [0xF7#8]⟩
  | .set_7_at_iyd_b => ⟨[0xFD#8, 0xCB#8], 1, [0xF8#8]⟩
  | .set_7_at_iyd_c => ⟨[0xFD#8, 0xCB#8], 1, [0xF9#8]⟩
  | .set_7_at_iyd_d => ⟨[0xFD#8, 0xCB#8], 1, [0xFA#8]⟩
  | .set_7_at_iyd_e => ⟨[0xFD#8, 0xCB#8], 1, [0xFB#8]⟩
  | .set_7_at_iyd_h => ⟨[0xFD#8, 0xCB#8], 1, [0xFC#8]⟩
  | .set_7_at_iyd_l => ⟨[0xFD#8, 0xCB#8], 1, [0xFD#8]⟩
  | .set_7_at_iyd => ⟨[0xFD#8, 0xCB#8], 1, [0xFE#8]⟩
  | .set_7_at_iyd_a => ⟨[0xFD#8, 0xCB#8], 1, [0xFF#8]⟩
  | .in_b_at_c => ⟨[0xED#8, 0x40#8], 0, []⟩
  | .out_at_c_b => ⟨[0xED#8, 0x41#8], 0, []⟩
  | .sbc_hl_bc => ⟨[0xED#8, 0x42#8], 0, []⟩
  | .ld_at_nn_bc => ⟨[0xED#8, 0x43#8], 2, []⟩
  | .ld_i_a => ⟨[0xED#8, 0x47#8], 0, []⟩
  | .in_c_at_c => ⟨[0xED#8, 0x48#8], 0, []⟩
  | .out_at_c_c => ⟨[0xED#8, 0x49#8], 0, []⟩
  | .adc_hl_bc => ⟨[0xED#8, 0x4A#8], 0, []⟩
  | .ld_bc_at_nn => ⟨[0xED#8, 0x4B#8], 2, []⟩
  | .reti => ⟨[0xED#8, 0x4D#8], 0, []⟩
  | .ld_r_a => ⟨[0xED#8, 0x4F#8], 0, []⟩
  | .in_d_at_c => ⟨[0xED#8, 0x50#8], 0, []⟩
  | .out_at_c_d => ⟨[0xED#8, 0x51#8], 0, []⟩
  | .sbc_hl_de => ⟨[0xED#8, 0x52#8], 0, []⟩
  | .ld_at_nn_de => ⟨[0xED#8, 0x53#8], 2, []⟩
  | .ld_a_i => ⟨[0xED#8, 0x57#8], 0, []⟩
  | .in_e_at_c => ⟨[0xED#8, 0x58#8], 0, []⟩
  | .out_at_c_e => ⟨[0xED#8, 0x59#8], 0, []⟩
  | .adc_hl_de => ⟨[0xED#8, 0x5A#8], 0, []⟩
  | .ld_de_at_nn => ⟨[0xED#8, 0x5B#8], 2, []⟩
  | .ld_a_r => ⟨[0xED#8, 0x5F#8], 0, []⟩
  | .in_h_at_c => ⟨[0xED#8, 0x60#8], 0, []⟩
  | .out_at_c_h => ⟨[0xED#8, 0x61#8], 0, []⟩
  | .sbc_hl_hl => ⟨[0xED#8, 0x62#8], 0, []⟩
  | .ld_at_nn_hl_ed => ⟨[0xED#8, 0x63#8], 2, []⟩
  | .rrd => ⟨[0xED#8, 0x67#8], 0, []⟩
  | .in_l_at_c => ⟨[0xED#8, 0x68#8], 0, []⟩
  | .out_at_c_l => ⟨[0xED#8, 0x69#8], 0, []⟩
  | .adc_hl_hl => ⟨[0xED#8, 0x6A#8], 0, []⟩
  | .ld_hl_at_nn_ed => ⟨[0xED#8, 0x6B#8], 2, []⟩
  | .rld => ⟨[0xED#8, 0x6F#8], 0, []⟩
  | .in_at_c => ⟨[0xED#8, 0x70#8], 0, []⟩
  | .out_at_c_0 => ⟨[0xED#8, 0x71#8], 0, []⟩
  | .sbc_hl_sp => ⟨[0xED#8, 0x72#8], 0, []⟩
  | .ld_at_nn_sp => ⟨[0xED#8, 0x73#8], 2, []⟩
  | .in_a_at_c => ⟨[0xED#8, 0x78#8], 0, []⟩
  | .out_at_c_a => ⟨[0xED#8, 0x79#8], 0, []⟩
  | .adc_hl_sp => ⟨[0xED#8, 0x7A#8], 0, []⟩
  | .ld_sp_at_nn => ⟨[0xED#8, 0x7B#8], 2, []⟩
  | .ldi => ⟨[0xED#8, 0xA0#8], 0, []⟩
  | .cpi => ⟨[0xED#8, 0xA1#8], 0, []⟩
  | .ini => ⟨[0xED#8, 0xA2#8], 0, []⟩
  | .outi => ⟨[0xED#8, 0xA3#8], 0, []⟩
  | .ldd => ⟨[0xED#8, 0xA8#8], 0, []⟩
  | .cpd => ⟨[0xED#8, 0xA9#8], 0, []⟩
  | .ind => ⟨[0xED#8, 0xAA#8], 0, []⟩
  | .outd => ⟨[0xED#8, 0xAB#8], 0, []⟩
  | .ldir => ⟨[0xED#8, 0xB0#8], 0, []⟩
  | .cpir => ⟨[0xED#8, 0xB1#8], 0, []⟩
  | .inir => ⟨[0xED#8, 0xB2#8], 0, []⟩
  | .otir => ⟨[0xED#8, 0xB3#8], 0, []⟩
  | .lddr => ⟨[0xED#8, 0xB8#8], 0, []⟩
  | .cpdr => ⟨[0xED#8, 0xB9#8], 0, []⟩
  | .indr => ⟨[0xED#8, 0xBA#8], 0, []⟩
  | .otdr => ⟨[0xED#8, 0xBB#8], 0, []⟩

/-! ## Decoding byte lists -/

/-- The instruction an opcode byte selects under the latches, as its table row. -/
def decodeInstr (pm : PrefixMode) (im : IndexMode) (op : Byte) : Instr := (decodeForm pm im op).instr

/-- An instruction with its operand bytes in the order they stand in memory (R90). -/
structure Decoded where
  instr : Instr
  operands : List Byte
  deriving DecidableEq, Repr

/-- Well-formed: the instruction is, and it has as many operand bytes as its row (R90). -/
def Decoded.wf (d : Decoded) : Bool := d.instr.wf && d.operands.length == (rowCode d.instr).operands

/-- The bytes of a well-formed instruction in fetch order. -/
def encode (d : Decoded) : List Byte := (rowCode d.instr).before ++ d.operands ++ (rowCode d.instr).after

/-- Why the list decoder refuses. No byte sequence is illegal (R104), so the only reason is a list that ends early. -/
inductive DecodeReject where
  | truncated
  deriving DecidableEq, Repr

/-- The latches after a prefix byte, where the byte acts as one (R161 to R163); none where it is an opcode. -/
def latchStep (pm : PrefixMode) (im : IndexMode) (b : Byte) : Option (PrefixMode × IndexMode) :=
  match pm with
  | .none =>
    if b = 0xDD#8 then some (.none, .ix)
    else if b = 0xFD#8 then some (.none, .iy)
    else if b = 0xCB#8 then some (.bit, im)
    else if b = 0xED#8 then some (.extended, .none)
    else none
  | _ => none

/-- Reads the leading prefix bytes of a list into the latches (the loop of R105), as long as a byte follows them. -/
def stripPrefixes (pm : PrefixMode) (im : IndexMode) : List Byte → PrefixMode × IndexMode × List Byte
  | b :: c :: rest =>
    match latchStep pm im b with
    | some (pm', im') => stripPrefixes pm' im' (c :: rest)
    | none => (pm, im, b :: c :: rest)
  | bs => (pm, im, bs)

/-- Whether the latches select the indexed bit form, whose displacement stands before the opcode byte (R166). -/
def indexedBit (pm : PrefixMode) (im : IndexMode) : Bool := pm == .bit && im != .none

/-- One cycle's instruction from a list of bytes, and the rest of the list (R105). -/
def decodeCycle (pm : PrefixMode) (im : IndexMode) (bytes : List Byte) : Except DecodeReject (Decoded × List Byte) :=
  if indexedBit pm im then
    match bytes with
    | d :: op :: rest => .ok (⟨decodeInstr pm im op, [d]⟩, rest)
    | _ => .error .truncated
  else
    match bytes with
    | [] => .error .truncated
    | op :: rest =>
      let k := (decodeForm pm im op).operandBytes
      if k ≤ rest.length then .ok (⟨decodeInstr pm im op, rest.take k⟩, rest.drop k) else .error .truncated

/-- A whole instruction, prefixes included, from a list of bytes (R105). A list that is one prefix byte alone is that
prefix byte's own cycle (R162). -/
def decode (bytes : List Byte) : Except DecodeReject (Decoded × List Byte) :=
  match stripPrefixes .none .none bytes with
  | (pm, im, bs) => decodeCycle pm im bs

/-! ## Words numbered as opcode_table.json numbers them -/

/-- `k` bytes of `w`, the most significant first: how the table's `match` writes an instruction's leading bytes
("one big-endian hex number in fetch order (prefix first)", INDEX.md). -/
def bytesBigEndian (w : Nat) : Nat → List Byte
  | 0 => []
  | k + 1 => BitVec.ofNat 8 (w / 256 ^ k) :: bytesBigEndian w k

/-- Whether a byte is one of the four prefix values. -/
def isPrefixByte (b : Byte) : Bool := b == 0xDD#8 || b == 0xFD#8 || b == 0xCB#8 || b == 0xED#8

/-- The bytes of a table word in fetch order. Every row of more than one byte begins with a prefix byte; a word whose
most significant byte is none is read in the other order, its least significant byte first (log 11). -/
def tableBytes (nbits w : Nat) : List Byte :=
  let bytes := bytesBigEndian w (nbits / 8)
  if isPrefixByte (bytes.headD 0x00#8) then bytes
  else if isPrefixByte (bytes.getLastD 0x00#8) then bytes.reverse
  else bytes

/-- The instruction the decoder reads from a word of opcode_table.json: its prefix bytes are read into the latches,
the operand bytes above `nbits` are zero. None for a word of no bytes. -/
def decodeTableWord (nbits w : Nat) : Option Instr :=
  match stripPrefixes .none .none (tableBytes nbits w) with
  | (_, _, []) => none
  | (pm, im, b0 :: rest) => some (decodeInstr pm im (if indexedBit pm im then rest.headD 0x00#8 else b0))

end Sys2Proof
end

