-- ==== Sys2Proof/Machine/State.lean ====
section
/-! DEFINITION. The state of the core as plain data (10_state.md), with the RAM and ROM behind the Bus (R67) and the bus
call log, and the state right after reset (R560). Fields marked "model's own" are not the spec's. -/

namespace Sys2Proof.Machine

/-- The eight 8-bit general registers (R20). The pairs `AF BC DE HL` are views of the halves (R21). -/
structure Regs where
  a : Byte
  f : Byte
  b : Byte
  c : Byte
  d : Byte
  e : Byte
  h : Byte
  l : Byte
  deriving DecidableEq, Repr

/-- The four signal bits (R33). -/
structure Signals where
  int : Bool
  halted : Bool
  reset : Bool
  nmi : Bool
  deriving DecidableEq, Repr

/-- The four calls of the memory and port interfaces (R60, R61, R63, R64). -/
inductive BusKind where
  | memRead
  | memWrite
  | portRead
  | portWrite
  deriving DecidableEq, Repr

/-- One bus call (R72, R73): its address, the byte that moved, and `tacts` when the call was made. -/
structure BusCall where
  kind : BusKind
  address : Word
  value : Byte
  tacts : Nat
  deriving DecidableEq, Repr

/-- The state of the core and of the memory behind the Bus. -/
structure State where
  /-- `A F B C D E H L` (R20). -/
  regs : Regs
  /-- `AF'` (R22). -/
  afAlt : Word
  /-- `BC'` (R22). -/
  bcAlt : Word
  /-- `DE'` (R22). -/
  deAlt : Word
  /-- `HL'` (R22). -/
  hlAlt : Word
  /-- `IX` (R23). -/
  ix : Word
  /-- `IY` (R23). -/
  iy : Word
  /-- `SP` (R24). -/
  sp : Word
  /-- `PC` (R26). -/
  pc : Word
  /-- `WZ` (R25). -/
  wz : Word
  /-- `I` (R28). -/
  iReg : Byte
  /-- `R` (R29). -/
  rReg : Byte
  /-- `IFF1` (R34). -/
  iff1 : Bool
  /-- `IFF2` (R34). -/
  iff2 : Bool
  /-- `IM` (R35). -/
  im : IntMode
  /-- The signal bits (R33). -/
  sig : Signals
  /-- The maskable interrupt hold-off (R36). -/
  blocked : Bool
  /-- The in-progress flag (R37). -/
  inOp : Bool
  /-- The prefix-decode latch (R38). -/
  prefixMode : PrefixMode
  /-- The index latch (R39). -/
  indexMode : IndexMode
  /-- The last opcode byte (R40). -/
  opCode : Byte
  /-- The tact counter (R32). -/
  tacts : Nat
  /-- The contents of RAM and ROM behind the Bus (R67), in canonical form. -/
  mem : List Host.Cell
  /-- The parameters of R4, which no step writes. -/
  cfg : Params
  /-- Model's own (log 8): the displacement `d` that the cycle of R166 has read for the entry it runs. -/
  disp : Byte
  /-- Model's own (log 7): the bus calls made so far, newest first. Their number is what a device's free answers are applied to
  (log 19). -/
  log : List BusCall
  /-- Model's own (log 4): the environment's answers to the next port reads, oldest first. -/
  portInputs : List Byte
  /-- Model's own (log 4): how many port reads were made; the free value of an unheld answer is applied to it. -/
  portReads : Nat
  deriving DecidableEq, Repr

/-- The opcode space a model-level fault names (R12). -/
inductive ExtSpace where
  | cb
  | ed
  deriving DecidableEq, Repr

/-- Why the machine stops. -/
inductive Fault where
  /-- `Unimplemented(space)` of R12, raised by `runCycle` for a terminal opcode of the bit or extended table, only
  under the parameter `EXT_TABLES = unimplemented` (R168). Safe: no effect is claimed. -/
  | unimplemented (space : ExtSpace) (address : Word)
  deriving DecidableEq, Repr

/-- Why the model has no meaning for an instruction. -/
inductive Refusal where
  /-- An arm of `exec` that has no meaning yet. No arm raises it: every instruction is modelled. Safe. -/
  | notModelled (mnemonic : String)
  deriving DecidableEq, Repr

/-- The outcome of one step. -/
abbrev Out := Host.Outcome State Fault Refusal

/-- The state right after reset: the values of R560 and, where reset leaves a register unchanged and no source gives
its value at power-on (R561), zero (DESIGN CHOICE, log 1; unsafe). Memory lists nothing (log 2). -/
def State.reset : State :=
  { regs := { a := 0x00#8, f := 0x00#8, b := 0x00#8, c := 0x00#8, d := 0x00#8, e := 0x00#8, h := 0x00#8, l := 0x00#8 }
    afAlt := 0x0000#16, bcAlt := 0x0000#16, deAlt := 0x0000#16, hlAlt := 0x0000#16
    ix := 0x0000#16, iy := 0x0000#16, sp := 0x0000#16, pc := 0x0000#16, wz := 0x0000#16
    iReg := 0x00#8, rReg := 0x00#8, iff1 := false, iff2 := false, im := .im0
    sig := { int := false, halted := false, reset := false, nmi := false }
    blocked := false, inOp := false, prefixMode := .none, indexMode := .none
    opCode := 0x00#8, tacts := 0, mem := [], cfg := Params.default
    disp := 0x00#8, log := [], portInputs := [], portReads := 0 }

end Sys2Proof.Machine
end

