-- ==== Sys2Proof/Machine/Operands.lean ====
section
/-! DEFINITION. Operand forms: reading and writing registers, pairs, index registers and their halves by name (R20 to R25,
R93 to R95, R379), the conditions (R310) and the effective address (R361). -/

namespace Sys2Proof.Machine

/-! ## Pairs as views of their halves (R21) -/

/-- `AF = pair(A, F)` (R21). -/
def State.af (s : State) : Word := pairOf s.regs.a s.regs.f

/-- `BC = pair(B, C)` (R21). -/
def State.bc (s : State) : Word := pairOf s.regs.b s.regs.c

/-- `DE = pair(D, E)` (R21). -/
def State.de (s : State) : Word := pairOf s.regs.d s.regs.e

/-- `HL = pair(H, L)` (R21). -/
def State.hl (s : State) : Word := pairOf s.regs.h s.regs.l

/-- `AF <- v`: all eight bits of `F` are written (R30). -/
def State.setAf (s : State) (v : Word) : State := { s with regs.a := highByte v, regs.f := lowByte v }

/-- `BC <- v` (R21). -/
def State.setBc (s : State) (v : Word) : State := { s with regs.b := highByte v, regs.c := lowByte v }

/-- `DE <- v` (R21). -/
def State.setDe (s : State) (v : Word) : State := { s with regs.d := highByte v, regs.e := lowByte v }

/-- `HL <- v` (R21). -/
def State.setHl (s : State) (v : Word) : State := { s with regs.h := highByte v, regs.l := lowByte v }

/-! ## Registers by operand code -/

/-- `r[i]` as read (R93). -/
def Regs.get (g : Regs) : Reg8 → Byte
  | .b => g.b
  | .c => g.c
  | .d => g.d
  | .e => g.e
  | .h => g.h
  | .l => g.l
  | .a => g.a

/-- `r[i] <- v` (R93). -/
def Regs.set (g : Regs) (r : Reg8) (v : Byte) : Regs :=
  match r with
  | .b => { g with b := v }
  | .c => { g with c := v }
  | .d => { g with d := v }
  | .e => { g with e := v }
  | .h => { g with h := v }
  | .l => { g with l := v }
  | .a => { g with a := v }

/-- `r[i]` (R93). -/
def State.reg (s : State) (r : Reg8) : Byte := s.regs.get r

/-- `r[i] <- v` (R93). -/
def State.setReg (s : State) (r : Reg8) (v : Byte) : State := { s with regs := s.regs.set r v }

/-- `A <- v`. -/
def State.setA (s : State) (v : Byte) : State := { s with regs.a := v }

/-- `F <- v`. -/
def State.setF (s : State) (v : Byte) : State := { s with regs.f := v }

/-- `B <- v`. -/
def State.setB (s : State) (v : Byte) : State := { s with regs.b := v }

/-- A register no index prefix renames, as a register of R93. -/
def plain : PlainReg → Reg8
  | .b => .b
  | .c => .c
  | .d => .d
  | .e => .e
  | .a => .a

/-- `rr[p]` (R94). -/
def State.pair (s : State) : Pair → Word
  | .bc => s.bc
  | .de => s.de
  | .hl => s.hl
  | .sp => s.sp

/-- `rr[p] <- v` (R94). -/
def State.setPair (s : State) (p : Pair) (v : Word) : State :=
  match p with
  | .bc => s.setBc v
  | .de => s.setDe v
  | .hl => s.setHl v
  | .sp => { s with sp := v }

/-- `qq[p]` (R95). -/
def State.qpair (s : State) : QPair → Word
  | .bc => s.bc
  | .de => s.de
  | .hl => s.hl
  | .af => s.af

/-- `qq[p] <- v` (R95). -/
def State.setQPair (s : State) (p : QPair) (v : Word) : State :=
  match p with
  | .bc => s.setBc v
  | .de => s.setDe v
  | .hl => s.setHl v
  | .af => s.setAf v

/-! ## Index registers -/

/-- `XY` (R360). -/
def State.xy (s : State) : XY → Word
  | .ix => s.ix
  | .iy => s.iy

/-- `XY <- v` (R360). -/
def State.setXy (s : State) (x : XY) (v : Word) : State :=
  match x with
  | .ix => { s with ix := v }
  | .iy => { s with iy := v }

/-- `XYH` or `XYL` (R23). -/
def State.half (s : State) (x : XY) : Half → Byte
  | .high => highByte (s.xy x)
  | .low => lowByte (s.xy x)

/-- `XYH <- v` or `XYL <- v`; the other half keeps its value (R23). -/
def State.setHalf (s : State) (x : XY) (h : Half) (v : Byte) : State :=
  match h with
  | .high => s.setXy x (pairOf v (lowByte (s.xy x)))
  | .low => s.setXy x (pairOf (highByte (s.xy x)) v)

/-- `rr[p]` in the index table: code 2 names the index register itself (R370). -/
def State.pairXy (s : State) (x : XY) : Pair → Word
  | .bc => s.bc
  | .de => s.de
  | .hl => s.xy x
  | .sp => s.sp

/-- `(XY + sext_16(d)) mod 65536` (R361). -/
def State.effective (s : State) (x : XY) (d : Byte) : Word := s.xy x + signExtend16 d

/-! ## Conditions (R310) -/

/-- `F.C`. -/
def carryOf (f : Byte) : Bool := f.getLsbD 0

/-- `F.N`. -/
def subtractOf (f : Byte) : Bool := f.getLsbD 1

/-- `F.PV`. -/
def parityOf (f : Byte) : Bool := f.getLsbD 2

/-- `F.H`. -/
def halfOf (f : Byte) : Bool := f.getLsbD 4

/-- `F.Z`. -/
def zeroOf (f : Byte) : Bool := f.getLsbD 6

/-- `F.S`. -/
def signOf (f : Byte) : Bool := f.getLsbD 7

/-- `cond(c)` of a flag byte (R310). -/
def condHolds (f : Byte) : Cond → Bool
  | .nz => !zeroOf f
  | .z => zeroOf f
  | .nc => !carryOf f
  | .c => carryOf f
  | .po => !parityOf f
  | .pe => parityOf f
  | .p => !signOf f
  | .m => signOf f

/-- `cond(y - 4)` of a relative jump (R314). -/
def relHolds (f : Byte) : RelCond → Bool
  | .nz => !zeroOf f
  | .z => zeroOf f
  | .nc => !carryOf f
  | .c => carryOf f

end Sys2Proof.Machine
end

