-- ==== Sys2Proof/Machine/Flags.lean ====
section
/-! DEFINITION. The flag tables and the ALU engine as total functions (40_alu_flag_tables.md), and the flag formulas of the
accumulator rotates, the bit table and the block instructions (43_arith_logic.md, 47_cb_bit.md, 48_ed_extended.md). -/

namespace Sys2Proof.Machine

/-! ## Masks and helpers (R30, R121) -/

def flagS : Byte := 0x80#8
def flagZ : Byte := 0x40#8
def flag5 : Byte := 0x20#8
def flagH : Byte := 0x10#8
def flag3 : Byte := 0x08#8
def flagPV : Byte := 0x04#8
def flagN : Byte := 0x02#8
def flagC : Byte := 0x01#8

/-- `mask if c else 0`. -/
def flagIf (c : Bool) (mask : Byte) : Byte := if c then mask else 0x00#8

/-- Bits 5 and 3 of a byte (`v & (FLAG_5 | FLAG_3)`). -/
def bits53 (v : Byte) : Byte := v &&& (flag5 ||| flag3)

/-- `parity(v) == 1`: an even number of 1 bits (00_scope.md section 5.1). -/
def evenParity (v : Byte) : Bool :=
  !(v.getLsbD 0 ^^ v.getLsbD 1 ^^ v.getLsbD 2 ^^ v.getLsbD 3 ^^ v.getLsbD 4 ^^ v.getLsbD 5 ^^ v.getLsbD 6 ^^ v.getLsbD 7)

/-- `sz53(v)` (R121). -/
def sz53 (v : Byte) : Byte := (v &&& flagS) ||| flagIf (v == 0x00#8) flagZ ||| bits53 v

/-- `szp53(v)` (R121). -/
def szp53 (v : Byte) : Byte := sz53 v ||| flagIf (evenParity v) flagPV

/-- The low nibble as a number. -/
def nibble (v : Byte) : Nat := v.toNat % 16

/-! ## Increment and decrement (R124, R125) -/

/-- `INC_FLAGS[v]` (R124). -/
def incFlags (v : Byte) : Byte :=
  sz53 (v + 1#8) ||| flagIf (nibble v == 0xF) flagH ||| flagIf (v == 0x7F#8) flagPV

/-- `DEC_FLAGS[v]` (R125). -/
def decFlags (v : Byte) : Byte :=
  sz53 (v - 1#8) ||| flagN ||| flagIf (nibble v == 0) flagH ||| flagIf (v == 0x80#8) flagPV

/-! ## Add and subtract (R127, R128) -/

/-- A carry as an 8-bit number. -/
def carryByte (c : Bool) : Byte := if c then 1#8 else 0#8

/-- `ADD_RESULT[c][a][b]` (R127). -/
def addResult (c : Bool) (a b : Byte) : Byte := a + b + carryByte c

/-- `ADD_FLAGS[c][a][b]` (R127). -/
def addFlags (c : Bool) (a b : Byte) : Byte :=
  let r := addResult c a b
  sz53 r ||| flagIf (0xF < nibble a + nibble b + c.toNat) flagH
    ||| flagIf ((a ^^^ b ^^^ 0x80#8) &&& (a ^^^ r) &&& 0x80#8 != 0x00#8) flagPV
    ||| flagIf (0xFF < a.toNat + b.toNat + c.toNat) flagC

/-- `SUB_RESULT[c][a][b]` (R128). -/
def subResult (c : Bool) (a b : Byte) : Byte := a - b - carryByte c

/-- `SUB_FLAGS[c][a][b]` (R128): a negative difference is a left operand smaller than the right one plus the borrow. -/
def subFlags (c : Bool) (a b : Byte) : Byte :=
  let r := subResult c a b
  sz53 r ||| flagN ||| flagIf (nibble a < nibble b + c.toNat) flagH
    ||| flagIf ((a ^^^ b) &&& (a ^^^ r) &&& 0x80#8 != 0x00#8) flagPV
    ||| flagIf (a.toNat < b.toNat + c.toNat) flagC

/-! ## Logic (R131) and the decimal adjustment (R134) -/

/-- `LOGIC_FLAGS[r]` (R131). -/
def logicFlags (r : Byte) : Byte := szp53 r

/-- `corr` of R134. -/
def daaCorrection (a : Byte) (h c : Bool) : Byte :=
  flagIf (h || 9 < nibble a) 0x06#8 ||| flagIf (c || 0x99 < a.toNat) 0x60#8

/-- The `A` half of `DAA_TABLE[a][h][n][c]` (R134). -/
def daaResult (a : Byte) (h n c : Bool) : Byte :=
  if n then a - daaCorrection a h c else a + daaCorrection a h c

/-- The `F` half of `DAA_TABLE[a][h][n][c]` (R134). -/
def daaFlags (a : Byte) (h n c : Bool) : Byte :=
  szp53 (daaResult a h n c) ||| flagIf (if n then h && nibble a < 6 else 9 < nibble a) flagH ||| flagIf n flagN
    ||| flagIf (c || 0x99 < a.toNat) flagC

/-! ## Sixteen-bit addition (R135, R136) -/

/-- The low twelve bits as a number. -/
def low12 (v : Word) : Nat := v.toNat % 4096

/-- A carry as a 16-bit number. -/
def carryWord (c : Bool) : Word := if c then 1#16 else 0#16

/-- The flags of `ADD16(a, b)`, from the flags before (R135). -/
def add16Flags (f : Byte) (a b : Word) : Byte :=
  (f &&& (flagS ||| flagZ ||| flagPV)) ||| flagIf (0xFFF < low12 a + low12 b) flagH
    ||| flagIf (0xFFFF < a.toNat + b.toNat) flagC ||| bits53 (highByte (a + b))

/-- The result of `ADC16(a, b, c)` (R136). -/
def adc16Result (a b : Word) (c : Bool) : Word := a + b + carryWord c

/-- The flags of `ADC16(a, b, c)` (R136). -/
def adc16Flags (a b : Word) (c : Bool) : Byte :=
  let r := adc16Result a b c
  (highByte r &&& (flagS ||| flag5 ||| flag3)) ||| flagIf (r == 0x0000#16) flagZ
    ||| flagIf (0xFFF < low12 a + low12 b + c.toNat) flagH
    ||| flagIf ((a ^^^ b ^^^ 0x8000#16) &&& (a ^^^ r) &&& 0x8000#16 != 0x0000#16) flagPV
    ||| flagIf (0xFFFF < a.toNat + b.toNat + c.toNat) flagC

/-- The result of `SBC16(a, b, c)` (R136). -/
def sbc16Result (a b : Word) (c : Bool) : Word := a - b - carryWord c

/-- The flags of `SBC16(a, b, c)` (R136). -/
def sbc16Flags (a b : Word) (c : Bool) : Byte :=
  let r := sbc16Result a b c
  (highByte r &&& (flagS ||| flag5 ||| flag3)) ||| flagIf (r == 0x0000#16) flagZ ||| flagN
    ||| flagIf (low12 a < low12 b + c.toNat) flagH
    ||| flagIf ((a ^^^ b) &&& (a ^^^ r) &&& 0x8000#16 != 0x0000#16) flagPV
    ||| flagIf (a.toNat < b.toNat + c.toNat) flagC

/-! ## The ALU engine (R140) -/

/-- The new `A` of `ALU(op, v)`, from the old `A` and `F.C` (R140). -/
def aluResult (op : AluOp) (c : Bool) (a v : Byte) : Byte :=
  match op with
  | .add => addResult false a v
  | .adc => addResult c a v
  | .sub => subResult false a v
  | .sbc => subResult c a v
  | .and => a &&& v
  | .xor => a ^^^ v
  | .or => a ||| v
  | .cp => a

/-- The new `F` of `ALU(op, v)` (R140). -/
def aluFlags (op : AluOp) (c : Bool) (a v : Byte) : Byte :=
  match op with
  | .add => addFlags false a v
  | .adc => addFlags c a v
  | .sub => subFlags false a v
  | .sbc => subFlags c a v
  | .and => logicFlags (a &&& v) ||| flagH
  | .xor => logicFlags (a ^^^ v)
  | .or => logicFlags (a ||| v)
  | .cp => subFlags false a v

/-- `ALU(op, v)` (R140). -/
def State.alu (s : State) (op : AluOp) (v : Byte) : State :=
  { s with regs.a := aluResult op (carryOf s.regs.f) s.regs.a v, regs.f := aluFlags op (carryOf s.regs.f) s.regs.a v }

/-- `F <- INC_FLAGS[v] | (F & FLAG_C)` (R269). -/
def State.incF (s : State) (v : Byte) : State := s.setF (incFlags v ||| (s.regs.f &&& flagC))

/-- `F <- DEC_FLAGS[v] | (F & FLAG_C)` (R271). -/
def State.decF (s : State) (v : Byte) : State := s.setF (decFlags v ||| (s.regs.f &&& flagC))

/-! ## Rotates and shifts (R277 to R280, R421 to R428) -/

/-- The bit shifted out. -/
def rotCarry (k : RotOp) (v : Byte) : Bool :=
  match k with
  | .rlc => v.getLsbD 7
  | .rrc => v.getLsbD 0
  | .rl => v.getLsbD 7
  | .rr => v.getLsbD 0
  | .sla => v.getLsbD 7
  | .sra => v.getLsbD 0
  | .sll => v.getLsbD 7
  | .srl => v.getLsbD 0

/-- The result `w`, from the operand and the old `F.C` (R421 to R428). -/
def rotResult (k : RotOp) (c : Bool) (v : Byte) : Byte :=
  match k with
  | .rlc => (v <<< 1) ||| flagIf (v.getLsbD 7) 0x01#8
  | .rrc => (v >>> 1) ||| flagIf (v.getLsbD 0) 0x80#8
  | .rl => (v <<< 1) ||| flagIf c 0x01#8
  | .rr => (v >>> 1) ||| flagIf c 0x80#8
  | .sla => v <<< 1
  | .sra => (v >>> 1) ||| (v &&& 0x80#8)
  | .sll => (v <<< 1) ||| 0x01#8
  | .srl => v >>> 1

/-- `F <- LOGIC_FLAGS[w] | c` (R421). -/
def rotFlags (k : RotOp) (c : Bool) (v : Byte) : Byte :=
  logicFlags (rotResult k c v) ||| flagIf (rotCarry k v) flagC

/-- The flags of the four rotates on `A`, from the flags before, the new `A` and the bit shifted out (R277). -/
def rotAFlags (f a : Byte) (c : Bool) : Byte :=
  (f &&& (flagS ||| flagZ ||| flagPV)) ||| bits53 a ||| flagIf c flagC

/-! ## Bit operations (R429 to R432) -/

/-- `1 << b`. -/
def bitMask (b : BitNo) : Byte := 1#8 <<< b.val

/-- The flags of `BIT b`, on operand `v`, bits 5 and 3 from `src` (R429, R430). -/
def bitFlags (f : Byte) (b : BitNo) (v src : Byte) : Byte :=
  let clear := v &&& bitMask b == 0x00#8
  (f &&& flagC) ||| flagH ||| flagIf clear (flagZ ||| flagPV) ||| flagIf (b == .b7 && !clear) flagS ||| bits53 src

/-- `v & ~(1 << b)` (R431). -/
def resBit (b : BitNo) (v : Byte) : Byte := v &&& ~~~(bitMask b)

/-- `v | (1 << b)` (R432). -/
def setBit (b : BitNo) (v : Byte) : Byte := v ||| bitMask b

/-! ## Accumulator and port input (R451, R465) -/

/-- `LOGIC_FLAGS[v] | (F & FLAG_C)` (R451, R467, R468). -/
def inFlagsOf (f v : Byte) : Byte := logicFlags v ||| (f &&& flagC)

/-- `sz53(A) | (F & FLAG_C) | (FLAG_PV if IFF2 else 0)` (R465). -/
def loadIRFlags (f a : Byte) (iff2 : Bool) : Byte := sz53 a ||| (f &&& flagC) ||| flagIf iff2 flagPV

/-! ## Block instructions -/

/-- Bit 3 from bit 3 and bit 5 from bit 1 of `n` (R469, R473). -/
def blockBits (n : Byte) : Byte := (n &&& flag3) ||| flagIf (n.getLsbD 1) flag5

/-- The flags of a block transfer: the byte moved, the new `BC` (R469). -/
def blockLoadFlags (f a v : Byte) (bc : Word) : Byte :=
  (f &&& (flagS ||| flagZ ||| flagC)) ||| blockBits (v + a) ||| flagIf (bc != 0x0000#16) flagPV

/-- The flags of a block compare: the byte compared, the new `BC` (R473). -/
def blockCompareFlags (f a v : Byte) (bc : Word) : Byte :=
  let r := a - v
  let hf := decide (nibble a < nibble v)
  (f &&& flagC) ||| flagN ||| (r &&& flagS) ||| flagIf (r == 0x00#8) flagZ ||| flagIf hf flagH
    ||| blockBits (r - carryByte hf) ||| flagIf (bc != 0x0000#16) flagPV

/-- The flags of a block input or output: the byte moved, the new `B`, the byte that makes the 9-bit sum `k`
(R477, R481). -/
def blockIoFlags (v b other : Byte) : Byte :=
  let k := v.toNat + other.toNat
  sz53 b ||| flagIf (v.getLsbD 7) flagN ||| flagIf (0xFF < k) (flagH ||| flagC)
    ||| flagIf (evenParity (BitVec.ofNat 8 (k % 8) ^^^ b)) flagPV

end Sys2Proof.Machine
end

