-- ==== Sys2Proof/Machine/Ops.lean ====
section
/-! DEFINITION. The shared operations: memory in canonical form, the Bus, the bus primitives of 00_scope.md section 5.3, the stack,
the signal actions of 60_exceptions.md (taking an interrupt, and the return beside it) and reset (R560). All total. -/

namespace Sys2Proof.Machine

/-! ## Memory (R62, R67): address and byte pairs, addresses rising, no entry equal to the unlisted byte -/

/-- The byte at an address: the first entry of that address, else the unlisted byte. -/
def Memory.read : List Host.Cell → Nat → Byte
  | [], _ => Config.unlistedByte
  | (k, v) :: rest, a => if k = a then v else Memory.read rest a

/-- The list without the entries of an address. -/
def Memory.erase : List Host.Cell → Nat → List Host.Cell
  | [], _ => []
  | (k, v) :: rest, a => if k = a then Memory.erase rest a else (k, v) :: Memory.erase rest a

/-- The list with an entry put before the first greater address. -/
def Memory.insert : List Host.Cell → Nat → Byte → List Host.Cell
  | [], a, v => [(a, v)]
  | (k, w) :: rest, a, v => if a < k then (a, v) :: (k, w) :: rest else (k, w) :: Memory.insert rest a v

/-- One write; writing the unlisted byte removes the entry. -/
def Memory.write (m : List Host.Cell) (a : Nat) (v : Byte) : List Host.Cell :=
  if v = Config.unlistedByte then Memory.erase m a else Memory.insert (Memory.erase m a) a v

/-- Every entry lies at or above `low`, within the address space, in rising order, and none holds the unlisted byte. -/
def Memory.wfFrom (low : Nat) : List Host.Cell → Bool
  | [] => true
  | (k, v) :: rest => decide (low ≤ k) && decide (k < 65536) && (v != Config.unlistedByte) && Memory.wfFrom (k + 1) rest

/-- The canonical form. -/
def Memory.wf (m : List Host.Cell) : Bool := Memory.wfFrom 0 m

end Sys2Proof.Machine

namespace Sys2Proof

open Machine

/-! ## The Bus (R60, R61, R66, R67; log 19) -/

/-- What stands at an address: the first window that holds it, else RAM. -/
def kindAt : List Window → Word → WindowKind
  | [], _ => .ram
  | w :: rest, a => if (a - w.base).toNat < w.size then w.kind else kindAt rest a

/-- Whether a write call at an address stores (R61: "the call is made regardless"). -/
def Bus.writable (b : Bus) (a : Word) : Bool := kindAt b.windows a == .ram

/-- What one write call does to the contents of memory. -/
def Bus.store (b : Bus) (m : List Host.Cell) (a : Word) (v : Byte) : List Host.Cell :=
  if b.writable a then Memory.write m a.toNat v else m

/-- The tacts the memory interface adds to a call. -/
def Bus.memTacts (b : Bus) (a : Word) (now : Nat) : Nat :=
  match b.memDelay with
  | .constant n => n
  | .platform => Config.platformMemDelay a now

/-- The tacts a platform's port interface adds to a call; a constant `portDelay` was charged inside the cycle. -/
def Bus.lateTacts (b : Bus) (a : Word) (now : Nat) : Nat :=
  match b.portDelay with
  | .constant _ => 0
  | .platform => Config.platformPortDelay a now

/-- The tacts charged for one call when the cycle ends. -/
def Bus.callTacts (b : Bus) (c : BusCall) : Nat :=
  match c.kind with
  | .memRead => b.memTacts c.address c.tacts
  | .memWrite => b.memTacts c.address c.tacts
  | .portRead => b.lateTacts c.address c.tacts
  | .portWrite => b.lateTacts c.address c.tacts

/-- The calls of one cycle, newest first, with their stamps moved by what the earlier calls added; and the sum. -/
def Bus.retime (b : Bus) : List BusCall → List BusCall × Nat
  | [] => ([], 0)
  | c :: earlier =>
    let r := b.retime earlier
    let c' := { c with tacts := c.tacts + r.2 }
    (c' :: r.1, r.2 + b.callTacts c')

end Sys2Proof

namespace Sys2Proof.Machine

/-- What the memory interface answers at an address when `n` more bus calls have been made (R60, R67): what RAM or ROM holds
there, or a device's own answer to that very call. -/
def State.byteAfter (s : State) (n : Nat) (a : Word) : Byte :=
  match kindAt s.cfg.bus.windows a with
  | .ram => Memory.read s.mem a.toNat
  | .rom => Memory.read s.mem a.toNat
  | .device => Config.deviceByte (s.log.length + n) a

/-- What it answers now. -/
def State.byteAt (s : State) (a : Word) : Byte := s.byteAfter 0 a

/-- The little-endian word that two reads give when `n` more calls have been made, the low byte first (R70). -/
def State.wordAfter (s : State) (n : Nat) (a : Word) : Word := pairOf (s.byteAfter (n + 1) (a + 1#16)) (s.byteAfter n a)

/-- The little-endian word that two reads now give (R70). -/
def State.wordAt (s : State) (a : Word) : Word := s.wordAfter 0 a

/-! ## Bus primitives (R5 to R11) -/

/-- `Tick(n)` (R5). -/
def State.tick (s : State) (n : Nat) : State := { s with tacts := s.tacts + n }

/-- One bus call in the log (R72, R73). -/
def State.note (s : State) (k : BusKind) (a : Word) (v : Byte) : State :=
  { s with log := ⟨k, a, v, s.tacts⟩ :: s.log }

/-- `PC <- v`. -/
def State.setPc (s : State) (v : Word) : State := { s with pc := v }

/-- `WZ <- v`. -/
def State.setWz (s : State) (v : Word) : State := { s with wz := v }

/-- `SP <- v`. -/
def State.setSp (s : State) (v : Word) : State := { s with sp := v }

/-- `Rd(a)` (R6); the value is `byteAt a`. -/
def State.rd (s : State) (a : Word) : State :=
  { s with tacts := s.tacts + s.cfg.tact.access, log := ⟨.memRead, a, s.byteAt a, s.tacts⟩ :: s.log }

/-- The byte of RAM or ROM at an address becomes `v`: the host's change of memory (R540), no call of the core. -/
def State.poke (s : State) (a : Word) (v : Byte) : State := { s with mem := Memory.write s.mem a.toNat v }

/-- `Wr(a, v)` (R7). -/
def State.wr (s : State) (a : Word) (v : Byte) : State :=
  { s with
    mem := s.cfg.bus.store s.mem a v, tacts := s.tacts + s.cfg.tact.access
    log := ⟨.memWrite, a, v, s.tacts⟩ :: s.log }

/-- `(R & 0x80) | ((R + 1) & 0x7F)` (R29). -/
def refresh (r : Byte) : Byte := (r &&& 0x80#8) ||| ((r + 1#8) &&& 0x7F#8)

/-- `Fetch()` (R8); the value is `byteAt PC`. -/
def State.fetch (s : State) : State :=
  { s with
    tacts := s.tacts + s.cfg.tact.fetch, log := ⟨.memRead, s.pc, s.byteAt s.pc, s.tacts⟩ :: s.log
    pc := s.pc + 1#16, rReg := refresh s.rReg }

/-- `Imm8()` (R9): `Rd(PC)`, then `PC + 1`; the value is `byteAt PC`. -/
def State.imm8 (s : State) : State :=
  { s with
    tacts := s.tacts + s.cfg.tact.access, log := ⟨.memRead, s.pc, s.byteAt s.pc, s.tacts⟩ :: s.log
    pc := s.pc + 1#16 }

/-- `Imm16()` (R9); the value is `wordAt PC`. -/
def State.imm16 (s : State) : State := s.imm8.imm8

/-- The part of `Bus.portDelay` that does not depend on the tact counter (R10, R66): a platform's part is charged by
`State.settle`. -/
def State.portDelay (s : State) : Nat :=
  match s.cfg.bus.portDelay with
  | .constant n => n
  | .platform => 0

/-- What `readPort` answers (R63, R67): the next held input, else the free value (log 4). -/
def State.portAnswer (s : State) (a : Word) : Byte :=
  match s.portInputs with
  | v :: _ => v
  | [] => Config.portByte s.portReads a

/-- `PortRead(a)` (R10); the value is `portAnswer a`. -/
def State.portRd (s : State) (a : Word) : State :=
  { s with
    tacts := s.tacts + s.portDelay, log := ⟨.portRead, a, s.portAnswer a, s.tacts⟩ :: s.log
    portInputs := s.portInputs.tail, portReads := s.portReads + 1 }

/-- `PortWrite(a, v)` (R10). -/
def State.portWr (s : State) (a : Word) (v : Byte) : State :=
  { s with tacts := s.tacts + s.portDelay, log := ⟨.portWrite, a, v, s.tacts⟩ :: s.log }

/-! ## Stack (R11) -/

/-- `Push16(v)` (R11): each byte is written after its own decrement of `SP`, the high byte first. -/
def State.push16 (s : State) (v : Word) : State :=
  (((s.setSp (s.sp - 1#16)).wr (s.sp - 1#16) (highByte v)).setSp (s.sp - 2#16)).wr (s.sp - 2#16) (lowByte v)

/-- `Pop16()` (R11); the value is `wordAt SP`. -/
def State.pop16 (s : State) : State :=
  (((s.rd s.sp).setSp (s.sp + 1#16)).rd (s.sp + 1#16)).setSp (s.sp + 2#16)

/-! ## The taken-branch delay (R322) -/

/-- `n` reads of one address, a `Tick` after each, values discarded (R322). -/
def State.extraReads (s : State) (da : Word) : Nat → State
  | 0 => s
  | n + 1 => ((s.note .memRead da (s.byteAt da)).tick s.cfg.tact.extraRead).extraReads da n

/-- `TakenDelay(da)` (R322). -/
def State.takenDelay (s : State) (da : Word) : State :=
  if s.cfg.useGateArrayContention then s.tick s.cfg.tact.takenDelay else s.extraReads da 5

/-! ## What the Bus adds to a cycle (R66, R67; log 19)

No rule reads `tacts` within a cycle, so the Bus' own tacts are charged when the cycle ends, call by call, oldest first:
each call is stamped with the tacts the calls before it have added, and a platform's delay sees that stamp. -/

/-- The end of a cycle that began with `before` calls in the log: the Bus' own tacts. -/
def State.settle (s : State) (before : Nat) : State :=
  let fresh := s.log.length - before
  let r := s.cfg.bus.retime (s.log.take fresh)
  { s with tacts := s.tacts + r.2, log := r.1 ++ s.log.drop fresh }

/-! ## Signals, interrupts, reset (60_exceptions.md, 70_reset_and_hazards.md) -/

/-- The first line of both entries: step `PC` past a halt and clear `sig.Halted` (R527, R530). -/
def State.leaveHalt (s : State) : State :=
  if s.sig.halted then { s with pc := s.pc + 1#16, sig.halted := false } else s

/-- `pair(I, INT_VECTOR_BYTE)`, the mode 2 table address (R527). -/
def State.vectorAddress (s : State) : Word := pairOf s.iReg s.cfg.intVectorByte

/-- Taking the maskable interrupt: `InterruptAcknowledge()` (R527). The table of mode 2 is read after the pushes. -/
def State.interruptAck (s : State) : State :=
  let s1 := { s.leaveHalt with iff1 := false, iff2 := false }
  let s2 := ((s1.tick s.cfg.tact.intPush).push16 s1.pc).tick s.cfg.tact.intJump
  match s.im with
  | .im2 =>
    let a := s2.vectorAddress
    let s3 := (s2.rd a).rd (a + 1#16)
    (s3.setWz (s2.wordAt a)).setPc (s2.wordAt a)
  | .im0 => (s2.setWz s2.cfg.vecInt).setPc s2.cfg.vecInt
  | .im1 => (s2.setWz s2.cfg.vecInt).setPc s2.cfg.vecInt

/-- Taking the non-maskable interrupt: `NmiEntry()` (R530). -/
def State.nmiEntry (s : State) : State :=
  let s1 := s.leaveHalt
  let s2 := { s1 with iff2 := s1.iff1, iff1 := false }
  let s3 := ((s2.tick s.cfg.tact.nmiPush).push16 s2.pc).tick s.cfg.tact.nmiJump
  { s3 with wz := s3.cfg.vecNmi, pc := s3.cfg.vecNmi, sig.nmi := false }

/-- The return beside them: `PC <- Pop16(); WZ <- PC; IFF1 <- IFF2` (R460, R461). -/
def State.returnFromInterrupt (s : State) : State :=
  let t := (s.pop16.setPc (s.wordAt s.sp)).setWz (s.wordAt s.sp)
  { t with iff1 := s.iff2 }

/-- `HaltedCycle()` (R523). -/
def State.haltedCycle (s : State) : State := { s with tacts := s.tacts + s.cfg.tact.halted, rReg := refresh s.rReg }

/-- `Reset()` (R560). What it does not name keeps its value; the memory behind the Bus and the model's own fields are
no part of the core. -/
def State.resetOp (s : State) : State :=
  { s with
    iff1 := false, iff2 := false, im := .im0
    sig := { int := false, halted := false, reset := false, nmi := false }
    prefixMode := .none, indexMode := .none, blocked := false, inOp := false
    iReg := 0x00#8, rReg := 0x00#8, pc := 0x0000#16, tacts := 0 }

/-- The state at power-on: any register file, then `Reset()` (R561). -/
def powerOn (registers : State) : State := registers.resetOp

/-- Whether the maskable interrupt is taken in this cycle (R522). -/
def State.takesInt (s : State) : Bool := s.sig.int && !s.blocked && s.iff1

/-- `SignalStep()` (R521): the state after the one action it performs, none when no signal consumes the cycle. -/
def State.signalStep (s : State) : Option State :=
  if s.takesInt then some s.interruptAck
  else if s.sig.halted then some s.haltedCycle
  else if s.sig.reset then some s.resetOp
  else if s.sig.nmi then some s.nmiEntry
  else none

end Sys2Proof.Machine
end

