-- ==== Sys2Proof/Machine/Arith.lean ====
section
/-! DEFINITION. Arithmetic and logic of the standard table (43_arith_logic.md): one shared operation per rule, then the
meaning of each instruction over it. -/

namespace Sys2Proof.Machine

/-- R260, register form: the operand is read before `A` is written. -/
def aluReg (op : AluOp) (r : Reg8) (s : State) : State := s.alu op (s.reg r)

/-- R260, memory form. -/
def aluAtHl (op : AluOp) (s : State) : State := (s.rd s.hl).alu op (s.byteAt s.hl)

/-- R260, immediate form. -/
def aluImm (op : AluOp) (s : State) : State := s.imm8.alu op (s.byteAt s.pc)

/-- R269. -/
def incReg (r : Reg8) (s : State) : State := (s.incF (s.reg r)).setReg r (s.reg r + 1#8)

/-- `v <- Rd(a); Tick(n); F <- INC_FLAGS[v] | (F & FLAG_C); Wr(a, v + 1)`, of R270 and R376. -/
def State.incMem (s : State) (a : Word) (n : Nat) : State :=
  (((s.rd a).tick n).incF (s.byteAt a)).wr a (s.byteAt a + 1#8)

/-- R270. -/
def incAtHl (s : State) : State := s.incMem s.hl s.cfg.tact.incAtHl

/-- R271. -/
def decReg (r : Reg8) (s : State) : State := (s.decF (s.reg r)).setReg r (s.reg r - 1#8)

/-- `v <- Rd(a); Tick(n); F <- DEC_FLAGS[v] | (F & FLAG_C); Wr(a, v - 1)`, of R272 and R377. -/
def State.decMem (s : State) (a : Word) (n : Nat) : State :=
  (((s.rd a).tick n).decF (s.byteAt a)).wr a (s.byteAt a - 1#8)

/-- R272. -/
def decAtHl (s : State) : State := s.decMem s.hl s.cfg.tact.decAtHl

/-- R273. -/
def daa (s : State) : State :=
  let f := s.regs.f
  { s with
    regs.a := daaResult s.regs.a (halfOf f) (subtractOf f) (carryOf f)
    regs.f := daaFlags s.regs.a (halfOf f) (subtractOf f) (carryOf f) }

/-- R274. -/
def cpl (s : State) : State :=
  let a := s.regs.a ^^^ 0xFF#8
  { s with
    regs.a := a
    regs.f := (s.regs.f &&& (flagS ||| flagZ ||| flagPV ||| flagC)) ||| flagH ||| flagN ||| bits53 a }

/-- R275. -/
def scf (s : State) : State :=
  s.setF ((s.regs.f &&& (flagS ||| flagZ ||| flagPV)) ||| flagC ||| bits53 s.regs.a)

/-- R276. -/
def ccf (s : State) : State :=
  let c := carryOf s.regs.f
  s.setF ((s.regs.f &&& (flagS ||| flagZ ||| flagPV)) ||| flagIf c flagH ||| flagIf (!c) flagC ||| bits53 s.regs.a)

/-- The four rotates on `A` (R277 to R280): the result of the rotate of the same name, `S Z PV` kept. -/
def State.rotA (s : State) (k : RotOp) : State :=
  let a := rotResult k (carryOf s.regs.f) s.regs.a
  { s with regs.a := a, regs.f := rotAFlags s.regs.f a (rotCarry k s.regs.a) }

/-- R277. -/
def rlca (s : State) : State := s.rotA .rlc

/-- R278. -/
def rrca (s : State) : State := s.rotA .rrc

/-- R279. -/
def rla (s : State) : State := s.rotA .rl

/-- R280. -/
def rra (s : State) : State := s.rotA .rr

/-- R281. -/
def addHl (p : Pair) (s : State) : State :=
  let a := s.hl
  let b := s.pair p
  ((((s.setWz (a + 1#16)).tick s.cfg.tact.addHl).setF (add16Flags s.regs.f a b))).setHl (a + b)

/-- R282. -/
def incPair (p : Pair) (s : State) : State := (s.tick s.cfg.tact.incPair).setPair p (s.pair p + 1#16)

/-- R283. -/
def decPair (p : Pair) (s : State) : State := (s.tick s.cfg.tact.decPair).setPair p (s.pair p - 1#16)

/-! ## The meaning of each instruction -/

/-- `ADD A,B`, `80` (R261). -/
def exec_add_a_b (s : State) : Host.Outcome State Fault Refusal := .next (aluReg .add .b s)

/-- `ADD A,C`, `81` (R261). -/
def exec_add_a_c (s : State) : Host.Outcome State Fault Refusal := .next (aluReg .add .c s)

/-- `ADD A,D`, `82` (R261). -/
def exec_add_a_d (s : State) : Host.Outcome State Fault Refusal := .next (aluReg .add .d s)

/-- `ADD A,E`, `83` (R261). -/
def exec_add_a_e (s : State) : Host.Outcome State Fault Refusal := .next (aluReg .add .e s)

/-- `ADD A,H`, `84` (R261). -/
def exec_add_a_h (s : State) : Host.Outcome State Fault Refusal := .next (aluReg .add .h s)

/-- `ADD A,L`, `85` (R261). -/
def exec_add_a_l (s : State) : Host.Outcome State Fault Refusal := .next (aluReg .add .l s)

/-- `ADD A,A`, `87` (R261). -/
def exec_add_a_a (s : State) : Host.Outcome State Fault Refusal := .next (aluReg .add .a s)

/-- `ADC A,B`, `88` (R262). -/
def exec_adc_a_b (s : State) : Host.Outcome State Fault Refusal := .next (aluReg .adc .b s)

/-- `ADC A,C`, `89` (R262). -/
def exec_adc_a_c (s : State) : Host.Outcome State Fault Refusal := .next (aluReg .adc .c s)

/-- `ADC A,D`, `8A` (R262). -/
def exec_adc_a_d (s : State) : Host.Outcome State Fault Refusal := .next (aluReg .adc .d s)

/-- `ADC A,E`, `8B` (R262). -/
def exec_adc_a_e (s : State) : Host.Outcome State Fault Refusal := .next (aluReg .adc .e s)

/-- `ADC A,H`, `8C` (R262). -/
def exec_adc_a_h (s : State) : Host.Outcome State Fault Refusal := .next (aluReg .adc .h s)

/-- `ADC A,L`, `8D` (R262). -/
def exec_adc_a_l (s : State) : Host.Outcome State Fault Refusal := .next (aluReg .adc .l s)

/-- `ADC A,A`, `8F` (R262). -/
def exec_adc_a_a (s : State) : Host.Outcome State Fault Refusal := .next (aluReg .adc .a s)

/-- `SUB B`, `90` (R263). -/
def exec_sub_b (s : State) : Host.Outcome State Fault Refusal := .next (aluReg .sub .b s)

/-- `SUB C`, `91` (R263). -/
def exec_sub_c (s : State) : Host.Outcome State Fault Refusal := .next (aluReg .sub .c s)

/-- `SUB D`, `92` (R263). -/
def exec_sub_d (s : State) : Host.Outcome State Fault Refusal := .next (aluReg .sub .d s)

/-- `SUB E`, `93` (R263). -/
def exec_sub_e (s : State) : Host.Outcome State Fault Refusal := .next (aluReg .sub .e s)

/-- `SUB H`, `94` (R263). -/
def exec_sub_h (s : State) : Host.Outcome State Fault Refusal := .next (aluReg .sub .h s)

/-- `SUB L`, `95` (R263). -/
def exec_sub_l (s : State) : Host.Outcome State Fault Refusal := .next (aluReg .sub .l s)

/-- `SUB A`, `97` (R263). -/
def exec_sub_a (s : State) : Host.Outcome State Fault Refusal := .next (aluReg .sub .a s)

/-- `SBC A,B`, `98` (R264). -/
def exec_sbc_a_b (s : State) : Host.Outcome State Fault Refusal := .next (aluReg .sbc .b s)

/-- `SBC A,C`, `99` (R264). -/
def exec_sbc_a_c (s : State) : Host.Outcome State Fault Refusal := .next (aluReg .sbc .c s)

/-- `SBC A,D`, `9A` (R264). -/
def exec_sbc_a_d (s : State) : Host.Outcome State Fault Refusal := .next (aluReg .sbc .d s)

/-- `SBC A,E`, `9B` (R264). -/
def exec_sbc_a_e (s : State) : Host.Outcome State Fault Refusal := .next (aluReg .sbc .e s)

/-- `SBC A,H`, `9C` (R264). -/
def exec_sbc_a_h (s : State) : Host.Outcome State Fault Refusal := .next (aluReg .sbc .h s)

/-- `SBC A,L`, `9D` (R264). -/
def exec_sbc_a_l (s : State) : Host.Outcome State Fault Refusal := .next (aluReg .sbc .l s)

/-- `SBC A,A`, `9F` (R264). -/
def exec_sbc_a_a (s : State) : Host.Outcome State Fault Refusal := .next (aluReg .sbc .a s)

/-- `AND B`, `A0` (R265). -/
def exec_and_b (s : State) : Host.Outcome State Fault Refusal := .next (aluReg .and .b s)

/-- `AND C`, `A1` (R265). -/
def exec_and_c (s : State) : Host.Outcome State Fault Refusal := .next (aluReg .and .c s)

/-- `AND D`, `A2` (R265). -/
def exec_and_d (s : State) : Host.Outcome State Fault Refusal := .next (aluReg .and .d s)

/-- `AND E`, `A3` (R265). -/
def exec_and_e (s : State) : Host.Outcome State Fault Refusal := .next (aluReg .and .e s)

/-- `AND H`, `A4` (R265). -/
def exec_and_h (s : State) : Host.Outcome State Fault Refusal := .next (aluReg .and .h s)

/-- `AND L`, `A5` (R265). -/
def exec_and_l (s : State) : Host.Outcome State Fault Refusal := .next (aluReg .and .l s)

/-- `AND A`, `A7` (R265). -/
def exec_and_a (s : State) : Host.Outcome State Fault Refusal := .next (aluReg .and .a s)

/-- `XOR B`, `A8` (R266). -/
def exec_xor_b (s : State) : Host.Outcome State Fault Refusal := .next (aluReg .xor .b s)

/-- `XOR C`, `A9` (R266). -/
def exec_xor_c (s : State) : Host.Outcome State Fault Refusal := .next (aluReg .xor .c s)

/-- `XOR D`, `AA` (R266). -/
def exec_xor_d (s : State) : Host.Outcome State Fault Refusal := .next (aluReg .xor .d s)

/-- `XOR E`, `AB` (R266). -/
def exec_xor_e (s : State) : Host.Outcome State Fault Refusal := .next (aluReg .xor .e s)

/-- `XOR H`, `AC` (R266). -/
def exec_xor_h (s : State) : Host.Outcome State Fault Refusal := .next (aluReg .xor .h s)

/-- `XOR L`, `AD` (R266). -/
def exec_xor_l (s : State) : Host.Outcome State Fault Refusal := .next (aluReg .xor .l s)

/-- `XOR A`, `AF` (R266). -/
def exec_xor_a (s : State) : Host.Outcome State Fault Refusal := .next (aluReg .xor .a s)

/-- `OR B`, `B0` (R267). -/
def exec_or_b (s : State) : Host.Outcome State Fault Refusal := .next (aluReg .or .b s)

/-- `OR C`, `B1` (R267). -/
def exec_or_c (s : State) : Host.Outcome State Fault Refusal := .next (aluReg .or .c s)

/-- `OR D`, `B2` (R267). -/
def exec_or_d (s : State) : Host.Outcome State Fault Refusal := .next (aluReg .or .d s)

/-- `OR E`, `B3` (R267). -/
def exec_or_e (s : State) : Host.Outcome State Fault Refusal := .next (aluReg .or .e s)

/-- `OR H`, `B4` (R267). -/
def exec_or_h (s : State) : Host.Outcome State Fault Refusal := .next (aluReg .or .h s)

/-- `OR L`, `B5` (R267). -/
def exec_or_l (s : State) : Host.Outcome State Fault Refusal := .next (aluReg .or .l s)

/-- `OR A`, `B7` (R267). -/
def exec_or_a (s : State) : Host.Outcome State Fault Refusal := .next (aluReg .or .a s)

/-- `CP B`, `B8` (R268). -/
def exec_cp_b (s : State) : Host.Outcome State Fault Refusal := .next (aluReg .cp .b s)

/-- `CP C`, `B9` (R268). -/
def exec_cp_c (s : State) : Host.Outcome State Fault Refusal := .next (aluReg .cp .c s)

/-- `CP D`, `BA` (R268). -/
def exec_cp_d (s : State) : Host.Outcome State Fault Refusal := .next (aluReg .cp .d s)

/-- `CP E`, `BB` (R268). -/
def exec_cp_e (s : State) : Host.Outcome State Fault Refusal := .next (aluReg .cp .e s)

/-- `CP H`, `BC` (R268). -/
def exec_cp_h (s : State) : Host.Outcome State Fault Refusal := .next (aluReg .cp .h s)

/-- `CP L`, `BD` (R268). -/
def exec_cp_l (s : State) : Host.Outcome State Fault Refusal := .next (aluReg .cp .l s)

/-- `CP A`, `BF` (R268). -/
def exec_cp_a (s : State) : Host.Outcome State Fault Refusal := .next (aluReg .cp .a s)

/-- `ADD A,(HL)`, `86` (R261). -/
def exec_add_a_at_hl (s : State) : Host.Outcome State Fault Refusal := .next (aluAtHl .add s)

/-- `ADC A,(HL)`, `8E` (R262). -/
def exec_adc_a_at_hl (s : State) : Host.Outcome State Fault Refusal := .next (aluAtHl .adc s)

/-- `SUB (HL)`, `96` (R263). -/
def exec_sub_at_hl (s : State) : Host.Outcome State Fault Refusal := .next (aluAtHl .sub s)

/-- `SBC A,(HL)`, `9E` (R264). -/
def exec_sbc_a_at_hl (s : State) : Host.Outcome State Fault Refusal := .next (aluAtHl .sbc s)

/-- `AND (HL)`, `A6` (R265). -/
def exec_and_at_hl (s : State) : Host.Outcome State Fault Refusal := .next (aluAtHl .and s)

/-- `XOR (HL)`, `AE` (R266). -/
def exec_xor_at_hl (s : State) : Host.Outcome State Fault Refusal := .next (aluAtHl .xor s)

/-- `OR (HL)`, `B6` (R267). -/
def exec_or_at_hl (s : State) : Host.Outcome State Fault Refusal := .next (aluAtHl .or s)

/-- `CP (HL)`, `BE` (R268). -/
def exec_cp_at_hl (s : State) : Host.Outcome State Fault Refusal := .next (aluAtHl .cp s)

/-- `ADD A,n`, `C6 n` (R261). -/
def exec_add_a_n (s : State) : Host.Outcome State Fault Refusal := .next (aluImm .add s)

/-- `ADC A,n`, `CE n` (R262). -/
def exec_adc_a_n (s : State) : Host.Outcome State Fault Refusal := .next (aluImm .adc s)

/-- `SUB n`, `D6 n` (R263). -/
def exec_sub_n (s : State) : Host.Outcome State Fault Refusal := .next (aluImm .sub s)

/-- `SBC A,n`, `DE n` (R264). -/
def exec_sbc_a_n (s : State) : Host.Outcome State Fault Refusal := .next (aluImm .sbc s)

/-- `AND n`, `E6 n` (R265). -/
def exec_and_n (s : State) : Host.Outcome State Fault Refusal := .next (aluImm .and s)

/-- `XOR n`, `EE n` (R266). -/
def exec_xor_n (s : State) : Host.Outcome State Fault Refusal := .next (aluImm .xor s)

/-- `OR n`, `F6 n` (R267). -/
def exec_or_n (s : State) : Host.Outcome State Fault Refusal := .next (aluImm .or s)

/-- `CP n`, `FE n` (R268). -/
def exec_cp_n (s : State) : Host.Outcome State Fault Refusal := .next (aluImm .cp s)

/-- `INC B`, `04` (R269). -/
def exec_inc_b (s : State) : Host.Outcome State Fault Refusal := .next (incReg .b s)

/-- `INC C`, `0C` (R269). -/
def exec_inc_c (s : State) : Host.Outcome State Fault Refusal := .next (incReg .c s)

/-- `INC D`, `14` (R269). -/
def exec_inc_d (s : State) : Host.Outcome State Fault Refusal := .next (incReg .d s)

/-- `INC E`, `1C` (R269). -/
def exec_inc_e (s : State) : Host.Outcome State Fault Refusal := .next (incReg .e s)

/-- `INC H`, `24` (R269). -/
def exec_inc_h (s : State) : Host.Outcome State Fault Refusal := .next (incReg .h s)

/-- `INC L`, `2C` (R269). -/
def exec_inc_l (s : State) : Host.Outcome State Fault Refusal := .next (incReg .l s)

/-- `INC A`, `3C` (R269). -/
def exec_inc_a (s : State) : Host.Outcome State Fault Refusal := .next (incReg .a s)

/-- `INC (HL)`, `34` (R270). -/
def exec_inc_at_hl (s : State) : Host.Outcome State Fault Refusal := .next (incAtHl s)

/-- `DEC B`, `05` (R271). -/
def exec_dec_b (s : State) : Host.Outcome State Fault Refusal := .next (decReg .b s)

/-- `DEC C`, `0D` (R271). -/
def exec_dec_c (s : State) : Host.Outcome State Fault Refusal := .next (decReg .c s)

/-- `DEC D`, `15` (R271). -/
def exec_dec_d (s : State) : Host.Outcome State Fault Refusal := .next (decReg .d s)

/-- `DEC E`, `1D` (R271). -/
def exec_dec_e (s : State) : Host.Outcome State Fault Refusal := .next (decReg .e s)

/-- `DEC H`, `25` (R271). -/
def exec_dec_h (s : State) : Host.Outcome State Fault Refusal := .next (decReg .h s)

/-- `DEC L`, `2D` (R271). -/
def exec_dec_l (s : State) : Host.Outcome State Fault Refusal := .next (decReg .l s)

/-- `DEC A`, `3D` (R271). -/
def exec_dec_a (s : State) : Host.Outcome State Fault Refusal := .next (decReg .a s)

/-- `DEC (HL)`, `35` (R272). -/
def exec_dec_at_hl (s : State) : Host.Outcome State Fault Refusal := .next (decAtHl s)

/-- `DAA`, `27` (R273). -/
def exec_daa (s : State) : Host.Outcome State Fault Refusal := .next (daa s)

/-- `CPL`, `2F` (R274). -/
def exec_cpl (s : State) : Host.Outcome State Fault Refusal := .next (cpl s)

/-- `SCF`, `37` (R275). -/
def exec_scf (s : State) : Host.Outcome State Fault Refusal := .next (scf s)

/-- `CCF`, `3F` (R276). -/
def exec_ccf (s : State) : Host.Outcome State Fault Refusal := .next (ccf s)

/-- `RLCA`, `07` (R277). -/
def exec_rlca (s : State) : Host.Outcome State Fault Refusal := .next (rlca s)

/-- `RRCA`, `0F` (R278). -/
def exec_rrca (s : State) : Host.Outcome State Fault Refusal := .next (rrca s)

/-- `RLA`, `17` (R279). -/
def exec_rla (s : State) : Host.Outcome State Fault Refusal := .next (rla s)

/-- `RRA`, `1F` (R280). -/
def exec_rra (s : State) : Host.Outcome State Fault Refusal := .next (rra s)

/-- `ADD HL,BC`, `09` (R281). -/
def exec_add_hl_bc (s : State) : Host.Outcome State Fault Refusal := .next (addHl .bc s)

/-- `ADD HL,DE`, `19` (R281). -/
def exec_add_hl_de (s : State) : Host.Outcome State Fault Refusal := .next (addHl .de s)

/-- `ADD HL,HL`, `29` (R281). -/
def exec_add_hl_hl (s : State) : Host.Outcome State Fault Refusal := .next (addHl .hl s)

/-- `ADD HL,SP`, `39` (R281). -/
def exec_add_hl_sp (s : State) : Host.Outcome State Fault Refusal := .next (addHl .sp s)

/-- `INC BC`, `03` (R282). -/
def exec_inc_bc (s : State) : Host.Outcome State Fault Refusal := .next (incPair .bc s)

/-- `INC DE`, `13` (R282). -/
def exec_inc_de (s : State) : Host.Outcome State Fault Refusal := .next (incPair .de s)

/-- `INC HL`, `23` (R282). -/
def exec_inc_hl (s : State) : Host.Outcome State Fault Refusal := .next (incPair .hl s)

/-- `INC SP`, `33` (R282). -/
def exec_inc_sp (s : State) : Host.Outcome State Fault Refusal := .next (incPair .sp s)

/-- `DEC BC`, `0B` (R283). -/
def exec_dec_bc (s : State) : Host.Outcome State Fault Refusal := .next (decPair .bc s)

/-- `DEC DE`, `1B` (R283). -/
def exec_dec_de (s : State) : Host.Outcome State Fault Refusal := .next (decPair .de s)

/-- `DEC HL`, `2B` (R283). -/
def exec_dec_hl (s : State) : Host.Outcome State Fault Refusal := .next (decPair .hl s)

/-- `DEC SP`, `3B` (R283). -/
def exec_dec_sp (s : State) : Host.Outcome State Fault Refusal := .next (decPair .sp s)

end Sys2Proof.Machine
end

