-- ==== Sys2Proof/Machine/BitTable.lean ====
section
/-! DEFINITION. The bit table (47_cb_bit.md R420 to R432): one shared operation per operand form, then the meaning of each
instruction over it. -/

namespace Sys2Proof.Machine

/-- `v <- Rd(a); Tick(n)` (R420, R433); the value is `byteAt a`. -/
def State.rdModify (s : State) (a : Word) (n : Nat) : State := (s.rd a).tick n

/-- R421 to R428, register form. -/
def rotReg (k : RotOp) (r : Reg8) (s : State) : State :=
  let c := carryOf s.regs.f
  (s.setF (rotFlags k c (s.reg r))).setReg r (rotResult k c (s.reg r))

/-- The rotate or shift of the byte at an address, flags included (R421 to R428, R433). -/
def State.rotMem (s : State) (k : RotOp) (a : Word) (n : Nat) : State :=
  let c := carryOf s.regs.f
  let v := s.byteAt a
  ((s.rdModify a n).setF (rotFlags k c v)).wr a (rotResult k c v)

/-- R421 to R428, memory form. -/
def rotAtHl (k : RotOp) (s : State) : State := s.rotMem k s.hl s.cfg.tact.modifyAtHl

/-- R429: bits 5 and 3 from the register tested. -/
def bitReg (b : BitNo) (r : Reg8) (s : State) : State := s.setF (bitFlags s.regs.f b (s.reg r) (s.reg r))

/-- R430: bits 5 and 3 from `W`. -/
def bitAtHl (b : BitNo) (s : State) : State :=
  (s.rdModify s.hl s.cfg.tact.bitAtHl).setF (bitFlags s.regs.f b (s.byteAt s.hl) (highByte s.wz))

/-- R431, register form. -/
def resReg (b : BitNo) (r : Reg8) (s : State) : State := s.setReg r (resBit b (s.reg r))

/-- R431, memory form. -/
def resAtHl (b : BitNo) (s : State) : State :=
  (s.rdModify s.hl s.cfg.tact.modifyAtHl).wr s.hl (resBit b (s.byteAt s.hl))

/-- R432, register form. -/
def setBitReg (b : BitNo) (r : Reg8) (s : State) : State := s.setReg r (setBit b (s.reg r))

/-- R432, memory form. -/
def setAtHl (b : BitNo) (s : State) : State :=
  (s.rdModify s.hl s.cfg.tact.modifyAtHl).wr s.hl (setBit b (s.byteAt s.hl))

/-! ## The meaning of each instruction -/

/-- `RLC B`, `CB 00` (R421). -/
def exec_rlc_b (s : State) : Host.Outcome State Fault Refusal := .next (rotReg .rlc .b s)

/-- `RLC C`, `CB 01` (R421). -/
def exec_rlc_c (s : State) : Host.Outcome State Fault Refusal := .next (rotReg .rlc .c s)

/-- `RLC D`, `CB 02` (R421). -/
def exec_rlc_d (s : State) : Host.Outcome State Fault Refusal := .next (rotReg .rlc .d s)

/-- `RLC E`, `CB 03` (R421). -/
def exec_rlc_e (s : State) : Host.Outcome State Fault Refusal := .next (rotReg .rlc .e s)

/-- `RLC H`, `CB 04` (R421). -/
def exec_rlc_h (s : State) : Host.Outcome State Fault Refusal := .next (rotReg .rlc .h s)

/-- `RLC L`, `CB 05` (R421). -/
def exec_rlc_l (s : State) : Host.Outcome State Fault Refusal := .next (rotReg .rlc .l s)

/-- `RLC A`, `CB 07` (R421). -/
def exec_rlc_a (s : State) : Host.Outcome State Fault Refusal := .next (rotReg .rlc .a s)

/-- `RRC B`, `CB 08` (R422). -/
def exec_rrc_b (s : State) : Host.Outcome State Fault Refusal := .next (rotReg .rrc .b s)

/-- `RRC C`, `CB 09` (R422). -/
def exec_rrc_c (s : State) : Host.Outcome State Fault Refusal := .next (rotReg .rrc .c s)

/-- `RRC D`, `CB 0A` (R422). -/
def exec_rrc_d (s : State) : Host.Outcome State Fault Refusal := .next (rotReg .rrc .d s)

/-- `RRC E`, `CB 0B` (R422). -/
def exec_rrc_e (s : State) : Host.Outcome State Fault Refusal := .next (rotReg .rrc .e s)

/-- `RRC H`, `CB 0C` (R422). -/
def exec_rrc_h (s : State) : Host.Outcome State Fault Refusal := .next (rotReg .rrc .h s)

/-- `RRC L`, `CB 0D` (R422). -/
def exec_rrc_l (s : State) : Host.Outcome State Fault Refusal := .next (rotReg .rrc .l s)

/-- `RRC A`, `CB 0F` (R422). -/
def exec_rrc_a (s : State) : Host.Outcome State Fault Refusal := .next (rotReg .rrc .a s)

/-- `RL B`, `CB 10` (R423). -/
def exec_rl_b (s : State) : Host.Outcome State Fault Refusal := .next (rotReg .rl .b s)

/-- `RL C`, `CB 11` (R423). -/
def exec_rl_c (s : State) : Host.Outcome State Fault Refusal := .next (rotReg .rl .c s)

/-- `RL D`, `CB 12` (R423). -/
def exec_rl_d (s : State) : Host.Outcome State Fault Refusal := .next (rotReg .rl .d s)

/-- `RL E`, `CB 13` (R423). -/
def exec_rl_e (s : State) : Host.Outcome State Fault Refusal := .next (rotReg .rl .e s)

/-- `RL H`, `CB 14` (R423). -/
def exec_rl_h (s : State) : Host.Outcome State Fault Refusal := .next (rotReg .rl .h s)

/-- `RL L`, `CB 15` (R423). -/
def exec_rl_l (s : State) : Host.Outcome State Fault Refusal := .next (rotReg .rl .l s)

/-- `RL A`, `CB 17` (R423). -/
def exec_rl_a (s : State) : Host.Outcome State Fault Refusal := .next (rotReg .rl .a s)

/-- `RR B`, `CB 18` (R424). -/
def exec_rr_b (s : State) : Host.Outcome State Fault Refusal := .next (rotReg .rr .b s)

/-- `RR C`, `CB 19` (R424). -/
def exec_rr_c (s : State) : Host.Outcome State Fault Refusal := .next (rotReg .rr .c s)

/-- `RR D`, `CB 1A` (R424). -/
def exec_rr_d (s : State) : Host.Outcome State Fault Refusal := .next (rotReg .rr .d s)

/-- `RR E`, `CB 1B` (R424). -/
def exec_rr_e (s : State) : Host.Outcome State Fault Refusal := .next (rotReg .rr .e s)

/-- `RR H`, `CB 1C` (R424). -/
def exec_rr_h (s : State) : Host.Outcome State Fault Refusal := .next (rotReg .rr .h s)

/-- `RR L`, `CB 1D` (R424). -/
def exec_rr_l (s : State) : Host.Outcome State Fault Refusal := .next (rotReg .rr .l s)

/-- `RR A`, `CB 1F` (R424). -/
def exec_rr_a (s : State) : Host.Outcome State Fault Refusal := .next (rotReg .rr .a s)

/-- `SLA B`, `CB 20` (R425). -/
def exec_sla_b (s : State) : Host.Outcome State Fault Refusal := .next (rotReg .sla .b s)

/-- `SLA C`, `CB 21` (R425). -/
def exec_sla_c (s : State) : Host.Outcome State Fault Refusal := .next (rotReg .sla .c s)

/-- `SLA D`, `CB 22` (R425). -/
def exec_sla_d (s : State) : Host.Outcome State Fault Refusal := .next (rotReg .sla .d s)

/-- `SLA E`, `CB 23` (R425). -/
def exec_sla_e (s : State) : Host.Outcome State Fault Refusal := .next (rotReg .sla .e s)

/-- `SLA H`, `CB 24` (R425). -/
def exec_sla_h (s : State) : Host.Outcome State Fault Refusal := .next (rotReg .sla .h s)

/-- `SLA L`, `CB 25` (R425). -/
def exec_sla_l (s : State) : Host.Outcome State Fault Refusal := .next (rotReg .sla .l s)

/-- `SLA A`, `CB 27` (R425). -/
def exec_sla_a (s : State) : Host.Outcome State Fault Refusal := .next (rotReg .sla .a s)

/-- `SRA B`, `CB 28` (R426). -/
def exec_sra_b (s : State) : Host.Outcome State Fault Refusal := .next (rotReg .sra .b s)

/-- `SRA C`, `CB 29` (R426). -/
def exec_sra_c (s : State) : Host.Outcome State Fault Refusal := .next (rotReg .sra .c s)

/-- `SRA D`, `CB 2A` (R426). -/
def exec_sra_d (s : State) : Host.Outcome State Fault Refusal := .next (rotReg .sra .d s)

/-- `SRA E`, `CB 2B` (R426). -/
def exec_sra_e (s : State) : Host.Outcome State Fault Refusal := .next (rotReg .sra .e s)

/-- `SRA H`, `CB 2C` (R426). -/
def exec_sra_h (s : State) : Host.Outcome State Fault Refusal := .next (rotReg .sra .h s)

/-- `SRA L`, `CB 2D` (R426). -/
def exec_sra_l (s : State) : Host.Outcome State Fault Refusal := .next (rotReg .sra .l s)

/-- `SRA A`, `CB 2F` (R426). -/
def exec_sra_a (s : State) : Host.Outcome State Fault Refusal := .next (rotReg .sra .a s)

/-- `SLL B`, `CB 30` (R427). -/
def exec_sll_b (s : State) : Host.Outcome State Fault Refusal := .next (rotReg .sll .b s)

/-- `SLL C`, `CB 31` (R427). -/
def exec_sll_c (s : State) : Host.Outcome State Fault Refusal := .next (rotReg .sll .c s)

/-- `SLL D`, `CB 32` (R427). -/
def exec_sll_d (s : State) : Host.Outcome State Fault Refusal := .next (rotReg .sll .d s)

/-- `SLL E`, `CB 33` (R427). -/
def exec_sll_e (s : State) : Host.Outcome State Fault Refusal := .next (rotReg .sll .e s)

/-- `SLL H`, `CB 34` (R427). -/
def exec_sll_h (s : State) : Host.Outcome State Fault Refusal := .next (rotReg .sll .h s)

/-- `SLL L`, `CB 35` (R427). -/
def exec_sll_l (s : State) : Host.Outcome State Fault Refusal := .next (rotReg .sll .l s)

/-- `SLL A`, `CB 37` (R427). -/
def exec_sll_a (s : State) : Host.Outcome State Fault Refusal := .next (rotReg .sll .a s)

/-- `SRL B`, `CB 38` (R428). -/
def exec_srl_b (s : State) : Host.Outcome State Fault Refusal := .next (rotReg .srl .b s)

/-- `SRL C`, `CB 39` (R428). -/
def exec_srl_c (s : State) : Host.Outcome State Fault Refusal := .next (rotReg .srl .c s)

/-- `SRL D`, `CB 3A` (R428). -/
def exec_srl_d (s : State) : Host.Outcome State Fault Refusal := .next (rotReg .srl .d s)

/-- `SRL E`, `CB 3B` (R428). -/
def exec_srl_e (s : State) : Host.Outcome State Fault Refusal := .next (rotReg .srl .e s)

/-- `SRL H`, `CB 3C` (R428). -/
def exec_srl_h (s : State) : Host.Outcome State Fault Refusal := .next (rotReg .srl .h s)

/-- `SRL L`, `CB 3D` (R428). -/
def exec_srl_l (s : State) : Host.Outcome State Fault Refusal := .next (rotReg .srl .l s)

/-- `SRL A`, `CB 3F` (R428). -/
def exec_srl_a (s : State) : Host.Outcome State Fault Refusal := .next (rotReg .srl .a s)

/-- `RLC (HL)`, `CB 06` (R421). -/
def exec_rlc_at_hl (s : State) : Host.Outcome State Fault Refusal := .next (rotAtHl .rlc s)

/-- `RRC (HL)`, `CB 0E` (R422). -/
def exec_rrc_at_hl (s : State) : Host.Outcome State Fault Refusal := .next (rotAtHl .rrc s)

/-- `RL (HL)`, `CB 16` (R423). -/
def exec_rl_at_hl (s : State) : Host.Outcome State Fault Refusal := .next (rotAtHl .rl s)

/-- `RR (HL)`, `CB 1E` (R424). -/
def exec_rr_at_hl (s : State) : Host.Outcome State Fault Refusal := .next (rotAtHl .rr s)

/-- `SLA (HL)`, `CB 26` (R425). -/
def exec_sla_at_hl (s : State) : Host.Outcome State Fault Refusal := .next (rotAtHl .sla s)

/-- `SRA (HL)`, `CB 2E` (R426). -/
def exec_sra_at_hl (s : State) : Host.Outcome State Fault Refusal := .next (rotAtHl .sra s)

/-- `SLL (HL)`, `CB 36` (R427). -/
def exec_sll_at_hl (s : State) : Host.Outcome State Fault Refusal := .next (rotAtHl .sll s)

/-- `SRL (HL)`, `CB 3E` (R428). -/
def exec_srl_at_hl (s : State) : Host.Outcome State Fault Refusal := .next (rotAtHl .srl s)

/-- `BIT 0,B`, `CB 40` (R429). -/
def exec_bit_0_b (s : State) : Host.Outcome State Fault Refusal := .next (bitReg .b0 .b s)

/-- `BIT 0,C`, `CB 41` (R429). -/
def exec_bit_0_c (s : State) : Host.Outcome State Fault Refusal := .next (bitReg .b0 .c s)

/-- `BIT 0,D`, `CB 42` (R429). -/
def exec_bit_0_d (s : State) : Host.Outcome State Fault Refusal := .next (bitReg .b0 .d s)

/-- `BIT 0,E`, `CB 43` (R429). -/
def exec_bit_0_e (s : State) : Host.Outcome State Fault Refusal := .next (bitReg .b0 .e s)

/-- `BIT 0,H`, `CB 44` (R429). -/
def exec_bit_0_h (s : State) : Host.Outcome State Fault Refusal := .next (bitReg .b0 .h s)

/-- `BIT 0,L`, `CB 45` (R429). -/
def exec_bit_0_l (s : State) : Host.Outcome State Fault Refusal := .next (bitReg .b0 .l s)

/-- `BIT 0,A`, `CB 47` (R429). -/
def exec_bit_0_a (s : State) : Host.Outcome State Fault Refusal := .next (bitReg .b0 .a s)

/-- `BIT 1,B`, `CB 48` (R429). -/
def exec_bit_1_b (s : State) : Host.Outcome State Fault Refusal := .next (bitReg .b1 .b s)

/-- `BIT 1,C`, `CB 49` (R429). -/
def exec_bit_1_c (s : State) : Host.Outcome State Fault Refusal := .next (bitReg .b1 .c s)

/-- `BIT 1,D`, `CB 4A` (R429). -/
def exec_bit_1_d (s : State) : Host.Outcome State Fault Refusal := .next (bitReg .b1 .d s)

/-- `BIT 1,E`, `CB 4B` (R429). -/
def exec_bit_1_e (s : State) : Host.Outcome State Fault Refusal := .next (bitReg .b1 .e s)

/-- `BIT 1,H`, `CB 4C` (R429). -/
def exec_bit_1_h (s : State) : Host.Outcome State Fault Refusal := .next (bitReg .b1 .h s)

/-- `BIT 1,L`, `CB 4D` (R429). -/
def exec_bit_1_l (s : State) : Host.Outcome State Fault Refusal := .next (bitReg .b1 .l s)

/-- `BIT 1,A`, `CB 4F` (R429). -/
def exec_bit_1_a (s : State) : Host.Outcome State Fault Refusal := .next (bitReg .b1 .a s)

/-- `BIT 2,B`, `CB 50` (R429). -/
def exec_bit_2_b (s : State) : Host.Outcome State Fault Refusal := .next (bitReg .b2 .b s)

/-- `BIT 2,C`, `CB 51` (R429). -/
def exec_bit_2_c (s : State) : Host.Outcome State Fault Refusal := .next (bitReg .b2 .c s)

/-- `BIT 2,D`, `CB 52` (R429). -/
def exec_bit_2_d (s : State) : Host.Outcome State Fault Refusal := .next (bitReg .b2 .d s)

/-- `BIT 2,E`, `CB 53` (R429). -/
def exec_bit_2_e (s : State) : Host.Outcome State Fault Refusal := .next (bitReg .b2 .e s)

/-- `BIT 2,H`, `CB 54` (R429). -/
def exec_bit_2_h (s : State) : Host.Outcome State Fault Refusal := .next (bitReg .b2 .h s)

/-- `BIT 2,L`, `CB 55` (R429). -/
def exec_bit_2_l (s : State) : Host.Outcome State Fault Refusal := .next (bitReg .b2 .l s)

/-- `BIT 2,A`, `CB 57` (R429). -/
def exec_bit_2_a (s : State) : Host.Outcome State Fault Refusal := .next (bitReg .b2 .a s)

/-- `BIT 3,B`, `CB 58` (R429). -/
def exec_bit_3_b (s : State) : Host.Outcome State Fault Refusal := .next (bitReg .b3 .b s)

/-- `BIT 3,C`, `CB 59` (R429). -/
def exec_bit_3_c (s : State) : Host.Outcome State Fault Refusal := .next (bitReg .b3 .c s)

/-- `BIT 3,D`, `CB 5A` (R429). -/
def exec_bit_3_d (s : State) : Host.Outcome State Fault Refusal := .next (bitReg .b3 .d s)

/-- `BIT 3,E`, `CB 5B` (R429). -/
def exec_bit_3_e (s : State) : Host.Outcome State Fault Refusal := .next (bitReg .b3 .e s)

/-- `BIT 3,H`, `CB 5C` (R429). -/
def exec_bit_3_h (s : State) : Host.Outcome State Fault Refusal := .next (bitReg .b3 .h s)

/-- `BIT 3,L`, `CB 5D` (R429). -/
def exec_bit_3_l (s : State) : Host.Outcome State Fault Refusal := .next (bitReg .b3 .l s)

/-- `BIT 3,A`, `CB 5F` (R429). -/
def exec_bit_3_a (s : State) : Host.Outcome State Fault Refusal := .next (bitReg .b3 .a s)

/-- `BIT 4,B`, `CB 60` (R429). -/
def exec_bit_4_b (s : State) : Host.Outcome State Fault Refusal := .next (bitReg .b4 .b s)

/-- `BIT 4,C`, `CB 61` (R429). -/
def exec_bit_4_c (s : State) : Host.Outcome State Fault Refusal := .next (bitReg .b4 .c s)

/-- `BIT 4,D`, `CB 62` (R429). -/
def exec_bit_4_d (s : State) : Host.Outcome State Fault Refusal := .next (bitReg .b4 .d s)

/-- `BIT 4,E`, `CB 63` (R429). -/
def exec_bit_4_e (s : State) : Host.Outcome State Fault Refusal := .next (bitReg .b4 .e s)

/-- `BIT 4,H`, `CB 64` (R429). -/
def exec_bit_4_h (s : State) : Host.Outcome State Fault Refusal := .next (bitReg .b4 .h s)

/-- `BIT 4,L`, `CB 65` (R429). -/
def exec_bit_4_l (s : State) : Host.Outcome State Fault Refusal := .next (bitReg .b4 .l s)

/-- `BIT 4,A`, `CB 67` (R429). -/
def exec_bit_4_a (s : State) : Host.Outcome State Fault Refusal := .next (bitReg .b4 .a s)

/-- `BIT 5,B`, `CB 68` (R429). -/
def exec_bit_5_b (s : State) : Host.Outcome State Fault Refusal := .next (bitReg .b5 .b s)

/-- `BIT 5,C`, `CB 69` (R429). -/
def exec_bit_5_c (s : State) : Host.Outcome State Fault Refusal := .next (bitReg .b5 .c s)

/-- `BIT 5,D`, `CB 6A` (R429). -/
def exec_bit_5_d (s : State) : Host.Outcome State Fault Refusal := .next (bitReg .b5 .d s)

/-- `BIT 5,E`, `CB 6B` (R429). -/
def exec_bit_5_e (s : State) : Host.Outcome State Fault Refusal := .next (bitReg .b5 .e s)

/-- `BIT 5,H`, `CB 6C` (R429). -/
def exec_bit_5_h (s : State) : Host.Outcome State Fault Refusal := .next (bitReg .b5 .h s)

/-- `BIT 5,L`, `CB 6D` (R429). -/
def exec_bit_5_l (s : State) : Host.Outcome State Fault Refusal := .next (bitReg .b5 .l s)

/-- `BIT 5,A`, `CB 6F` (R429). -/
def exec_bit_5_a (s : State) : Host.Outcome State Fault Refusal := .next (bitReg .b5 .a s)

/-- `BIT 6,B`, `CB 70` (R429). -/
def exec_bit_6_b (s : State) : Host.Outcome State Fault Refusal := .next (bitReg .b6 .b s)

/-- `BIT 6,C`, `CB 71` (R429). -/
def exec_bit_6_c (s : State) : Host.Outcome State Fault Refusal := .next (bitReg .b6 .c s)

/-- `BIT 6,D`, `CB 72` (R429). -/
def exec_bit_6_d (s : State) : Host.Outcome State Fault Refusal := .next (bitReg .b6 .d s)

/-- `BIT 6,E`, `CB 73` (R429). -/
def exec_bit_6_e (s : State) : Host.Outcome State Fault Refusal := .next (bitReg .b6 .e s)

/-- `BIT 6,H`, `CB 74` (R429). -/
def exec_bit_6_h (s : State) : Host.Outcome State Fault Refusal := .next (bitReg .b6 .h s)

/-- `BIT 6,L`, `CB 75` (R429). -/
def exec_bit_6_l (s : State) : Host.Outcome State Fault Refusal := .next (bitReg .b6 .l s)

/-- `BIT 6,A`, `CB 77` (R429). -/
def exec_bit_6_a (s : State) : Host.Outcome State Fault Refusal := .next (bitReg .b6 .a s)

/-- `BIT 7,B`, `CB 78` (R429). -/
def exec_bit_7_b (s : State) : Host.Outcome State Fault Refusal := .next (bitReg .b7 .b s)

/-- `BIT 7,C`, `CB 79` (R429). -/
def exec_bit_7_c (s : State) : Host.Outcome State Fault Refusal := .next (bitReg .b7 .c s)

/-- `BIT 7,D`, `CB 7A` (R429). -/
def exec_bit_7_d (s : State) : Host.Outcome State Fault Refusal := .next (bitReg .b7 .d s)

/-- `BIT 7,E`, `CB 7B` (R429). -/
def exec_bit_7_e (s : State) : Host.Outcome State Fault Refusal := .next (bitReg .b7 .e s)

/-- `BIT 7,H`, `CB 7C` (R429). -/
def exec_bit_7_h (s : State) : Host.Outcome State Fault Refusal := .next (bitReg .b7 .h s)

/-- `BIT 7,L`, `CB 7D` (R429). -/
def exec_bit_7_l (s : State) : Host.Outcome State Fault Refusal := .next (bitReg .b7 .l s)

/-- `BIT 7,A`, `CB 7F` (R429). -/
def exec_bit_7_a (s : State) : Host.Outcome State Fault Refusal := .next (bitReg .b7 .a s)

/-- `BIT 0,(HL)`, `CB 46` (R430). -/
def exec_bit_0_at_hl (s : State) : Host.Outcome State Fault Refusal := .next (bitAtHl .b0 s)

/-- `BIT 1,(HL)`, `CB 4E` (R430). -/
def exec_bit_1_at_hl (s : State) : Host.Outcome State Fault Refusal := .next (bitAtHl .b1 s)

/-- `BIT 2,(HL)`, `CB 56` (R430). -/
def exec_bit_2_at_hl (s : State) : Host.Outcome State Fault Refusal := .next (bitAtHl .b2 s)

/-- `BIT 3,(HL)`, `CB 5E` (R430). -/
def exec_bit_3_at_hl (s : State) : Host.Outcome State Fault Refusal := .next (bitAtHl .b3 s)

/-- `BIT 4,(HL)`, `CB 66` (R430). -/
def exec_bit_4_at_hl (s : State) : Host.Outcome State Fault Refusal := .next (bitAtHl .b4 s)

/-- `BIT 5,(HL)`, `CB 6E` (R430). -/
def exec_bit_5_at_hl (s : State) : Host.Outcome State Fault Refusal := .next (bitAtHl .b5 s)

/-- `BIT 6,(HL)`, `CB 76` (R430). -/
def exec_bit_6_at_hl (s : State) : Host.Outcome State Fault Refusal := .next (bitAtHl .b6 s)

/-- `BIT 7,(HL)`, `CB 7E` (R430). -/
def exec_bit_7_at_hl (s : State) : Host.Outcome State Fault Refusal := .next (bitAtHl .b7 s)

/-- `RES 0,B`, `CB 80` (R431). -/
def exec_res_0_b (s : State) : Host.Outcome State Fault Refusal := .next (resReg .b0 .b s)

/-- `RES 0,C`, `CB 81` (R431). -/
def exec_res_0_c (s : State) : Host.Outcome State Fault Refusal := .next (resReg .b0 .c s)

/-- `RES 0,D`, `CB 82` (R431). -/
def exec_res_0_d (s : State) : Host.Outcome State Fault Refusal := .next (resReg .b0 .d s)

/-- `RES 0,E`, `CB 83` (R431). -/
def exec_res_0_e (s : State) : Host.Outcome State Fault Refusal := .next (resReg .b0 .e s)

/-- `RES 0,H`, `CB 84` (R431). -/
def exec_res_0_h (s : State) : Host.Outcome State Fault Refusal := .next (resReg .b0 .h s)

/-- `RES 0,L`, `CB 85` (R431). -/
def exec_res_0_l (s : State) : Host.Outcome State Fault Refusal := .next (resReg .b0 .l s)

/-- `RES 0,A`, `CB 87` (R431). -/
def exec_res_0_a (s : State) : Host.Outcome State Fault Refusal := .next (resReg .b0 .a s)

/-- `RES 1,B`, `CB 88` (R431). -/
def exec_res_1_b (s : State) : Host.Outcome State Fault Refusal := .next (resReg .b1 .b s)

/-- `RES 1,C`, `CB 89` (R431). -/
def exec_res_1_c (s : State) : Host.Outcome State Fault Refusal := .next (resReg .b1 .c s)

/-- `RES 1,D`, `CB 8A` (R431). -/
def exec_res_1_d (s : State) : Host.Outcome State Fault Refusal := .next (resReg .b1 .d s)

/-- `RES 1,E`, `CB 8B` (R431). -/
def exec_res_1_e (s : State) : Host.Outcome State Fault Refusal := .next (resReg .b1 .e s)

/-- `RES 1,H`, `CB 8C` (R431). -/
def exec_res_1_h (s : State) : Host.Outcome State Fault Refusal := .next (resReg .b1 .h s)

/-- `RES 1,L`, `CB 8D` (R431). -/
def exec_res_1_l (s : State) : Host.Outcome State Fault Refusal := .next (resReg .b1 .l s)

/-- `RES 1,A`, `CB 8F` (R431). -/
def exec_res_1_a (s : State) : Host.Outcome State Fault Refusal := .next (resReg .b1 .a s)

/-- `RES 2,B`, `CB 90` (R431). -/
def exec_res_2_b (s : State) : Host.Outcome State Fault Refusal := .next (resReg .b2 .b s)

/-- `RES 2,C`, `CB 91` (R431). -/
def exec_res_2_c (s : State) : Host.Outcome State Fault Refusal := .next (resReg .b2 .c s)

/-- `RES 2,D`, `CB 92` (R431). -/
def exec_res_2_d (s : State) : Host.Outcome State Fault Refusal := .next (resReg .b2 .d s)

/-- `RES 2,E`, `CB 93` (R431). -/
def exec_res_2_e (s : State) : Host.Outcome State Fault Refusal := .next (resReg .b2 .e s)

/-- `RES 2,H`, `CB 94` (R431). -/
def exec_res_2_h (s : State) : Host.Outcome State Fault Refusal := .next (resReg .b2 .h s)

/-- `RES 2,L`, `CB 95` (R431). -/
def exec_res_2_l (s : State) : Host.Outcome State Fault Refusal := .next (resReg .b2 .l s)

/-- `RES 2,A`, `CB 97` (R431). -/
def exec_res_2_a (s : State) : Host.Outcome State Fault Refusal := .next (resReg .b2 .a s)

/-- `RES 3,B`, `CB 98` (R431). -/
def exec_res_3_b (s : State) : Host.Outcome State Fault Refusal := .next (resReg .b3 .b s)

/-- `RES 3,C`, `CB 99` (R431). -/
def exec_res_3_c (s : State) : Host.Outcome State Fault Refusal := .next (resReg .b3 .c s)

/-- `RES 3,D`, `CB 9A` (R431). -/
def exec_res_3_d (s : State) : Host.Outcome State Fault Refusal := .next (resReg .b3 .d s)

/-- `RES 3,E`, `CB 9B` (R431). -/
def exec_res_3_e (s : State) : Host.Outcome State Fault Refusal := .next (resReg .b3 .e s)

/-- `RES 3,H`, `CB 9C` (R431). -/
def exec_res_3_h (s : State) : Host.Outcome State Fault Refusal := .next (resReg .b3 .h s)

/-- `RES 3,L`, `CB 9D` (R431). -/
def exec_res_3_l (s : State) : Host.Outcome State Fault Refusal := .next (resReg .b3 .l s)

/-- `RES 3,A`, `CB 9F` (R431). -/
def exec_res_3_a (s : State) : Host.Outcome State Fault Refusal := .next (resReg .b3 .a s)

/-- `RES 4,B`, `CB A0` (R431). -/
def exec_res_4_b (s : State) : Host.Outcome State Fault Refusal := .next (resReg .b4 .b s)

/-- `RES 4,C`, `CB A1` (R431). -/
def exec_res_4_c (s : State) : Host.Outcome State Fault Refusal := .next (resReg .b4 .c s)

/-- `RES 4,D`, `CB A2` (R431). -/
def exec_res_4_d (s : State) : Host.Outcome State Fault Refusal := .next (resReg .b4 .d s)

/-- `RES 4,E`, `CB A3` (R431). -/
def exec_res_4_e (s : State) : Host.Outcome State Fault Refusal := .next (resReg .b4 .e s)

/-- `RES 4,H`, `CB A4` (R431). -/
def exec_res_4_h (s : State) : Host.Outcome State Fault Refusal := .next (resReg .b4 .h s)

/-- `RES 4,L`, `CB A5` (R431). -/
def exec_res_4_l (s : State) : Host.Outcome State Fault Refusal := .next (resReg .b4 .l s)

/-- `RES 4,A`, `CB A7` (R431). -/
def exec_res_4_a (s : State) : Host.Outcome State Fault Refusal := .next (resReg .b4 .a s)

/-- `RES 5,B`, `CB A8` (R431). -/
def exec_res_5_b (s : State) : Host.Outcome State Fault Refusal := .next (resReg .b5 .b s)

/-- `RES 5,C`, `CB A9` (R431). -/
def exec_res_5_c (s : State) : Host.Outcome State Fault Refusal := .next (resReg .b5 .c s)

/-- `RES 5,D`, `CB AA` (R431). -/
def exec_res_5_d (s : State) : Host.Outcome State Fault Refusal := .next (resReg .b5 .d s)

/-- `RES 5,E`, `CB AB` (R431). -/
def exec_res_5_e (s : State) : Host.Outcome State Fault Refusal := .next (resReg .b5 .e s)

/-- `RES 5,H`, `CB AC` (R431). -/
def exec_res_5_h (s : State) : Host.Outcome State Fault Refusal := .next (resReg .b5 .h s)

/-- `RES 5,L`, `CB AD` (R431). -/
def exec_res_5_l (s : State) : Host.Outcome State Fault Refusal := .next (resReg .b5 .l s)

/-- `RES 5,A`, `CB AF` (R431). -/
def exec_res_5_a (s : State) : Host.Outcome State Fault Refusal := .next (resReg .b5 .a s)

/-- `RES 6,B`, `CB B0` (R431). -/
def exec_res_6_b (s : State) : Host.Outcome State Fault Refusal := .next (resReg .b6 .b s)

/-- `RES 6,C`, `CB B1` (R431). -/
def exec_res_6_c (s : State) : Host.Outcome State Fault Refusal := .next (resReg .b6 .c s)

/-- `RES 6,D`, `CB B2` (R431). -/
def exec_res_6_d (s : State) : Host.Outcome State Fault Refusal := .next (resReg .b6 .d s)

/-- `RES 6,E`, `CB B3` (R431). -/
def exec_res_6_e (s : State) : Host.Outcome State Fault Refusal := .next (resReg .b6 .e s)

/-- `RES 6,H`, `CB B4` (R431). -/
def exec_res_6_h (s : State) : Host.Outcome State Fault Refusal := .next (resReg .b6 .h s)

/-- `RES 6,L`, `CB B5` (R431). -/
def exec_res_6_l (s : State) : Host.Outcome State Fault Refusal := .next (resReg .b6 .l s)

/-- `RES 6,A`, `CB B7` (R431). -/
def exec_res_6_a (s : State) : Host.Outcome State Fault Refusal := .next (resReg .b6 .a s)

/-- `RES 7,B`, `CB B8` (R431). -/
def exec_res_7_b (s : State) : Host.Outcome State Fault Refusal := .next (resReg .b7 .b s)

/-- `RES 7,C`, `CB B9` (R431). -/
def exec_res_7_c (s : State) : Host.Outcome State Fault Refusal := .next (resReg .b7 .c s)

/-- `RES 7,D`, `CB BA` (R431). -/
def exec_res_7_d (s : State) : Host.Outcome State Fault Refusal := .next (resReg .b7 .d s)

/-- `RES 7,E`, `CB BB` (R431). -/
def exec_res_7_e (s : State) : Host.Outcome State Fault Refusal := .next (resReg .b7 .e s)

/-- `RES 7,H`, `CB BC` (R431). -/
def exec_res_7_h (s : State) : Host.Outcome State Fault Refusal := .next (resReg .b7 .h s)

/-- `RES 7,L`, `CB BD` (R431). -/
def exec_res_7_l (s : State) : Host.Outcome State Fault Refusal := .next (resReg .b7 .l s)

/-- `RES 7,A`, `CB BF` (R431). -/
def exec_res_7_a (s : State) : Host.Outcome State Fault Refusal := .next (resReg .b7 .a s)

/-- `RES 0,(HL)`, `CB 86` (R431). -/
def exec_res_0_at_hl (s : State) : Host.Outcome State Fault Refusal := .next (resAtHl .b0 s)

/-- `RES 1,(HL)`, `CB 8E` (R431). -/
def exec_res_1_at_hl (s : State) : Host.Outcome State Fault Refusal := .next (resAtHl .b1 s)

/-- `RES 2,(HL)`, `CB 96` (R431). -/
def exec_res_2_at_hl (s : State) : Host.Outcome State Fault Refusal := .next (resAtHl .b2 s)

/-- `RES 3,(HL)`, `CB 9E` (R431). -/
def exec_res_3_at_hl (s : State) : Host.Outcome State Fault Refusal := .next (resAtHl .b3 s)

/-- `RES 4,(HL)`, `CB A6` (R431). -/
def exec_res_4_at_hl (s : State) : Host.Outcome State Fault Refusal := .next (resAtHl .b4 s)

/-- `RES 5,(HL)`, `CB AE` (R431). -/
def exec_res_5_at_hl (s : State) : Host.Outcome State Fault Refusal := .next (resAtHl .b5 s)

/-- `RES 6,(HL)`, `CB B6` (R431). -/
def exec_res_6_at_hl (s : State) : Host.Outcome State Fault Refusal := .next (resAtHl .b6 s)

/-- `RES 7,(HL)`, `CB BE` (R431). -/
def exec_res_7_at_hl (s : State) : Host.Outcome State Fault Refusal := .next (resAtHl .b7 s)

/-- `SET 0,B`, `CB C0` (R432). -/
def exec_set_0_b (s : State) : Host.Outcome State Fault Refusal := .next (setBitReg .b0 .b s)

/-- `SET 0,C`, `CB C1` (R432). -/
def exec_set_0_c (s : State) : Host.Outcome State Fault Refusal := .next (setBitReg .b0 .c s)

/-- `SET 0,D`, `CB C2` (R432). -/
def exec_set_0_d (s : State) : Host.Outcome State Fault Refusal := .next (setBitReg .b0 .d s)

/-- `SET 0,E`, `CB C3` (R432). -/
def exec_set_0_e (s : State) : Host.Outcome State Fault Refusal := .next (setBitReg .b0 .e s)

/-- `SET 0,H`, `CB C4` (R432). -/
def exec_set_0_h (s : State) : Host.Outcome State Fault Refusal := .next (setBitReg .b0 .h s)

/-- `SET 0,L`, `CB C5` (R432). -/
def exec_set_0_l (s : State) : Host.Outcome State Fault Refusal := .next (setBitReg .b0 .l s)

/-- `SET 0,A`, `CB C7` (R432). -/
def exec_set_0_a (s : State) : Host.Outcome State Fault Refusal := .next (setBitReg .b0 .a s)

/-- `SET 1,B`, `CB C8` (R432). -/
def exec_set_1_b (s : State) : Host.Outcome State Fault Refusal := .next (setBitReg .b1 .b s)

/-- `SET 1,C`, `CB C9` (R432). -/
def exec_set_1_c (s : State) : Host.Outcome State Fault Refusal := .next (setBitReg .b1 .c s)

/-- `SET 1,D`, `CB CA` (R432). -/
def exec_set_1_d (s : State) : Host.Outcome State Fault Refusal := .next (setBitReg .b1 .d s)

/-- `SET 1,E`, `CB CB` (R432). -/
def exec_set_1_e (s : State) : Host.Outcome State Fault Refusal := .next (setBitReg .b1 .e s)

/-- `SET 1,H`, `CB CC` (R432). -/
def exec_set_1_h (s : State) : Host.Outcome State Fault Refusal := .next (setBitReg .b1 .h s)

/-- `SET 1,L`, `CB CD` (R432). -/
def exec_set_1_l (s : State) : Host.Outcome State Fault Refusal := .next (setBitReg .b1 .l s)

/-- `SET 1,A`, `CB CF` (R432). -/
def exec_set_1_a (s : State) : Host.Outcome State Fault Refusal := .next (setBitReg .b1 .a s)

/-- `SET 2,B`, `CB D0` (R432). -/
def exec_set_2_b (s : State) : Host.Outcome State Fault Refusal := .next (setBitReg .b2 .b s)

/-- `SET 2,C`, `CB D1` (R432). -/
def exec_set_2_c (s : State) : Host.Outcome State Fault Refusal := .next (setBitReg .b2 .c s)

/-- `SET 2,D`, `CB D2` (R432). -/
def exec_set_2_d (s : State) : Host.Outcome State Fault Refusal := .next (setBitReg .b2 .d s)

/-- `SET 2,E`, `CB D3` (R432). -/
def exec_set_2_e (s : State) : Host.Outcome State Fault Refusal := .next (setBitReg .b2 .e s)

/-- `SET 2,H`, `CB D4` (R432). -/
def exec_set_2_h (s : State) : Host.Outcome State Fault Refusal := .next (setBitReg .b2 .h s)

/-- `SET 2,L`, `CB D5` (R432). -/
def exec_set_2_l (s : State) : Host.Outcome State Fault Refusal := .next (setBitReg .b2 .l s)

/-- `SET 2,A`, `CB D7` (R432). -/
def exec_set_2_a (s : State) : Host.Outcome State Fault Refusal := .next (setBitReg .b2 .a s)

/-- `SET 3,B`, `CB D8` (R432). -/
def exec_set_3_b (s : State) : Host.Outcome State Fault Refusal := .next (setBitReg .b3 .b s)

/-- `SET 3,C`, `CB D9` (R432). -/
def exec_set_3_c (s : State) : Host.Outcome State Fault Refusal := .next (setBitReg .b3 .c s)

/-- `SET 3,D`, `CB DA` (R432). -/
def exec_set_3_d (s : State) : Host.Outcome State Fault Refusal := .next (setBitReg .b3 .d s)

/-- `SET 3,E`, `CB DB` (R432). -/
def exec_set_3_e (s : State) : Host.Outcome State Fault Refusal := .next (setBitReg .b3 .e s)

/-- `SET 3,H`, `CB DC` (R432). -/
def exec_set_3_h (s : State) : Host.Outcome State Fault Refusal := .next (setBitReg .b3 .h s)

/-- `SET 3,L`, `CB DD` (R432). -/
def exec_set_3_l (s : State) : Host.Outcome State Fault Refusal := .next (setBitReg .b3 .l s)

/-- `SET 3,A`, `CB DF` (R432). -/
def exec_set_3_a (s : State) : Host.Outcome State Fault Refusal := .next (setBitReg .b3 .a s)

/-- `SET 4,B`, `CB E0` (R432). -/
def exec_set_4_b (s : State) : Host.Outcome State Fault Refusal := .next (setBitReg .b4 .b s)

/-- `SET 4,C`, `CB E1` (R432). -/
def exec_set_4_c (s : State) : Host.Outcome State Fault Refusal := .next (setBitReg .b4 .c s)

/-- `SET 4,D`, `CB E2` (R432). -/
def exec_set_4_d (s : State) : Host.Outcome State Fault Refusal := .next (setBitReg .b4 .d s)

/-- `SET 4,E`, `CB E3` (R432). -/
def exec_set_4_e (s : State) : Host.Outcome State Fault Refusal := .next (setBitReg .b4 .e s)

/-- `SET 4,H`, `CB E4` (R432). -/
def exec_set_4_h (s : State) : Host.Outcome State Fault Refusal := .next (setBitReg .b4 .h s)

/-- `SET 4,L`, `CB E5` (R432). -/
def exec_set_4_l (s : State) : Host.Outcome State Fault Refusal := .next (setBitReg .b4 .l s)

/-- `SET 4,A`, `CB E7` (R432). -/
def exec_set_4_a (s : State) : Host.Outcome State Fault Refusal := .next (setBitReg .b4 .a s)

/-- `SET 5,B`, `CB E8` (R432). -/
def exec_set_5_b (s : State) : Host.Outcome State Fault Refusal := .next (setBitReg .b5 .b s)

/-- `SET 5,C`, `CB E9` (R432). -/
def exec_set_5_c (s : State) : Host.Outcome State Fault Refusal := .next (setBitReg .b5 .c s)

/-- `SET 5,D`, `CB EA` (R432). -/
def exec_set_5_d (s : State) : Host.Outcome State Fault Refusal := .next (setBitReg .b5 .d s)

/-- `SET 5,E`, `CB EB` (R432). -/
def exec_set_5_e (s : State) : Host.Outcome State Fault Refusal := .next (setBitReg .b5 .e s)

/-- `SET 5,H`, `CB EC` (R432). -/
def exec_set_5_h (s : State) : Host.Outcome State Fault Refusal := .next (setBitReg .b5 .h s)

/-- `SET 5,L`, `CB ED` (R432). -/
def exec_set_5_l (s : State) : Host.Outcome State Fault Refusal := .next (setBitReg .b5 .l s)

/-- `SET 5,A`, `CB EF` (R432). -/
def exec_set_5_a (s : State) : Host.Outcome State Fault Refusal := .next (setBitReg .b5 .a s)

/-- `SET 6,B`, `CB F0` (R432). -/
def exec_set_6_b (s : State) : Host.Outcome State Fault Refusal := .next (setBitReg .b6 .b s)

/-- `SET 6,C`, `CB F1` (R432). -/
def exec_set_6_c (s : State) : Host.Outcome State Fault Refusal := .next (setBitReg .b6 .c s)

/-- `SET 6,D`, `CB F2` (R432). -/
def exec_set_6_d (s : State) : Host.Outcome State Fault Refusal := .next (setBitReg .b6 .d s)

/-- `SET 6,E`, `CB F3` (R432). -/
def exec_set_6_e (s : State) : Host.Outcome State Fault Refusal := .next (setBitReg .b6 .e s)

/-- `SET 6,H`, `CB F4` (R432). -/
def exec_set_6_h (s : State) : Host.Outcome State Fault Refusal := .next (setBitReg .b6 .h s)

/-- `SET 6,L`, `CB F5` (R432). -/
def exec_set_6_l (s : State) : Host.Outcome State Fault Refusal := .next (setBitReg .b6 .l s)

/-- `SET 6,A`, `CB F7` (R432). -/
def exec_set_6_a (s : State) : Host.Outcome State Fault Refusal := .next (setBitReg .b6 .a s)

/-- `SET 7,B`, `CB F8` (R432). -/
def exec_set_7_b (s : State) : Host.Outcome State Fault Refusal := .next (setBitReg .b7 .b s)

/-- `SET 7,C`, `CB F9` (R432). -/
def exec_set_7_c (s : State) : Host.Outcome State Fault Refusal := .next (setBitReg .b7 .c s)

/-- `SET 7,D`, `CB FA` (R432). -/
def exec_set_7_d (s : State) : Host.Outcome State Fault Refusal := .next (setBitReg .b7 .d s)

/-- `SET 7,E`, `CB FB` (R432). -/
def exec_set_7_e (s : State) : Host.Outcome State Fault Refusal := .next (setBitReg .b7 .e s)

/-- `SET 7,H`, `CB FC` (R432). -/
def exec_set_7_h (s : State) : Host.Outcome State Fault Refusal := .next (setBitReg .b7 .h s)

/-- `SET 7,L`, `CB FD` (R432). -/
def exec_set_7_l (s : State) : Host.Outcome State Fault Refusal := .next (setBitReg .b7 .l s)

/-- `SET 7,A`, `CB FF` (R432). -/
def exec_set_7_a (s : State) : Host.Outcome State Fault Refusal := .next (setBitReg .b7 .a s)

/-- `SET 0,(HL)`, `CB C6` (R432). -/
def exec_set_0_at_hl (s : State) : Host.Outcome State Fault Refusal := .next (setAtHl .b0 s)

/-- `SET 1,(HL)`, `CB CE` (R432). -/
def exec_set_1_at_hl (s : State) : Host.Outcome State Fault Refusal := .next (setAtHl .b1 s)

/-- `SET 2,(HL)`, `CB D6` (R432). -/
def exec_set_2_at_hl (s : State) : Host.Outcome State Fault Refusal := .next (setAtHl .b2 s)

/-- `SET 3,(HL)`, `CB DE` (R432). -/
def exec_set_3_at_hl (s : State) : Host.Outcome State Fault Refusal := .next (setAtHl .b3 s)

/-- `SET 4,(HL)`, `CB E6` (R432). -/
def exec_set_4_at_hl (s : State) : Host.Outcome State Fault Refusal := .next (setAtHl .b4 s)

/-- `SET 5,(HL)`, `CB EE` (R432). -/
def exec_set_5_at_hl (s : State) : Host.Outcome State Fault Refusal := .next (setAtHl .b5 s)

/-- `SET 6,(HL)`, `CB F6` (R432). -/
def exec_set_6_at_hl (s : State) : Host.Outcome State Fault Refusal := .next (setAtHl .b6 s)

/-- `SET 7,(HL)`, `CB FE` (R432). -/
def exec_set_7_at_hl (s : State) : Host.Outcome State Fault Refusal := .next (setAtHl .b7 s)

end Sys2Proof.Machine
end

