-- ==== Sys2Proof/Machine/Control.lean ====
section
/-! DEFINITION. Jumps, calls and returns of the standard table (44_control_transfer.md): one shared operation per rule, then
the meaning of each instruction over it. -/

namespace Sys2Proof.Machine

/-- R311. -/
def jp (s : State) : State :=
  let nn := s.wordAt s.pc
  (s.imm16.setWz nn).setPc nn

/-- R312: the target bytes are read and `WZ` written in both cases. -/
def jpCc (cc : Cond) (s : State) : State :=
  let nn := s.wordAt s.pc
  let t := s.imm16.setWz nn
  if condHolds s.regs.f cc then t.setPc nn else t

/-- R316: no memory access. -/
def jpHl (s : State) : State := s.setPc s.hl

/-- The taken part of a relative jump (R313 to R315): `da` is where the displacement `e` was read, `PC` stands after
it. -/
def State.jumpRelative (s : State) (da : Word) (e : Byte) : State :=
  let target := s.pc + signExtend16 e
  ((s.takenDelay da).setPc target).setWz target

/-- R313. -/
def jr (s : State) : State := s.imm8.jumpRelative s.pc (s.byteAt s.pc)

/-- R314. -/
def jrCc (cc : RelCond) (s : State) : State :=
  if relHolds s.regs.f cc then s.imm8.jumpRelative s.pc (s.byteAt s.pc) else s.imm8

/-- R315. -/
def djnz (s : State) : State :=
  let b := s.regs.b - 1#8
  let t := (s.tick s.cfg.tact.djnz).imm8.setB b
  if b = 0x00#8 then t else t.jumpRelative s.pc (s.byteAt s.pc)

/-- `Tick(n); Push16(PC); PC <- target`, of R317, R318 and R321. -/
def State.callTo (s : State) (target : Word) (n : Nat) : State := ((s.tick n).push16 s.pc).setPc target

/-- R317. -/
def call (s : State) : State :=
  let nn := s.wordAt s.pc
  (s.imm16.setWz nn).callTo nn s.cfg.tact.call

/-- R318: the target bytes are read and `WZ` written in both cases. -/
def callCc (cc : Cond) (s : State) : State :=
  let nn := s.wordAt s.pc
  let t := s.imm16.setWz nn
  if condHolds s.regs.f cc then t.callTo nn s.cfg.tact.callCc else t

/-- `PC <- Pop16(); WZ <- PC`, of R319 and R320. -/
def State.returnTo (s : State) : State := (s.pop16.setPc (s.wordAt s.sp)).setWz (s.wordAt s.sp)

/-- R319. -/
def ret (s : State) : State := s.returnTo

/-- R320. -/
def retCc (cc : Cond) (s : State) : State :=
  let t := s.tick s.cfg.tact.retCc
  if condHolds s.regs.f cc then t.returnTo else t

/-- `y * 8`, the restart target (R321). -/
def restartTarget (y : BitNo) : Word := BitVec.ofNat 16 (y.val * 8)

/-- R321. -/
def rst (y : BitNo) (s : State) : State := (s.callTo (restartTarget y) s.cfg.tact.rst).setWz (restartTarget y)

/-! ## The meaning of each instruction -/

/-- `JP nn`, `C3 nn` (R311). -/
def exec_jp_nn (s : State) : Host.Outcome State Fault Refusal := .next (jp s)

/-- `JP NZ,nn`, `C2 nn` (R312). -/
def exec_jp_nz_nn (s : State) : Host.Outcome State Fault Refusal := .next (jpCc .nz s)

/-- `JP Z,nn`, `CA nn` (R312). -/
def exec_jp_z_nn (s : State) : Host.Outcome State Fault Refusal := .next (jpCc .z s)

/-- `JP NC,nn`, `D2 nn` (R312). -/
def exec_jp_nc_nn (s : State) : Host.Outcome State Fault Refusal := .next (jpCc .nc s)

/-- `JP C,nn`, `DA nn` (R312). -/
def exec_jp_c_nn (s : State) : Host.Outcome State Fault Refusal := .next (jpCc .c s)

/-- `JP PO,nn`, `E2 nn` (R312). -/
def exec_jp_po_nn (s : State) : Host.Outcome State Fault Refusal := .next (jpCc .po s)

/-- `JP PE,nn`, `EA nn` (R312). -/
def exec_jp_pe_nn (s : State) : Host.Outcome State Fault Refusal := .next (jpCc .pe s)

/-- `JP P,nn`, `F2 nn` (R312). -/
def exec_jp_p_nn (s : State) : Host.Outcome State Fault Refusal := .next (jpCc .p s)

/-- `JP M,nn`, `FA nn` (R312). -/
def exec_jp_m_nn (s : State) : Host.Outcome State Fault Refusal := .next (jpCc .m s)

/-- `JP (HL)`, `E9` (R316). -/
def exec_jp_at_hl (s : State) : Host.Outcome State Fault Refusal := .next (jpHl s)

/-- `JR e`, `18 e` (R313). -/
def exec_jr_e (s : State) : Host.Outcome State Fault Refusal := .next (jr s)

/-- `JR NZ,e`, `20 e` (R314). -/
def exec_jr_nz_e (s : State) : Host.Outcome State Fault Refusal := .next (jrCc .nz s)

/-- `JR Z,e`, `28 e` (R314). -/
def exec_jr_z_e (s : State) : Host.Outcome State Fault Refusal := .next (jrCc .z s)

/-- `JR NC,e`, `30 e` (R314). -/
def exec_jr_nc_e (s : State) : Host.Outcome State Fault Refusal := .next (jrCc .nc s)

/-- `JR C,e`, `38 e` (R314). -/
def exec_jr_c_e (s : State) : Host.Outcome State Fault Refusal := .next (jrCc .c s)

/-- `DJNZ e`, `10 e` (R315). -/
def exec_djnz_e (s : State) : Host.Outcome State Fault Refusal := .next (djnz s)

/-- `CALL nn`, `CD nn` (R317). -/
def exec_call_nn (s : State) : Host.Outcome State Fault Refusal := .next (call s)

/-- `CALL NZ,nn`, `C4 nn` (R318). -/
def exec_call_nz_nn (s : State) : Host.Outcome State Fault Refusal := .next (callCc .nz s)

/-- `CALL Z,nn`, `CC nn` (R318). -/
def exec_call_z_nn (s : State) : Host.Outcome State Fault Refusal := .next (callCc .z s)

/-- `CALL NC,nn`, `D4 nn` (R318). -/
def exec_call_nc_nn (s : State) : Host.Outcome State Fault Refusal := .next (callCc .nc s)

/-- `CALL C,nn`, `DC nn` (R318). -/
def exec_call_c_nn (s : State) : Host.Outcome State Fault Refusal := .next (callCc .c s)

/-- `CALL PO,nn`, `E4 nn` (R318). -/
def exec_call_po_nn (s : State) : Host.Outcome State Fault Refusal := .next (callCc .po s)

/-- `CALL PE,nn`, `EC nn` (R318). -/
def exec_call_pe_nn (s : State) : Host.Outcome State Fault Refusal := .next (callCc .pe s)

/-- `CALL P,nn`, `F4 nn` (R318). -/
def exec_call_p_nn (s : State) : Host.Outcome State Fault Refusal := .next (callCc .p s)

/-- `CALL M,nn`, `FC nn` (R318). -/
def exec_call_m_nn (s : State) : Host.Outcome State Fault Refusal := .next (callCc .m s)

/-- `RET`, `C9` (R319). -/
def exec_ret (s : State) : Host.Outcome State Fault Refusal := .next (ret s)

/-- `RET NZ`, `C0` (R320). -/
def exec_ret_nz (s : State) : Host.Outcome State Fault Refusal := .next (retCc .nz s)

/-- `RET Z`, `C8` (R320). -/
def exec_ret_z (s : State) : Host.Outcome State Fault Refusal := .next (retCc .z s)

/-- `RET NC`, `D0` (R320). -/
def exec_ret_nc (s : State) : Host.Outcome State Fault Refusal := .next (retCc .nc s)

/-- `RET C`, `D8` (R320). -/
def exec_ret_c (s : State) : Host.Outcome State Fault Refusal := .next (retCc .c s)

/-- `RET PO`, `E0` (R320). -/
def exec_ret_po (s : State) : Host.Outcome State Fault Refusal := .next (retCc .po s)

/-- `RET PE`, `E8` (R320). -/
def exec_ret_pe (s : State) : Host.Outcome State Fault Refusal := .next (retCc .pe s)

/-- `RET P`, `F0` (R320). -/
def exec_ret_p (s : State) : Host.Outcome State Fault Refusal := .next (retCc .p s)

/-- `RET M`, `F8` (R320). -/
def exec_ret_m (s : State) : Host.Outcome State Fault Refusal := .next (retCc .m s)

/-- `RST 00H`, `C7` (R321). -/
def exec_rst_00h (s : State) : Host.Outcome State Fault Refusal := .next (rst .b0 s)

/-- `RST 08H`, `CF` (R321). -/
def exec_rst_08h (s : State) : Host.Outcome State Fault Refusal := .next (rst .b1 s)

/-- `RST 10H`, `D7` (R321). -/
def exec_rst_10h (s : State) : Host.Outcome State Fault Refusal := .next (rst .b2 s)

/-- `RST 18H`, `DF` (R321). -/
def exec_rst_18h (s : State) : Host.Outcome State Fault Refusal := .next (rst .b3 s)

/-- `RST 20H`, `E7` (R321). -/
def exec_rst_20h (s : State) : Host.Outcome State Fault Refusal := .next (rst .b4 s)

/-- `RST 28H`, `EF` (R321). -/
def exec_rst_28h (s : State) : Host.Outcome State Fault Refusal := .next (rst .b5 s)

/-- `RST 30H`, `F7` (R321). -/
def exec_rst_30h (s : State) : Host.Outcome State Fault Refusal := .next (rst .b6 s)

/-- `RST 38H`, `FF` (R321). -/
def exec_rst_38h (s : State) : Host.Outcome State Fault Refusal := .next (rst .b7 s)

end Sys2Proof.Machine
end

