-- ==== Sys2Proof/Machine/Load.lean ====
section
/-! DEFINITION. Loads, stack and exchanges of the standard table (42_load_exchange.md): one shared operation per rule, then
the meaning of each instruction over it. The opcode byte has been fetched; operands are read here (R164, R200). -/

namespace Sys2Proof.Machine

/-- R201. -/
def ldRegReg (r q : Reg8) (s : State) : State := s.setReg r (s.reg q)

/-- R202. -/
def ldRegImm (r : Reg8) (s : State) : State := s.imm8.setReg r (s.byteAt s.pc)

/-- R203: the address is the old `HL`. -/
def ldRegAtHl (r : Reg8) (s : State) : State := (s.rd s.hl).setReg r (s.byteAt s.hl)

/-- R204. -/
def ldAtHlReg (r : Reg8) (s : State) : State := s.wr s.hl (s.reg r)

/-- R205. -/
def ldAtHlImm (s : State) : State := s.imm8.wr s.hl (s.byteAt s.pc)

/-- `A <- Rd(a); WZ <- a + 1`, of R206, R207 and R208. -/
def State.loadA (s : State) (a : Word) : State := ((s.rd a).setA (s.byteAt a)).setWz (a + 1#16)

/-- `Wr(a, A); WZ <- pair(A, lo(a + 1))`, of R209, R210 and R211. -/
def State.storeA (s : State) (a : Word) : State :=
  (s.wr a s.regs.a).setWz (pairOf s.regs.a (lowByte (a + 1#16)))

/-- R206. -/
def ldAAtBc (s : State) : State := s.loadA s.bc

/-- R207. -/
def ldAAtDe (s : State) : State := s.loadA s.de

/-- R208. -/
def ldAAtNn (s : State) : State := s.imm16.loadA (s.wordAt s.pc)

/-- R209. -/
def ldAtBcA (s : State) : State := s.storeA s.bc

/-- R210. -/
def ldAtDeA (s : State) : State := s.storeA s.de

/-- R211. -/
def ldAtNnA (s : State) : State := s.imm16.storeA (s.wordAt s.pc)

/-- R212. -/
def ldPairImm (p : Pair) (s : State) : State := s.imm16.setPair p (s.wordAt s.pc)

/-- `Rd(nn); Rd(nn + 1); WZ <- nn + 1`, the read of a word at an operand address (R213, R364, R458); its value is
`wordAt nn`. -/
def State.readWord (s : State) (nn : Word) : State := ((s.rd nn).rd (nn + 1#16)).setWz (nn + 1#16)

/-- `Wr(nn, lo(v)); Wr(nn + 1, hi(v)); WZ <- nn + 1`, the store of a word at an operand address (R214, R363, R457). -/
def State.writeWord (s : State) (nn v : Word) : State :=
  ((s.wr nn (lowByte v)).wr (nn + 1#16) (highByte v)).setWz (nn + 1#16)

/-- R213. -/
def ldHlAtNn (s : State) : State :=
  let nn := s.wordAt s.pc
  (s.imm16.readWord nn).setHl (s.imm16.wordAt nn)

/-- R214. -/
def ldAtNnHl (s : State) : State := s.imm16.writeWord (s.wordAt s.pc) s.hl

/-- R215. -/
def ldSpHl (s : State) : State := (s.tick s.cfg.tact.ldSpHl).setSp s.hl

/-- R216. -/
def push (p : QPair) (s : State) : State := (s.tick s.cfg.tact.push).push16 (s.qpair p)

/-- R217. -/
def pop (p : QPair) (s : State) : State := s.pop16.setQPair p (s.wordAt s.sp)

/-- R218. -/
def exDeHl (s : State) : State := (s.setDe s.hl).setHl s.de

/-- R219. -/
def exAf (s : State) : State := { s.setAf s.afAlt with afAlt := s.af }

/-- R220: all three pairs at once. -/
def exx (s : State) : State :=
  { ((s.setBc s.bcAlt).setDe s.deAlt).setHl s.hlAlt with bcAlt := s.bc, deAlt := s.de, hlAlt := s.hl }

/-- The bus part of an exchange of `v` with the word on top of the stack (R221, R368): two reads, the high byte
written first, `m` tacts after the reads and `n` after the writes. -/
def State.exchangeTop (s : State) (v : Word) (m n : Nat) : State :=
  let t := ((s.rd s.sp).rd (s.sp + 1#16)).tick m
  (((t.wr (s.sp + 1#16) (highByte v)).wr s.sp (lowByte v)).tick n).setWz (s.wordAt s.sp)

/-- R221. -/
def exSpHl (s : State) : State :=
  (s.exchangeTop s.hl s.cfg.tact.exSpHlRead s.cfg.tact.exSpHlEnd).setHl (s.wordAt s.sp)

/-! ## The meaning of each instruction -/

/-- `LD B,B`, `40` (R201). -/
def exec_ld_b_b (s : State) : Host.Outcome State Fault Refusal := .next (ldRegReg .b .b s)

/-- `LD B,C`, `41` (R201). -/
def exec_ld_b_c (s : State) : Host.Outcome State Fault Refusal := .next (ldRegReg .b .c s)

/-- `LD B,D`, `42` (R201). -/
def exec_ld_b_d (s : State) : Host.Outcome State Fault Refusal := .next (ldRegReg .b .d s)

/-- `LD B,E`, `43` (R201). -/
def exec_ld_b_e (s : State) : Host.Outcome State Fault Refusal := .next (ldRegReg .b .e s)

/-- `LD B,H`, `44` (R201). -/
def exec_ld_b_h (s : State) : Host.Outcome State Fault Refusal := .next (ldRegReg .b .h s)

/-- `LD B,L`, `45` (R201). -/
def exec_ld_b_l (s : State) : Host.Outcome State Fault Refusal := .next (ldRegReg .b .l s)

/-- `LD B,A`, `47` (R201). -/
def exec_ld_b_a (s : State) : Host.Outcome State Fault Refusal := .next (ldRegReg .b .a s)

/-- `LD C,B`, `48` (R201). -/
def exec_ld_c_b (s : State) : Host.Outcome State Fault Refusal := .next (ldRegReg .c .b s)

/-- `LD C,C`, `49` (R201). -/
def exec_ld_c_c (s : State) : Host.Outcome State Fault Refusal := .next (ldRegReg .c .c s)

/-- `LD C,D`, `4A` (R201). -/
def exec_ld_c_d (s : State) : Host.Outcome State Fault Refusal := .next (ldRegReg .c .d s)

/-- `LD C,E`, `4B` (R201). -/
def exec_ld_c_e (s : State) : Host.Outcome State Fault Refusal := .next (ldRegReg .c .e s)

/-- `LD C,H`, `4C` (R201). -/
def exec_ld_c_h (s : State) : Host.Outcome State Fault Refusal := .next (ldRegReg .c .h s)

/-- `LD C,L`, `4D` (R201). -/
def exec_ld_c_l (s : State) : Host.Outcome State Fault Refusal := .next (ldRegReg .c .l s)

/-- `LD C,A`, `4F` (R201). -/
def exec_ld_c_a (s : State) : Host.Outcome State Fault Refusal := .next (ldRegReg .c .a s)

/-- `LD D,B`, `50` (R201). -/
def exec_ld_d_b (s : State) : Host.Outcome State Fault Refusal := .next (ldRegReg .d .b s)

/-- `LD D,C`, `51` (R201). -/
def exec_ld_d_c (s : State) : Host.Outcome State Fault Refusal := .next (ldRegReg .d .c s)

/-- `LD D,D`, `52` (R201). -/
def exec_ld_d_d (s : State) : Host.Outcome State Fault Refusal := .next (ldRegReg .d .d s)

/-- `LD D,E`, `53` (R201). -/
def exec_ld_d_e (s : State) : Host.Outcome State Fault Refusal := .next (ldRegReg .d .e s)

/-- `LD D,H`, `54` (R201). -/
def exec_ld_d_h (s : State) : Host.Outcome State Fault Refusal := .next (ldRegReg .d .h s)

/-- `LD D,L`, `55` (R201). -/
def exec_ld_d_l (s : State) : Host.Outcome State Fault Refusal := .next (ldRegReg .d .l s)

/-- `LD D,A`, `57` (R201). -/
def exec_ld_d_a (s : State) : Host.Outcome State Fault Refusal := .next (ldRegReg .d .a s)

/-- `LD E,B`, `58` (R201). -/
def exec_ld_e_b (s : State) : Host.Outcome State Fault Refusal := .next (ldRegReg .e .b s)

/-- `LD E,C`, `59` (R201). -/
def exec_ld_e_c (s : State) : Host.Outcome State Fault Refusal := .next (ldRegReg .e .c s)

/-- `LD E,D`, `5A` (R201). -/
def exec_ld_e_d (s : State) : Host.Outcome State Fault Refusal := .next (ldRegReg .e .d s)

/-- `LD E,E`, `5B` (R201). -/
def exec_ld_e_e (s : State) : Host.Outcome State Fault Refusal := .next (ldRegReg .e .e s)

/-- `LD E,H`, `5C` (R201). -/
def exec_ld_e_h (s : State) : Host.Outcome State Fault Refusal := .next (ldRegReg .e .h s)

/-- `LD E,L`, `5D` (R201). -/
def exec_ld_e_l (s : State) : Host.Outcome State Fault Refusal := .next (ldRegReg .e .l s)

/-- `LD E,A`, `5F` (R201). -/
def exec_ld_e_a (s : State) : Host.Outcome State Fault Refusal := .next (ldRegReg .e .a s)

/-- `LD H,B`, `60` (R201). -/
def exec_ld_h_b (s : State) : Host.Outcome State Fault Refusal := .next (ldRegReg .h .b s)

/-- `LD H,C`, `61` (R201). -/
def exec_ld_h_c (s : State) : Host.Outcome State Fault Refusal := .next (ldRegReg .h .c s)

/-- `LD H,D`, `62` (R201). -/
def exec_ld_h_d (s : State) : Host.Outcome State Fault Refusal := .next (ldRegReg .h .d s)

/-- `LD H,E`, `63` (R201). -/
def exec_ld_h_e (s : State) : Host.Outcome State Fault Refusal := .next (ldRegReg .h .e s)

/-- `LD H,H`, `64` (R201). -/
def exec_ld_h_h (s : State) : Host.Outcome State Fault Refusal := .next (ldRegReg .h .h s)

/-- `LD H,L`, `65` (R201). -/
def exec_ld_h_l (s : State) : Host.Outcome State Fault Refusal := .next (ldRegReg .h .l s)

/-- `LD H,A`, `67` (R201). -/
def exec_ld_h_a (s : State) : Host.Outcome State Fault Refusal := .next (ldRegReg .h .a s)

/-- `LD L,B`, `68` (R201). -/
def exec_ld_l_b (s : State) : Host.Outcome State Fault Refusal := .next (ldRegReg .l .b s)

/-- `LD L,C`, `69` (R201). -/
def exec_ld_l_c (s : State) : Host.Outcome State Fault Refusal := .next (ldRegReg .l .c s)

/-- `LD L,D`, `6A` (R201). -/
def exec_ld_l_d (s : State) : Host.Outcome State Fault Refusal := .next (ldRegReg .l .d s)

/-- `LD L,E`, `6B` (R201). -/
def exec_ld_l_e (s : State) : Host.Outcome State Fault Refusal := .next (ldRegReg .l .e s)

/-- `LD L,H`, `6C` (R201). -/
def exec_ld_l_h (s : State) : Host.Outcome State Fault Refusal := .next (ldRegReg .l .h s)

/-- `LD L,L`, `6D` (R201). -/
def exec_ld_l_l (s : State) : Host.Outcome State Fault Refusal := .next (ldRegReg .l .l s)

/-- `LD L,A`, `6F` (R201). -/
def exec_ld_l_a (s : State) : Host.Outcome State Fault Refusal := .next (ldRegReg .l .a s)

/-- `LD A,B`, `78` (R201). -/
def exec_ld_a_b (s : State) : Host.Outcome State Fault Refusal := .next (ldRegReg .a .b s)

/-- `LD A,C`, `79` (R201). -/
def exec_ld_a_c (s : State) : Host.Outcome State Fault Refusal := .next (ldRegReg .a .c s)

/-- `LD A,D`, `7A` (R201). -/
def exec_ld_a_d (s : State) : Host.Outcome State Fault Refusal := .next (ldRegReg .a .d s)

/-- `LD A,E`, `7B` (R201). -/
def exec_ld_a_e (s : State) : Host.Outcome State Fault Refusal := .next (ldRegReg .a .e s)

/-- `LD A,H`, `7C` (R201). -/
def exec_ld_a_h (s : State) : Host.Outcome State Fault Refusal := .next (ldRegReg .a .h s)

/-- `LD A,L`, `7D` (R201). -/
def exec_ld_a_l (s : State) : Host.Outcome State Fault Refusal := .next (ldRegReg .a .l s)

/-- `LD A,A`, `7F` (R201). -/
def exec_ld_a_a (s : State) : Host.Outcome State Fault Refusal := .next (ldRegReg .a .a s)

/-- `LD B,n`, `06 n` (R202). -/
def exec_ld_b_n (s : State) : Host.Outcome State Fault Refusal := .next (ldRegImm .b s)

/-- `LD C,n`, `0E n` (R202). -/
def exec_ld_c_n (s : State) : Host.Outcome State Fault Refusal := .next (ldRegImm .c s)

/-- `LD D,n`, `16 n` (R202). -/
def exec_ld_d_n (s : State) : Host.Outcome State Fault Refusal := .next (ldRegImm .d s)

/-- `LD E,n`, `1E n` (R202). -/
def exec_ld_e_n (s : State) : Host.Outcome State Fault Refusal := .next (ldRegImm .e s)

/-- `LD H,n`, `26 n` (R202). -/
def exec_ld_h_n (s : State) : Host.Outcome State Fault Refusal := .next (ldRegImm .h s)

/-- `LD L,n`, `2E n` (R202). -/
def exec_ld_l_n (s : State) : Host.Outcome State Fault Refusal := .next (ldRegImm .l s)

/-- `LD A,n`, `3E n` (R202). -/
def exec_ld_a_n (s : State) : Host.Outcome State Fault Refusal := .next (ldRegImm .a s)

/-- `LD B,(HL)`, `46` (R203). -/
def exec_ld_b_at_hl (s : State) : Host.Outcome State Fault Refusal := .next (ldRegAtHl .b s)

/-- `LD C,(HL)`, `4E` (R203). -/
def exec_ld_c_at_hl (s : State) : Host.Outcome State Fault Refusal := .next (ldRegAtHl .c s)

/-- `LD D,(HL)`, `56` (R203). -/
def exec_ld_d_at_hl (s : State) : Host.Outcome State Fault Refusal := .next (ldRegAtHl .d s)

/-- `LD E,(HL)`, `5E` (R203). -/
def exec_ld_e_at_hl (s : State) : Host.Outcome State Fault Refusal := .next (ldRegAtHl .e s)

/-- `LD H,(HL)`, `66` (R203). -/
def exec_ld_h_at_hl (s : State) : Host.Outcome State Fault Refusal := .next (ldRegAtHl .h s)

/-- `LD L,(HL)`, `6E` (R203). -/
def exec_ld_l_at_hl (s : State) : Host.Outcome State Fault Refusal := .next (ldRegAtHl .l s)

/-- `LD A,(HL)`, `7E` (R203). -/
def exec_ld_a_at_hl (s : State) : Host.Outcome State Fault Refusal := .next (ldRegAtHl .a s)

/-- `LD (HL),B`, `70` (R204). -/
def exec_ld_at_hl_b (s : State) : Host.Outcome State Fault Refusal := .next (ldAtHlReg .b s)

/-- `LD (HL),C`, `71` (R204). -/
def exec_ld_at_hl_c (s : State) : Host.Outcome State Fault Refusal := .next (ldAtHlReg .c s)

/-- `LD (HL),D`, `72` (R204). -/
def exec_ld_at_hl_d (s : State) : Host.Outcome State Fault Refusal := .next (ldAtHlReg .d s)

/-- `LD (HL),E`, `73` (R204). -/
def exec_ld_at_hl_e (s : State) : Host.Outcome State Fault Refusal := .next (ldAtHlReg .e s)

/-- `LD (HL),H`, `74` (R204). -/
def exec_ld_at_hl_h (s : State) : Host.Outcome State Fault Refusal := .next (ldAtHlReg .h s)

/-- `LD (HL),L`, `75` (R204). -/
def exec_ld_at_hl_l (s : State) : Host.Outcome State Fault Refusal := .next (ldAtHlReg .l s)

/-- `LD (HL),A`, `77` (R204). -/
def exec_ld_at_hl_a (s : State) : Host.Outcome State Fault Refusal := .next (ldAtHlReg .a s)

/-- `LD (HL),n`, `36 n` (R205). -/
def exec_ld_at_hl_n (s : State) : Host.Outcome State Fault Refusal := .next (ldAtHlImm s)

/-- `LD A,(BC)`, `0A` (R206). -/
def exec_ld_a_at_bc (s : State) : Host.Outcome State Fault Refusal := .next (ldAAtBc s)

/-- `LD A,(DE)`, `1A` (R207). -/
def exec_ld_a_at_de (s : State) : Host.Outcome State Fault Refusal := .next (ldAAtDe s)

/-- `LD A,(nn)`, `3A nn` (R208). -/
def exec_ld_a_at_nn (s : State) : Host.Outcome State Fault Refusal := .next (ldAAtNn s)

/-- `LD (BC),A`, `02` (R209). -/
def exec_ld_at_bc_a (s : State) : Host.Outcome State Fault Refusal := .next (ldAtBcA s)

/-- `LD (DE),A`, `12` (R210). -/
def exec_ld_at_de_a (s : State) : Host.Outcome State Fault Refusal := .next (ldAtDeA s)

/-- `LD (nn),A`, `32 nn` (R211). -/
def exec_ld_at_nn_a (s : State) : Host.Outcome State Fault Refusal := .next (ldAtNnA s)

/-- `LD BC,nn`, `01 nn` (R212). -/
def exec_ld_bc_nn (s : State) : Host.Outcome State Fault Refusal := .next (ldPairImm .bc s)

/-- `LD DE,nn`, `11 nn` (R212). -/
def exec_ld_de_nn (s : State) : Host.Outcome State Fault Refusal := .next (ldPairImm .de s)

/-- `LD HL,nn`, `21 nn` (R212). -/
def exec_ld_hl_nn (s : State) : Host.Outcome State Fault Refusal := .next (ldPairImm .hl s)

/-- `LD SP,nn`, `31 nn` (R212). -/
def exec_ld_sp_nn (s : State) : Host.Outcome State Fault Refusal := .next (ldPairImm .sp s)

/-- `LD HL,(nn)`, `2A nn` (R213). -/
def exec_ld_hl_at_nn (s : State) : Host.Outcome State Fault Refusal := .next (ldHlAtNn s)

/-- `LD (nn),HL`, `22 nn` (R214). -/
def exec_ld_at_nn_hl (s : State) : Host.Outcome State Fault Refusal := .next (ldAtNnHl s)

/-- `LD SP,HL`, `F9` (R215). -/
def exec_ld_sp_hl (s : State) : Host.Outcome State Fault Refusal := .next (ldSpHl s)

/-- `PUSH BC`, `C5` (R216). -/
def exec_push_bc (s : State) : Host.Outcome State Fault Refusal := .next (push .bc s)

/-- `PUSH DE`, `D5` (R216). -/
def exec_push_de (s : State) : Host.Outcome State Fault Refusal := .next (push .de s)

/-- `PUSH HL`, `E5` (R216). -/
def exec_push_hl (s : State) : Host.Outcome State Fault Refusal := .next (push .hl s)

/-- `PUSH AF`, `F5` (R216). -/
def exec_push_af (s : State) : Host.Outcome State Fault Refusal := .next (push .af s)

/-- `POP BC`, `C1` (R217). -/
def exec_pop_bc (s : State) : Host.Outcome State Fault Refusal := .next (pop .bc s)

/-- `POP DE`, `D1` (R217). -/
def exec_pop_de (s : State) : Host.Outcome State Fault Refusal := .next (pop .de s)

/-- `POP HL`, `E1` (R217). -/
def exec_pop_hl (s : State) : Host.Outcome State Fault Refusal := .next (pop .hl s)

/-- `POP AF`, `F1` (R217). -/
def exec_pop_af (s : State) : Host.Outcome State Fault Refusal := .next (pop .af s)

/-- `EX DE,HL`, `EB` (R218). -/
def exec_ex_de_hl (s : State) : Host.Outcome State Fault Refusal := .next (exDeHl s)

/-- `EX AF,AF'`, `08` (R219). -/
def exec_ex_af_af (s : State) : Host.Outcome State Fault Refusal := .next (exAf s)

/-- `EXX`, `D9` (R220). -/
def exec_exx (s : State) : Host.Outcome State Fault Refusal := .next (exx s)

/-- `EX (SP),HL`, `E3` (R221). -/
def exec_ex_at_sp_hl (s : State) : Host.Outcome State Fault Refusal := .next (exSpHl s)

end Sys2Proof.Machine
end

