-- ==== Sys2Proof/Machine/Extended.lean ====
section
/-! DEFINITION. The extended table (48_ed_extended.md): one shared operation per rule, then the meaning of each instruction
over it. -/

namespace Sys2Proof.Machine

/-- The bus and flag part of R451 and R452. -/
def State.inputC (s : State) : State :=
  let t := s.setWz (s.bc + 1#16)
  (t.portRd s.bc).setF (inFlagsOf s.regs.f (s.portAnswer s.bc))

/-- R451. -/
def inReg (r : Reg8) (s : State) : State := s.inputC.setReg r (s.portAnswer s.bc)

/-- R452: the value is not stored. -/
def inFlags (s : State) : State := s.inputC

/-- R453. -/
def outReg (r : Reg8) (s : State) : State := (s.portWr s.bc (s.reg r)).setWz (s.bc + 1#16)

/-- R454. -/
def outZero (s : State) : State := (s.portWr s.bc 0x00#8).setWz (s.bc + 1#16)

/-- R455. -/
def sbcHl (p : Pair) (s : State) : State :=
  let a := s.hl
  let b := s.pair p
  let c := carryOf s.regs.f
  (((s.setWz (a + 1#16)).tick s.cfg.tact.sbcHl).setF (sbc16Flags a b c)).setHl (sbc16Result a b c)

/-- R456. -/
def adcHl (p : Pair) (s : State) : State :=
  let a := s.hl
  let b := s.pair p
  let c := carryOf s.regs.f
  (((s.setWz (a + 1#16)).tick s.cfg.tact.adcHl).setF (adc16Flags a b c)).setHl (adc16Result a b c)

/-- R457. -/
def ldAtNnPair (p : Pair) (s : State) : State := s.imm16.writeWord (s.wordAt s.pc) (s.pair p)

/-- R458. -/
def ldPairAtNn (p : Pair) (s : State) : State :=
  let nn := s.wordAt s.pc
  (s.imm16.readWord nn).setPair p (s.imm16.wordAt nn)

/-- R459: `0 - A`. -/
def neg (s : State) : State :=
  { s with regs.a := subResult false 0x00#8 s.regs.a, regs.f := subFlags false 0x00#8 s.regs.a }

/-- R460. -/
def retn (s : State) : State := s.returnFromInterrupt

/-- R461. -/
def reti (s : State) : State := s.returnFromInterrupt

/-- R462. -/
def im (m : IntMode) (s : State) : State := { s with im := m }

/-- R463. -/
def ldIA (s : State) : State := { s.tick s.cfg.tact.ldIA with iReg := s.regs.a }

/-- R464: all eight bits. -/
def ldRA (s : State) : State := { s.tick s.cfg.tact.ldRA with rReg := s.regs.a }

/-- The operation of R465 and R466 on the byte loaded. -/
def State.loadIR (s : State) (v : Byte) (n : Nat) : State := ((s.tick n).setA v).setF (loadIRFlags s.regs.f v s.iff2)

/-- R465. -/
def ldAI (s : State) : State := s.loadIR s.iReg s.cfg.tact.ldAI

/-- R466. -/
def ldAR (s : State) : State := s.loadIR s.rReg s.cfg.tact.ldAR

/-- The operation of R467 and R468 on the byte written to memory and the new `A`. -/
def State.nibbleRotate (s : State) (w a : Byte) (n : Nat) : State :=
  let t := ((s.rd s.hl).tick n).wr s.hl w
  ((t.setA a).setF (inFlagsOf s.regs.f a)).setWz (s.hl + 1#16)

/-- R467. -/
def rrd (s : State) : State :=
  let m := s.byteAt s.hl
  s.nibbleRotate ((s.regs.a <<< 4) ||| (m >>> 4)) ((s.regs.a &&& 0xF0#8) ||| (m &&& 0x0F#8)) s.cfg.tact.rrd

/-- R468. -/
def rld (s : State) : State :=
  let m := s.byteAt s.hl
  s.nibbleRotate ((m <<< 4) ||| (s.regs.a &&& 0x0F#8)) ((s.regs.a &&& 0xF0#8) ||| (m >>> 4)) s.cfg.tact.rld

/-! ## Block instructions: `dlt` is 1 or −1 (section 5 of the file) -/

/-- `dlt = +1`. -/
def up : Word := 1#16

/-- `dlt = −1`. -/
def down : Word := 0xFFFF#16

/-- The repeat step of R471 and R475: `Tick(n); PC <- PC - 2; WZ <- PC + 1` with the new `PC`. -/
def State.repeatWz (s : State) (n : Nat) : State := ((s.tick n).setPc (s.pc - 2#16)).setWz (s.pc - 1#16)

/-- The repeat step of R479 and R483: `Tick(n); PC <- PC - 2`. -/
def State.repeatPc (s : State) (n : Nat) : State := (s.tick n).setPc (s.pc - 2#16)

/-- One transfer (R469, R470). -/
def State.blockLoad (s : State) (dlt : Word) : State :=
  let v := s.byteAt s.hl
  let t := ((s.rd s.hl).wr s.de v).tick s.cfg.tact.blockLoad
  (((t.setHl (s.hl + dlt)).setDe (s.de + dlt)).setBc (s.bc - 1#16)).setF
    (blockLoadFlags s.regs.f s.regs.a v (s.bc - 1#16))

/-- A repeating transfer (R471, R472). -/
def State.blockLoadRepeat (s : State) (dlt : Word) : State :=
  if s.bc - 1#16 = 0x0000#16 then s.blockLoad dlt else (s.blockLoad dlt).repeatWz s.cfg.tact.blockLoadRepeat

/-- R469. -/
def ldi (s : State) : State := s.blockLoad up

/-- R470. -/
def ldd (s : State) : State := s.blockLoad down

/-- R471. -/
def ldir (s : State) : State := s.blockLoadRepeat up

/-- R472. -/
def lddr (s : State) : State := s.blockLoadRepeat down

/-- One compare (R473, R474): `WZ` moves with `HL`. -/
def State.blockCompare (s : State) (dlt : Word) : State :=
  let v := s.byteAt s.hl
  let t := ((s.rd s.hl).tick s.cfg.tact.blockCompare).setWz (s.wz + dlt)
  ((t.setHl (s.hl + dlt)).setBc (s.bc - 1#16)).setF (blockCompareFlags s.regs.f s.regs.a v (s.bc - 1#16))

/-- A repeating compare: it stops on a match or when `BC` reaches 0 (R475, R476). -/
def State.blockCompareRepeat (s : State) (dlt : Word) : State :=
  if s.bc - 1#16 = 0x0000#16 ∨ s.regs.a - s.byteAt s.hl = 0x00#8 then s.blockCompare dlt
  else (s.blockCompare dlt).repeatWz s.cfg.tact.blockCompareRepeat

/-- R473. -/
def cpi (s : State) : State := s.blockCompare up

/-- R474. -/
def cpd (s : State) : State := s.blockCompare down

/-- R475. -/
def cpir (s : State) : State := s.blockCompareRepeat up

/-- R476. -/
def cpdr (s : State) : State := s.blockCompareRepeat down

/-- One input (R477, R478): the port address is `BC` before `B` is decremented. -/
def State.blockIn (s : State) (dlt : Word) : State :=
  let t := (s.tick s.cfg.tact.blockIn).setWz (s.bc + dlt)
  let v := t.portAnswer s.bc
  let b := s.regs.b - 1#8
  let u := ((t.portRd s.bc).setB b).wr s.hl v
  (u.setHl (s.hl + dlt)).setF (blockIoFlags v b (s.regs.c + lowByte dlt))

/-- A repeating input (R479, R480). -/
def State.blockInRepeat (s : State) (dlt : Word) : State :=
  if s.regs.b - 1#8 = 0x00#8 then s.blockIn dlt else (s.blockIn dlt).repeatPc s.cfg.tact.blockInRepeat

/-- One output (R481, R482): the port address is `BC` after `B` is decremented. -/
def State.blockOut (s : State) (dlt : Word) : State :=
  let v := s.byteAt s.hl
  let b := s.regs.b - 1#8
  let t := ((s.tick s.cfg.tact.blockOut).rd s.hl).setB b
  let u := (t.setWz (t.bc + dlt)).portWr t.bc v
  (u.setHl (s.hl + dlt)).setF (blockIoFlags v b (lowByte (s.hl + dlt)))

/-- A repeating output (R483, R484). -/
def State.blockOutRepeat (s : State) (dlt : Word) : State :=
  if s.regs.b - 1#8 = 0x00#8 then s.blockOut dlt else (s.blockOut dlt).repeatPc s.cfg.tact.blockOutRepeat

/-- R477. -/
def ini (s : State) : State := s.blockIn up

/-- R478. -/
def ind (s : State) : State := s.blockIn down

/-- R479. -/
def inir (s : State) : State := s.blockInRepeat up

/-- R480. -/
def indr (s : State) : State := s.blockInRepeat down

/-- R481. -/
def outi (s : State) : State := s.blockOut up

/-- R482. -/
def outd (s : State) : State := s.blockOut down

/-- R483. -/
def otir (s : State) : State := s.blockOutRepeat up

/-- R484. -/
def otdr (s : State) : State := s.blockOutRepeat down

/-- R485. -/
def nopEd (s : State) : State := s

/-! ## The meaning of each instruction -/

/-- `IN B,(C)`, `ED 40` (R451). -/
def exec_in_b_at_c (s : State) : Host.Outcome State Fault Refusal := .next (inReg .b s)

/-- `IN C,(C)`, `ED 48` (R451). -/
def exec_in_c_at_c (s : State) : Host.Outcome State Fault Refusal := .next (inReg .c s)

/-- `IN D,(C)`, `ED 50` (R451). -/
def exec_in_d_at_c (s : State) : Host.Outcome State Fault Refusal := .next (inReg .d s)

/-- `IN E,(C)`, `ED 58` (R451). -/
def exec_in_e_at_c (s : State) : Host.Outcome State Fault Refusal := .next (inReg .e s)

/-- `IN H,(C)`, `ED 60` (R451). -/
def exec_in_h_at_c (s : State) : Host.Outcome State Fault Refusal := .next (inReg .h s)

/-- `IN L,(C)`, `ED 68` (R451). -/
def exec_in_l_at_c (s : State) : Host.Outcome State Fault Refusal := .next (inReg .l s)

/-- `IN A,(C)`, `ED 78` (R451). -/
def exec_in_a_at_c (s : State) : Host.Outcome State Fault Refusal := .next (inReg .a s)

/-- `IN (C)`, `ED 70` (R452). -/
def exec_in_at_c (s : State) : Host.Outcome State Fault Refusal := .next (inFlags s)

/-- `OUT (C),B`, `ED 41` (R453). -/
def exec_out_at_c_b (s : State) : Host.Outcome State Fault Refusal := .next (outReg .b s)

/-- `OUT (C),C`, `ED 49` (R453). -/
def exec_out_at_c_c (s : State) : Host.Outcome State Fault Refusal := .next (outReg .c s)

/-- `OUT (C),D`, `ED 51` (R453). -/
def exec_out_at_c_d (s : State) : Host.Outcome State Fault Refusal := .next (outReg .d s)

/-- `OUT (C),E`, `ED 59` (R453). -/
def exec_out_at_c_e (s : State) : Host.Outcome State Fault Refusal := .next (outReg .e s)

/-- `OUT (C),H`, `ED 61` (R453). -/
def exec_out_at_c_h (s : State) : Host.Outcome State Fault Refusal := .next (outReg .h s)

/-- `OUT (C),L`, `ED 69` (R453). -/
def exec_out_at_c_l (s : State) : Host.Outcome State Fault Refusal := .next (outReg .l s)

/-- `OUT (C),A`, `ED 79` (R453). -/
def exec_out_at_c_a (s : State) : Host.Outcome State Fault Refusal := .next (outReg .a s)

/-- `OUT (C),0`, `ED 71` (R454). -/
def exec_out_at_c_0 (s : State) : Host.Outcome State Fault Refusal := .next (outZero s)

/-- `SBC HL,BC`, `ED 42` (R455). -/
def exec_sbc_hl_bc (s : State) : Host.Outcome State Fault Refusal := .next (sbcHl .bc s)

/-- `SBC HL,DE`, `ED 52` (R455). -/
def exec_sbc_hl_de (s : State) : Host.Outcome State Fault Refusal := .next (sbcHl .de s)

/-- `SBC HL,HL`, `ED 62` (R455). -/
def exec_sbc_hl_hl (s : State) : Host.Outcome State Fault Refusal := .next (sbcHl .hl s)

/-- `SBC HL,SP`, `ED 72` (R455). -/
def exec_sbc_hl_sp (s : State) : Host.Outcome State Fault Refusal := .next (sbcHl .sp s)

/-- `ADC HL,BC`, `ED 4A` (R456). -/
def exec_adc_hl_bc (s : State) : Host.Outcome State Fault Refusal := .next (adcHl .bc s)

/-- `ADC HL,DE`, `ED 5A` (R456). -/
def exec_adc_hl_de (s : State) : Host.Outcome State Fault Refusal := .next (adcHl .de s)

/-- `ADC HL,HL`, `ED 6A` (R456). -/
def exec_adc_hl_hl (s : State) : Host.Outcome State Fault Refusal := .next (adcHl .hl s)

/-- `ADC HL,SP`, `ED 7A` (R456). -/
def exec_adc_hl_sp (s : State) : Host.Outcome State Fault Refusal := .next (adcHl .sp s)

/-- `LD (nn),BC`, `ED 43 nn` (R457). -/
def exec_ld_at_nn_bc (s : State) : Host.Outcome State Fault Refusal := .next (ldAtNnPair .bc s)

/-- `LD (nn),DE`, `ED 53 nn` (R457). -/
def exec_ld_at_nn_de (s : State) : Host.Outcome State Fault Refusal := .next (ldAtNnPair .de s)

/-- `LD (nn),HL`, `ED 63 nn` (R457). -/
def exec_ld_at_nn_hl_ed (s : State) : Host.Outcome State Fault Refusal := .next (ldAtNnPair .hl s)

/-- `LD (nn),SP`, `ED 73 nn` (R457). -/
def exec_ld_at_nn_sp (s : State) : Host.Outcome State Fault Refusal := .next (ldAtNnPair .sp s)

/-- `LD BC,(nn)`, `ED 4B nn` (R458). -/
def exec_ld_bc_at_nn (s : State) : Host.Outcome State Fault Refusal := .next (ldPairAtNn .bc s)

/-- `LD DE,(nn)`, `ED 5B nn` (R458). -/
def exec_ld_de_at_nn (s : State) : Host.Outcome State Fault Refusal := .next (ldPairAtNn .de s)

/-- `LD HL,(nn)`, `ED 6B nn` (R458). -/
def exec_ld_hl_at_nn_ed (s : State) : Host.Outcome State Fault Refusal := .next (ldPairAtNn .hl s)

/-- `LD SP,(nn)`, `ED 7B nn` (R458). -/
def exec_ld_sp_at_nn (s : State) : Host.Outcome State Fault Refusal := .next (ldPairAtNn .sp s)

/-- `NEG`, `ED 44 / ED 4C / ED 54 / ED 5C / ED 64 / ED 6C / ED 74 / ED 7C` (R459). -/
def exec_neg (_y : BitNo) (s : State) : Host.Outcome State Fault Refusal := .next (neg s)

/-- `RETN`, `ED 45 / ED 55 / ED 5D / ED 65 / ED 6D / ED 75 / ED 7D` (R460). -/
def exec_retn (_y : BitNo) (s : State) : Host.Outcome State Fault Refusal := .next (retn s)

/-- `RETI`, `ED 4D` (R461). -/
def exec_reti (s : State) : Host.Outcome State Fault Refusal := .next (reti s)

/-- `IM 0`, `ED 46 / ED 4E / ED 66 / ED 6E` (R462). -/
def exec_im_0 (_y : BitNo) (s : State) : Host.Outcome State Fault Refusal := .next (im .im0 s)

/-- `IM 1`, `ED 56 / ED 76` (R462). -/
def exec_im_1 (_y : BitNo) (s : State) : Host.Outcome State Fault Refusal := .next (im .im1 s)

/-- `IM 2`, `ED 5E / ED 7E` (R462). -/
def exec_im_2 (_y : BitNo) (s : State) : Host.Outcome State Fault Refusal := .next (im .im2 s)

/-- `LD I,A`, `ED 47` (R463). -/
def exec_ld_i_a (s : State) : Host.Outcome State Fault Refusal := .next (ldIA s)

/-- `LD R,A`, `ED 4F` (R464). -/
def exec_ld_r_a (s : State) : Host.Outcome State Fault Refusal := .next (ldRA s)

/-- `LD A,I`, `ED 57` (R465). -/
def exec_ld_a_i (s : State) : Host.Outcome State Fault Refusal := .next (ldAI s)

/-- `LD A,R`, `ED 5F` (R466). -/
def exec_ld_a_r (s : State) : Host.Outcome State Fault Refusal := .next (ldAR s)

/-- `RRD`, `ED 67` (R467). -/
def exec_rrd (s : State) : Host.Outcome State Fault Refusal := .next (rrd s)

/-- `RLD`, `ED 6F` (R468). -/
def exec_rld (s : State) : Host.Outcome State Fault Refusal := .next (rld s)

/-- `LDI`, `ED A0` (R469). -/
def exec_ldi (s : State) : Host.Outcome State Fault Refusal := .next (ldi s)

/-- `LDD`, `ED A8` (R470). -/
def exec_ldd (s : State) : Host.Outcome State Fault Refusal := .next (ldd s)

/-- `LDIR`, `ED B0` (R471). -/
def exec_ldir (s : State) : Host.Outcome State Fault Refusal := .next (ldir s)

/-- `LDDR`, `ED B8` (R472). -/
def exec_lddr (s : State) : Host.Outcome State Fault Refusal := .next (lddr s)

/-- `CPI`, `ED A1` (R473). -/
def exec_cpi (s : State) : Host.Outcome State Fault Refusal := .next (cpi s)

/-- `CPD`, `ED A9` (R474). -/
def exec_cpd (s : State) : Host.Outcome State Fault Refusal := .next (cpd s)

/-- `CPIR`, `ED B1` (R475). -/
def exec_cpir (s : State) : Host.Outcome State Fault Refusal := .next (cpir s)

/-- `CPDR`, `ED B9` (R476). -/
def exec_cpdr (s : State) : Host.Outcome State Fault Refusal := .next (cpdr s)

/-- `INI`, `ED A2` (R477). -/
def exec_ini (s : State) : Host.Outcome State Fault Refusal := .next (ini s)

/-- `IND`, `ED AA` (R478). -/
def exec_ind (s : State) : Host.Outcome State Fault Refusal := .next (ind s)

/-- `INIR`, `ED B2` (R479). -/
def exec_inir (s : State) : Host.Outcome State Fault Refusal := .next (inir s)

/-- `INDR`, `ED BA` (R480). -/
def exec_indr (s : State) : Host.Outcome State Fault Refusal := .next (indr s)

/-- `OUTI`, `ED A3` (R481). -/
def exec_outi (s : State) : Host.Outcome State Fault Refusal := .next (outi s)

/-- `OUTD`, `ED AB` (R482). -/
def exec_outd (s : State) : Host.Outcome State Fault Refusal := .next (outd s)

/-- `OTIR`, `ED B3` (R483). -/
def exec_otir (s : State) : Host.Outcome State Fault Refusal := .next (otir s)

/-- `OTDR`, `ED BB` (R484). -/
def exec_otdr (s : State) : Host.Outcome State Fault Refusal := .next (otdr s)

/-- `NOP (ED)`, `ED op` (R485). -/
def exec_nop_ed (_op : Byte) (s : State) : Host.Outcome State Fault Refusal := .next (nopEd s)

end Sys2Proof.Machine
end

