-- ==== Sys2Proof/Machine/Indexed.lean ====
section
/-! DEFINITION. The override entries of the index table (46_indexed.md): one shared operation per rule over the selected
index register, then the meaning of each instruction over it. -/

namespace Sys2Proof.Machine

/-- R362. -/
def ldXyImm (x : XY) (s : State) : State := s.imm16.setXy x (s.wordAt s.pc)

/-- R363. -/
def ldAtNnXy (x : XY) (s : State) : State := s.imm16.writeWord (s.wordAt s.pc) (s.xy x)

/-- R364. -/
def ldXyAtNn (x : XY) (s : State) : State :=
  let nn := s.wordAt s.pc
  (s.imm16.readWord nn).setXy x (s.imm16.wordAt nn)

/-- R365. -/
def ldSpXy (x : XY) (s : State) : State := (s.tick s.cfg.tact.ldSpXy).setSp (s.xy x)

/-- R366. -/
def pushXy (x : XY) (s : State) : State := (s.tick s.cfg.tact.pushXy).push16 (s.xy x)

/-- R367. -/
def popXy (x : XY) (s : State) : State := s.pop16.setXy x (s.wordAt s.sp)

/-- R368. -/
def exSpXy (x : XY) (s : State) : State :=
  (s.exchangeTop (s.xy x) s.cfg.tact.exSpXyRead s.cfg.tact.exSpXyEnd).setXy x (s.wordAt s.sp)

/-- R369: no memory access, no displacement. -/
def jpXy (x : XY) (s : State) : State := s.setPc (s.xy x)

/-- R370: pair code 2 names the index register. -/
def addXy (x : XY) (p : Pair) (s : State) : State :=
  let a := s.xy x
  let b := s.pairXy x p
  (((s.setWz (a + 1#16)).tick s.cfg.tact.addXy).setF (add16Flags s.regs.f a b)).setXy x (a + b)

/-- R371. -/
def incXy (x : XY) (s : State) : State := (s.tick s.cfg.tact.incXy).setXy x (s.xy x + 1#16)

/-- R372. -/
def decXy (x : XY) (s : State) : State := (s.tick s.cfg.tact.decXy).setXy x (s.xy x - 1#16)

/-- The address `EA(d)` computes: the displacement is the byte at `PC` (R361). -/
def State.indexedAddress (s : State) (x : XY) : Word := s.effective x (s.byteAt s.pc)

/-- `EA(d)` (R361); its value is `indexedAddress`. -/
def State.readDisplacement (s : State) (x : XY) : State :=
  (s.imm8.tick s.cfg.tact.penalty).setWz (s.indexedAddress x)

/-- R373: `r[4]` and `r[5]` are the real `H` and `L`. -/
def ldRegXyd (x : XY) (r : Reg8) (s : State) : State :=
  let ea := s.indexedAddress x
  let t := s.readDisplacement x
  (t.rd ea).setReg r (t.byteAt ea)

/-- R374. -/
def ldXydReg (x : XY) (r : Reg8) (s : State) : State :=
  (s.readDisplacement x).wr (s.indexedAddress x) (s.reg r)

/-- R375: the penalty overlaps the read of `n`. -/
def ldXydImm (x : XY) (s : State) : State :=
  let ea := s.indexedAddress x
  let t := s.imm8.setWz ea
  (t.imm8.tick s.cfg.tact.ldXydImm).wr ea (t.byteAt t.pc)

/-- R376. -/
def incXyd (x : XY) (s : State) : State := (s.readDisplacement x).incMem (s.indexedAddress x) s.cfg.tact.incXyd

/-- R377. -/
def decXyd (x : XY) (s : State) : State := (s.readDisplacement x).decMem (s.indexedAddress x) s.cfg.tact.decXyd

/-- R378. -/
def aluXyd (x : XY) (op : AluOp) (s : State) : State :=
  let ea := s.indexedAddress x
  let t := s.readDisplacement x
  (t.rd ea).alu op (t.byteAt ea)

/-- R379, `LD XYH,n` and `LD XYL,n`. -/
def ldHalfImm (x : XY) (h : Half) (s : State) : State := s.imm8.setHalf x h (s.byteAt s.pc)

/-- R379, `LD r,XYH` and `LD r,XYL`. -/
def ldRegHalf (x : XY) (r : PlainReg) (h : Half) (s : State) : State := s.setReg (plain r) (s.half x h)

/-- R379, `LD XYH,r` and `LD XYL,r`. -/
def ldHalfReg (x : XY) (h : Half) (r : PlainReg) (s : State) : State := s.setHalf x h (s.reg (plain r))

/-- R379, loads between the halves. -/
def ldHalfHalf (x : XY) (h k : Half) (s : State) : State := s.setHalf x h (s.half x k)

/-- R380. -/
def incHalf (x : XY) (h : Half) (s : State) : State := (s.incF (s.half x h)).setHalf x h (s.half x h + 1#8)

/-- R380. -/
def decHalf (x : XY) (h : Half) (s : State) : State := (s.decF (s.half x h)).setHalf x h (s.half x h - 1#8)

/-- R381. -/
def aluHalf (x : XY) (op : AluOp) (h : Half) (s : State) : State := s.alu op (s.half x h)

/-! ## The meaning of each instruction -/

/-- `LD IX,nn`, `DD 21 nn` (R362). -/
def exec_ld_ix_nn (s : State) : Host.Outcome State Fault Refusal := .next (ldXyImm .ix s)

/-- `LD IY,nn`, `FD 21 nn` (R362). -/
def exec_ld_iy_nn (s : State) : Host.Outcome State Fault Refusal := .next (ldXyImm .iy s)

/-- `LD (nn),IX`, `DD 22 nn` (R363). -/
def exec_ld_at_nn_ix (s : State) : Host.Outcome State Fault Refusal := .next (ldAtNnXy .ix s)

/-- `LD (nn),IY`, `FD 22 nn` (R363). -/
def exec_ld_at_nn_iy (s : State) : Host.Outcome State Fault Refusal := .next (ldAtNnXy .iy s)

/-- `LD IX,(nn)`, `DD 2A nn` (R364). -/
def exec_ld_ix_at_nn (s : State) : Host.Outcome State Fault Refusal := .next (ldXyAtNn .ix s)

/-- `LD IY,(nn)`, `FD 2A nn` (R364). -/
def exec_ld_iy_at_nn (s : State) : Host.Outcome State Fault Refusal := .next (ldXyAtNn .iy s)

/-- `LD SP,IX`, `DD F9` (R365). -/
def exec_ld_sp_ix (s : State) : Host.Outcome State Fault Refusal := .next (ldSpXy .ix s)

/-- `LD SP,IY`, `FD F9` (R365). -/
def exec_ld_sp_iy (s : State) : Host.Outcome State Fault Refusal := .next (ldSpXy .iy s)

/-- `PUSH IX`, `DD E5` (R366). -/
def exec_push_ix (s : State) : Host.Outcome State Fault Refusal := .next (pushXy .ix s)

/-- `PUSH IY`, `FD E5` (R366). -/
def exec_push_iy (s : State) : Host.Outcome State Fault Refusal := .next (pushXy .iy s)

/-- `POP IX`, `DD E1` (R367). -/
def exec_pop_ix (s : State) : Host.Outcome State Fault Refusal := .next (popXy .ix s)

/-- `POP IY`, `FD E1` (R367). -/
def exec_pop_iy (s : State) : Host.Outcome State Fault Refusal := .next (popXy .iy s)

/-- `EX (SP),IX`, `DD E3` (R368). -/
def exec_ex_at_sp_ix (s : State) : Host.Outcome State Fault Refusal := .next (exSpXy .ix s)

/-- `EX (SP),IY`, `FD E3` (R368). -/
def exec_ex_at_sp_iy (s : State) : Host.Outcome State Fault Refusal := .next (exSpXy .iy s)

/-- `JP (IX)`, `DD E9` (R369). -/
def exec_jp_at_ix (s : State) : Host.Outcome State Fault Refusal := .next (jpXy .ix s)

/-- `JP (IY)`, `FD E9` (R369). -/
def exec_jp_at_iy (s : State) : Host.Outcome State Fault Refusal := .next (jpXy .iy s)

/-- `ADD IX,BC`, `DD 09` (R370). -/
def exec_add_ix_bc (s : State) : Host.Outcome State Fault Refusal := .next (addXy .ix .bc s)

/-- `ADD IX,DE`, `DD 19` (R370). -/
def exec_add_ix_de (s : State) : Host.Outcome State Fault Refusal := .next (addXy .ix .de s)

/-- `ADD IX,IX`, `DD 29` (R370). -/
def exec_add_ix_ix (s : State) : Host.Outcome State Fault Refusal := .next (addXy .ix .hl s)

/-- `ADD IX,SP`, `DD 39` (R370). -/
def exec_add_ix_sp (s : State) : Host.Outcome State Fault Refusal := .next (addXy .ix .sp s)

/-- `ADD IY,BC`, `FD 09` (R370). -/
def exec_add_iy_bc (s : State) : Host.Outcome State Fault Refusal := .next (addXy .iy .bc s)

/-- `ADD IY,DE`, `FD 19` (R370). -/
def exec_add_iy_de (s : State) : Host.Outcome State Fault Refusal := .next (addXy .iy .de s)

/-- `ADD IY,IY`, `FD 29` (R370). -/
def exec_add_iy_iy (s : State) : Host.Outcome State Fault Refusal := .next (addXy .iy .hl s)

/-- `ADD IY,SP`, `FD 39` (R370). -/
def exec_add_iy_sp (s : State) : Host.Outcome State Fault Refusal := .next (addXy .iy .sp s)

/-- `INC IX`, `DD 23` (R371). -/
def exec_inc_ix (s : State) : Host.Outcome State Fault Refusal := .next (incXy .ix s)

/-- `INC IY`, `FD 23` (R371). -/
def exec_inc_iy (s : State) : Host.Outcome State Fault Refusal := .next (incXy .iy s)

/-- `DEC IX`, `DD 2B` (R372). -/
def exec_dec_ix (s : State) : Host.Outcome State Fault Refusal := .next (decXy .ix s)

/-- `DEC IY`, `FD 2B` (R372). -/
def exec_dec_iy (s : State) : Host.Outcome State Fault Refusal := .next (decXy .iy s)

/-- `LD B,(IX+d)`, `DD 46 d` (R373). -/
def exec_ld_b_at_ixd (s : State) : Host.Outcome State Fault Refusal := .next (ldRegXyd .ix .b s)

/-- `LD C,(IX+d)`, `DD 4E d` (R373). -/
def exec_ld_c_at_ixd (s : State) : Host.Outcome State Fault Refusal := .next (ldRegXyd .ix .c s)

/-- `LD D,(IX+d)`, `DD 56 d` (R373). -/
def exec_ld_d_at_ixd (s : State) : Host.Outcome State Fault Refusal := .next (ldRegXyd .ix .d s)

/-- `LD E,(IX+d)`, `DD 5E d` (R373). -/
def exec_ld_e_at_ixd (s : State) : Host.Outcome State Fault Refusal := .next (ldRegXyd .ix .e s)

/-- `LD H,(IX+d)`, `DD 66 d` (R373). -/
def exec_ld_h_at_ixd (s : State) : Host.Outcome State Fault Refusal := .next (ldRegXyd .ix .h s)

/-- `LD L,(IX+d)`, `DD 6E d` (R373). -/
def exec_ld_l_at_ixd (s : State) : Host.Outcome State Fault Refusal := .next (ldRegXyd .ix .l s)

/-- `LD A,(IX+d)`, `DD 7E d` (R373). -/
def exec_ld_a_at_ixd (s : State) : Host.Outcome State Fault Refusal := .next (ldRegXyd .ix .a s)

/-- `LD B,(IY+d)`, `FD 46 d` (R373). -/
def exec_ld_b_at_iyd (s : State) : Host.Outcome State Fault Refusal := .next (ldRegXyd .iy .b s)

/-- `LD C,(IY+d)`, `FD 4E d` (R373). -/
def exec_ld_c_at_iyd (s : State) : Host.Outcome State Fault Refusal := .next (ldRegXyd .iy .c s)

/-- `LD D,(IY+d)`, `FD 56 d` (R373). -/
def exec_ld_d_at_iyd (s : State) : Host.Outcome State Fault Refusal := .next (ldRegXyd .iy .d s)

/-- `LD E,(IY+d)`, `FD 5E d` (R373). -/
def exec_ld_e_at_iyd (s : State) : Host.Outcome State Fault Refusal := .next (ldRegXyd .iy .e s)

/-- `LD H,(IY+d)`, `FD 66 d` (R373). -/
def exec_ld_h_at_iyd (s : State) : Host.Outcome State Fault Refusal := .next (ldRegXyd .iy .h s)

/-- `LD L,(IY+d)`, `FD 6E d` (R373). -/
def exec_ld_l_at_iyd (s : State) : Host.Outcome State Fault Refusal := .next (ldRegXyd .iy .l s)

/-- `LD A,(IY+d)`, `FD 7E d` (R373). -/
def exec_ld_a_at_iyd (s : State) : Host.Outcome State Fault Refusal := .next (ldRegXyd .iy .a s)

/-- `LD (IX+d),B`, `DD 70 d` (R374). -/
def exec_ld_at_ixd_b (s : State) : Host.Outcome State Fault Refusal := .next (ldXydReg .ix .b s)

/-- `LD (IX+d),C`, `DD 71 d` (R374). -/
def exec_ld_at_ixd_c (s : State) : Host.Outcome State Fault Refusal := .next (ldXydReg .ix .c s)

/-- `LD (IX+d),D`, `DD 72 d` (R374). -/
def exec_ld_at_ixd_d (s : State) : Host.Outcome State Fault Refusal := .next (ldXydReg .ix .d s)

/-- `LD (IX+d),E`, `DD 73 d` (R374). -/
def exec_ld_at_ixd_e (s : State) : Host.Outcome State Fault Refusal := .next (ldXydReg .ix .e s)

/-- `LD (IX+d),H`, `DD 74 d` (R374). -/
def exec_ld_at_ixd_h (s : State) : Host.Outcome State Fault Refusal := .next (ldXydReg .ix .h s)

/-- `LD (IX+d),L`, `DD 75 d` (R374). -/
def exec_ld_at_ixd_l (s : State) : Host.Outcome State Fault Refusal := .next (ldXydReg .ix .l s)

/-- `LD (IX+d),A`, `DD 77 d` (R374). -/
def exec_ld_at_ixd_a (s : State) : Host.Outcome State Fault Refusal := .next (ldXydReg .ix .a s)

/-- `LD (IY+d),B`, `FD 70 d` (R374). -/
def exec_ld_at_iyd_b (s : State) : Host.Outcome State Fault Refusal := .next (ldXydReg .iy .b s)

/-- `LD (IY+d),C`, `FD 71 d` (R374). -/
def exec_ld_at_iyd_c (s : State) : Host.Outcome State Fault Refusal := .next (ldXydReg .iy .c s)

/-- `LD (IY+d),D`, `FD 72 d` (R374). -/
def exec_ld_at_iyd_d (s : State) : Host.Outcome State Fault Refusal := .next (ldXydReg .iy .d s)

/-- `LD (IY+d),E`, `FD 73 d` (R374). -/
def exec_ld_at_iyd_e (s : State) : Host.Outcome State Fault Refusal := .next (ldXydReg .iy .e s)

/-- `LD (IY+d),H`, `FD 74 d` (R374). -/
def exec_ld_at_iyd_h (s : State) : Host.Outcome State Fault Refusal := .next (ldXydReg .iy .h s)

/-- `LD (IY+d),L`, `FD 75 d` (R374). -/
def exec_ld_at_iyd_l (s : State) : Host.Outcome State Fault Refusal := .next (ldXydReg .iy .l s)

/-- `LD (IY+d),A`, `FD 77 d` (R374). -/
def exec_ld_at_iyd_a (s : State) : Host.Outcome State Fault Refusal := .next (ldXydReg .iy .a s)

/-- `LD (IX+d),n`, `DD 36 d n` (R375). -/
def exec_ld_at_ixd_n (s : State) : Host.Outcome State Fault Refusal := .next (ldXydImm .ix s)

/-- `LD (IY+d),n`, `FD 36 d n` (R375). -/
def exec_ld_at_iyd_n (s : State) : Host.Outcome State Fault Refusal := .next (ldXydImm .iy s)

/-- `INC (IX+d)`, `DD 34 d` (R376). -/
def exec_inc_at_ixd (s : State) : Host.Outcome State Fault Refusal := .next (incXyd .ix s)

/-- `INC (IY+d)`, `FD 34 d` (R376). -/
def exec_inc_at_iyd (s : State) : Host.Outcome State Fault Refusal := .next (incXyd .iy s)

/-- `DEC (IX+d)`, `DD 35 d` (R377). -/
def exec_dec_at_ixd (s : State) : Host.Outcome State Fault Refusal := .next (decXyd .ix s)

/-- `DEC (IY+d)`, `FD 35 d` (R377). -/
def exec_dec_at_iyd (s : State) : Host.Outcome State Fault Refusal := .next (decXyd .iy s)

/-- `ADD A,(IX+d)`, `DD 86 d` (R378). -/
def exec_add_a_at_ixd (s : State) : Host.Outcome State Fault Refusal := .next (aluXyd .ix .add s)

/-- `ADC A,(IX+d)`, `DD 8E d` (R378). -/
def exec_adc_a_at_ixd (s : State) : Host.Outcome State Fault Refusal := .next (aluXyd .ix .adc s)

/-- `SUB (IX+d)`, `DD 96 d` (R378). -/
def exec_sub_at_ixd (s : State) : Host.Outcome State Fault Refusal := .next (aluXyd .ix .sub s)

/-- `SBC A,(IX+d)`, `DD 9E d` (R378). -/
def exec_sbc_a_at_ixd (s : State) : Host.Outcome State Fault Refusal := .next (aluXyd .ix .sbc s)

/-- `AND (IX+d)`, `DD A6 d` (R378). -/
def exec_and_at_ixd (s : State) : Host.Outcome State Fault Refusal := .next (aluXyd .ix .and s)

/-- `XOR (IX+d)`, `DD AE d` (R378). -/
def exec_xor_at_ixd (s : State) : Host.Outcome State Fault Refusal := .next (aluXyd .ix .xor s)

/-- `OR (IX+d)`, `DD B6 d` (R378). -/
def exec_or_at_ixd (s : State) : Host.Outcome State Fault Refusal := .next (aluXyd .ix .or s)

/-- `CP (IX+d)`, `DD BE d` (R378). -/
def exec_cp_at_ixd (s : State) : Host.Outcome State Fault Refusal := .next (aluXyd .ix .cp s)

/-- `ADD A,(IY+d)`, `FD 86 d` (R378). -/
def exec_add_a_at_iyd (s : State) : Host.Outcome State Fault Refusal := .next (aluXyd .iy .add s)

/-- `ADC A,(IY+d)`, `FD 8E d` (R378). -/
def exec_adc_a_at_iyd (s : State) : Host.Outcome State Fault Refusal := .next (aluXyd .iy .adc s)

/-- `SUB (IY+d)`, `FD 96 d` (R378). -/
def exec_sub_at_iyd (s : State) : Host.Outcome State Fault Refusal := .next (aluXyd .iy .sub s)

/-- `SBC A,(IY+d)`, `FD 9E d` (R378). -/
def exec_sbc_a_at_iyd (s : State) : Host.Outcome State Fault Refusal := .next (aluXyd .iy .sbc s)

/-- `AND (IY+d)`, `FD A6 d` (R378). -/
def exec_and_at_iyd (s : State) : Host.Outcome State Fault Refusal := .next (aluXyd .iy .and s)

/-- `XOR (IY+d)`, `FD AE d` (R378). -/
def exec_xor_at_iyd (s : State) : Host.Outcome State Fault Refusal := .next (aluXyd .iy .xor s)

/-- `OR (IY+d)`, `FD B6 d` (R378). -/
def exec_or_at_iyd (s : State) : Host.Outcome State Fault Refusal := .next (aluXyd .iy .or s)

/-- `CP (IY+d)`, `FD BE d` (R378). -/
def exec_cp_at_iyd (s : State) : Host.Outcome State Fault Refusal := .next (aluXyd .iy .cp s)

/-- `LD IXH,n`, `DD 26 n` (R379). -/
def exec_ld_ixh_n (s : State) : Host.Outcome State Fault Refusal := .next (ldHalfImm .ix .high s)

/-- `LD IXL,n`, `DD 2E n` (R379). -/
def exec_ld_ixl_n (s : State) : Host.Outcome State Fault Refusal := .next (ldHalfImm .ix .low s)

/-- `LD IYH,n`, `FD 26 n` (R379). -/
def exec_ld_iyh_n (s : State) : Host.Outcome State Fault Refusal := .next (ldHalfImm .iy .high s)

/-- `LD IYL,n`, `FD 2E n` (R379). -/
def exec_ld_iyl_n (s : State) : Host.Outcome State Fault Refusal := .next (ldHalfImm .iy .low s)

/-- `LD B,IXH`, `DD 44` (R379). -/
def exec_ld_b_ixh (s : State) : Host.Outcome State Fault Refusal := .next (ldRegHalf .ix .b .high s)

/-- `LD B,IXL`, `DD 45` (R379). -/
def exec_ld_b_ixl (s : State) : Host.Outcome State Fault Refusal := .next (ldRegHalf .ix .b .low s)

/-- `LD C,IXH`, `DD 4C` (R379). -/
def exec_ld_c_ixh (s : State) : Host.Outcome State Fault Refusal := .next (ldRegHalf .ix .c .high s)

/-- `LD C,IXL`, `DD 4D` (R379). -/
def exec_ld_c_ixl (s : State) : Host.Outcome State Fault Refusal := .next (ldRegHalf .ix .c .low s)

/-- `LD D,IXH`, `DD 54` (R379). -/
def exec_ld_d_ixh (s : State) : Host.Outcome State Fault Refusal := .next (ldRegHalf .ix .d .high s)

/-- `LD D,IXL`, `DD 55` (R379). -/
def exec_ld_d_ixl (s : State) : Host.Outcome State Fault Refusal := .next (ldRegHalf .ix .d .low s)

/-- `LD E,IXH`, `DD 5C` (R379). -/
def exec_ld_e_ixh (s : State) : Host.Outcome State Fault Refusal := .next (ldRegHalf .ix .e .high s)

/-- `LD E,IXL`, `DD 5D` (R379). -/
def exec_ld_e_ixl (s : State) : Host.Outcome State Fault Refusal := .next (ldRegHalf .ix .e .low s)

/-- `LD A,IXH`, `DD 7C` (R379). -/
def exec_ld_a_ixh (s : State) : Host.Outcome State Fault Refusal := .next (ldRegHalf .ix .a .high s)

/-- `LD A,IXL`, `DD 7D` (R379). -/
def exec_ld_a_ixl (s : State) : Host.Outcome State Fault Refusal := .next (ldRegHalf .ix .a .low s)

/-- `LD B,IYH`, `FD 44` (R379). -/
def exec_ld_b_iyh (s : State) : Host.Outcome State Fault Refusal := .next (ldRegHalf .iy .b .high s)

/-- `LD B,IYL`, `FD 45` (R379). -/
def exec_ld_b_iyl (s : State) : Host.Outcome State Fault Refusal := .next (ldRegHalf .iy .b .low s)

/-- `LD C,IYH`, `FD 4C` (R379). -/
def exec_ld_c_iyh (s : State) : Host.Outcome State Fault Refusal := .next (ldRegHalf .iy .c .high s)

/-- `LD C,IYL`, `FD 4D` (R379). -/
def exec_ld_c_iyl (s : State) : Host.Outcome State Fault Refusal := .next (ldRegHalf .iy .c .low s)

/-- `LD D,IYH`, `FD 54` (R379). -/
def exec_ld_d_iyh (s : State) : Host.Outcome State Fault Refusal := .next (ldRegHalf .iy .d .high s)

/-- `LD D,IYL`, `FD 55` (R379). -/
def exec_ld_d_iyl (s : State) : Host.Outcome State Fault Refusal := .next (ldRegHalf .iy .d .low s)

/-- `LD E,IYH`, `FD 5C` (R379). -/
def exec_ld_e_iyh (s : State) : Host.Outcome State Fault Refusal := .next (ldRegHalf .iy .e .high s)

/-- `LD E,IYL`, `FD 5D` (R379). -/
def exec_ld_e_iyl (s : State) : Host.Outcome State Fault Refusal := .next (ldRegHalf .iy .e .low s)

/-- `LD A,IYH`, `FD 7C` (R379). -/
def exec_ld_a_iyh (s : State) : Host.Outcome State Fault Refusal := .next (ldRegHalf .iy .a .high s)

/-- `LD A,IYL`, `FD 7D` (R379). -/
def exec_ld_a_iyl (s : State) : Host.Outcome State Fault Refusal := .next (ldRegHalf .iy .a .low s)

/-- `LD IXH,B`, `DD 60` (R379). -/
def exec_ld_ixh_b (s : State) : Host.Outcome State Fault Refusal := .next (ldHalfReg .ix .high .b s)

/-- `LD IXH,C`, `DD 61` (R379). -/
def exec_ld_ixh_c (s : State) : Host.Outcome State Fault Refusal := .next (ldHalfReg .ix .high .c s)

/-- `LD IXH,D`, `DD 62` (R379). -/
def exec_ld_ixh_d (s : State) : Host.Outcome State Fault Refusal := .next (ldHalfReg .ix .high .d s)

/-- `LD IXH,E`, `DD 63` (R379). -/
def exec_ld_ixh_e (s : State) : Host.Outcome State Fault Refusal := .next (ldHalfReg .ix .high .e s)

/-- `LD IXH,A`, `DD 67` (R379). -/
def exec_ld_ixh_a (s : State) : Host.Outcome State Fault Refusal := .next (ldHalfReg .ix .high .a s)

/-- `LD IXL,B`, `DD 68` (R379). -/
def exec_ld_ixl_b (s : State) : Host.Outcome State Fault Refusal := .next (ldHalfReg .ix .low .b s)

/-- `LD IXL,C`, `DD 69` (R379). -/
def exec_ld_ixl_c (s : State) : Host.Outcome State Fault Refusal := .next (ldHalfReg .ix .low .c s)

/-- `LD IXL,D`, `DD 6A` (R379). -/
def exec_ld_ixl_d (s : State) : Host.Outcome State Fault Refusal := .next (ldHalfReg .ix .low .d s)

/-- `LD IXL,E`, `DD 6B` (R379). -/
def exec_ld_ixl_e (s : State) : Host.Outcome State Fault Refusal := .next (ldHalfReg .ix .low .e s)

/-- `LD IXL,A`, `DD 6F` (R379). -/
def exec_ld_ixl_a (s : State) : Host.Outcome State Fault Refusal := .next (ldHalfReg .ix .low .a s)

/-- `LD IYH,B`, `FD 60` (R379). -/
def exec_ld_iyh_b (s : State) : Host.Outcome State Fault Refusal := .next (ldHalfReg .iy .high .b s)

/-- `LD IYH,C`, `FD 61` (R379). -/
def exec_ld_iyh_c (s : State) : Host.Outcome State Fault Refusal := .next (ldHalfReg .iy .high .c s)

/-- `LD IYH,D`, `FD 62` (R379). -/
def exec_ld_iyh_d (s : State) : Host.Outcome State Fault Refusal := .next (ldHalfReg .iy .high .d s)

/-- `LD IYH,E`, `FD 63` (R379). -/
def exec_ld_iyh_e (s : State) : Host.Outcome State Fault Refusal := .next (ldHalfReg .iy .high .e s)

/-- `LD IYH,A`, `FD 67` (R379). -/
def exec_ld_iyh_a (s : State) : Host.Outcome State Fault Refusal := .next (ldHalfReg .iy .high .a s)

/-- `LD IYL,B`, `FD 68` (R379). -/
def exec_ld_iyl_b (s : State) : Host.Outcome State Fault Refusal := .next (ldHalfReg .iy .low .b s)

/-- `LD IYL,C`, `FD 69` (R379). -/
def exec_ld_iyl_c (s : State) : Host.Outcome State Fault Refusal := .next (ldHalfReg .iy .low .c s)

/-- `LD IYL,D`, `FD 6A` (R379). -/
def exec_ld_iyl_d (s : State) : Host.Outcome State Fault Refusal := .next (ldHalfReg .iy .low .d s)

/-- `LD IYL,E`, `FD 6B` (R379). -/
def exec_ld_iyl_e (s : State) : Host.Outcome State Fault Refusal := .next (ldHalfReg .iy .low .e s)

/-- `LD IYL,A`, `FD 6F` (R379). -/
def exec_ld_iyl_a (s : State) : Host.Outcome State Fault Refusal := .next (ldHalfReg .iy .low .a s)

/-- `LD IXH,IXH`, `DD 64` (R379). -/
def exec_ld_ixh_ixh (s : State) : Host.Outcome State Fault Refusal := .next (ldHalfHalf .ix .high .high s)

/-- `LD IXH,IXL`, `DD 65` (R379). -/
def exec_ld_ixh_ixl (s : State) : Host.Outcome State Fault Refusal := .next (ldHalfHalf .ix .high .low s)

/-- `LD IXL,IXH`, `DD 6C` (R379). -/
def exec_ld_ixl_ixh (s : State) : Host.Outcome State Fault Refusal := .next (ldHalfHalf .ix .low .high s)

/-- `LD IXL,IXL`, `DD 6D` (R379). -/
def exec_ld_ixl_ixl (s : State) : Host.Outcome State Fault Refusal := .next (ldHalfHalf .ix .low .low s)

/-- `LD IYH,IYH`, `FD 64` (R379). -/
def exec_ld_iyh_iyh (s : State) : Host.Outcome State Fault Refusal := .next (ldHalfHalf .iy .high .high s)

/-- `LD IYH,IYL`, `FD 65` (R379). -/
def exec_ld_iyh_iyl (s : State) : Host.Outcome State Fault Refusal := .next (ldHalfHalf .iy .high .low s)

/-- `LD IYL,IYH`, `FD 6C` (R379). -/
def exec_ld_iyl_iyh (s : State) : Host.Outcome State Fault Refusal := .next (ldHalfHalf .iy .low .high s)

/-- `LD IYL,IYL`, `FD 6D` (R379). -/
def exec_ld_iyl_iyl (s : State) : Host.Outcome State Fault Refusal := .next (ldHalfHalf .iy .low .low s)

/-- `INC IXH`, `DD 24` (R380). -/
def exec_inc_ixh (s : State) : Host.Outcome State Fault Refusal := .next (incHalf .ix .high s)

/-- `INC IXL`, `DD 2C` (R380). -/
def exec_inc_ixl (s : State) : Host.Outcome State Fault Refusal := .next (incHalf .ix .low s)

/-- `INC IYH`, `FD 24` (R380). -/
def exec_inc_iyh (s : State) : Host.Outcome State Fault Refusal := .next (incHalf .iy .high s)

/-- `INC IYL`, `FD 2C` (R380). -/
def exec_inc_iyl (s : State) : Host.Outcome State Fault Refusal := .next (incHalf .iy .low s)

/-- `DEC IXH`, `DD 25` (R380). -/
def exec_dec_ixh (s : State) : Host.Outcome State Fault Refusal := .next (decHalf .ix .high s)

/-- `DEC IXL`, `DD 2D` (R380). -/
def exec_dec_ixl (s : State) : Host.Outcome State Fault Refusal := .next (decHalf .ix .low s)

/-- `DEC IYH`, `FD 25` (R380). -/
def exec_dec_iyh (s : State) : Host.Outcome State Fault Refusal := .next (decHalf .iy .high s)

/-- `DEC IYL`, `FD 2D` (R380). -/
def exec_dec_iyl (s : State) : Host.Outcome State Fault Refusal := .next (decHalf .iy .low s)

/-- `ADD A,IXH`, `DD 84` (R381). -/
def exec_add_a_ixh (s : State) : Host.Outcome State Fault Refusal := .next (aluHalf .ix .add .high s)

/-- `ADD A,IXL`, `DD 85` (R381). -/
def exec_add_a_ixl (s : State) : Host.Outcome State Fault Refusal := .next (aluHalf .ix .add .low s)

/-- `ADC A,IXH`, `DD 8C` (R381). -/
def exec_adc_a_ixh (s : State) : Host.Outcome State Fault Refusal := .next (aluHalf .ix .adc .high s)

/-- `ADC A,IXL`, `DD 8D` (R381). -/
def exec_adc_a_ixl (s : State) : Host.Outcome State Fault Refusal := .next (aluHalf .ix .adc .low s)

/-- `SUB IXH`, `DD 94` (R381). -/
def exec_sub_ixh (s : State) : Host.Outcome State Fault Refusal := .next (aluHalf .ix .sub .high s)

/-- `SUB IXL`, `DD 95` (R381). -/
def exec_sub_ixl (s : State) : Host.Outcome State Fault Refusal := .next (aluHalf .ix .sub .low s)

/-- `SBC A,IXH`, `DD 9C` (R381). -/
def exec_sbc_a_ixh (s : State) : Host.Outcome State Fault Refusal := .next (aluHalf .ix .sbc .high s)

/-- `SBC A,IXL`, `DD 9D` (R381). -/
def exec_sbc_a_ixl (s : State) : Host.Outcome State Fault Refusal := .next (aluHalf .ix .sbc .low s)

/-- `AND IXH`, `DD A4` (R381). -/
def exec_and_ixh (s : State) : Host.Outcome State Fault Refusal := .next (aluHalf .ix .and .high s)

/-- `AND IXL`, `DD A5` (R381). -/
def exec_and_ixl (s : State) : Host.Outcome State Fault Refusal := .next (aluHalf .ix .and .low s)

/-- `XOR IXH`, `DD AC` (R381). -/
def exec_xor_ixh (s : State) : Host.Outcome State Fault Refusal := .next (aluHalf .ix .xor .high s)

/-- `XOR IXL`, `DD AD` (R381). -/
def exec_xor_ixl (s : State) : Host.Outcome State Fault Refusal := .next (aluHalf .ix .xor .low s)

/-- `OR IXH`, `DD B4` (R381). -/
def exec_or_ixh (s : State) : Host.Outcome State Fault Refusal := .next (aluHalf .ix .or .high s)

/-- `OR IXL`, `DD B5` (R381). -/
def exec_or_ixl (s : State) : Host.Outcome State Fault Refusal := .next (aluHalf .ix .or .low s)

/-- `CP IXH`, `DD BC` (R381). -/
def exec_cp_ixh (s : State) : Host.Outcome State Fault Refusal := .next (aluHalf .ix .cp .high s)

/-- `CP IXL`, `DD BD` (R381). -/
def exec_cp_ixl (s : State) : Host.Outcome State Fault Refusal := .next (aluHalf .ix .cp .low s)

/-- `ADD A,IYH`, `FD 84` (R381). -/
def exec_add_a_iyh (s : State) : Host.Outcome State Fault Refusal := .next (aluHalf .iy .add .high s)

/-- `ADD A,IYL`, `FD 85` (R381). -/
def exec_add_a_iyl (s : State) : Host.Outcome State Fault Refusal := .next (aluHalf .iy .add .low s)

/-- `ADC A,IYH`, `FD 8C` (R381). -/
def exec_adc_a_iyh (s : State) : Host.Outcome State Fault Refusal := .next (aluHalf .iy .adc .high s)

/-- `ADC A,IYL`, `FD 8D` (R381). -/
def exec_adc_a_iyl (s : State) : Host.Outcome State Fault Refusal := .next (aluHalf .iy .adc .low s)

/-- `SUB IYH`, `FD 94` (R381). -/
def exec_sub_iyh (s : State) : Host.Outcome State Fault Refusal := .next (aluHalf .iy .sub .high s)

/-- `SUB IYL`, `FD 95` (R381). -/
def exec_sub_iyl (s : State) : Host.Outcome State Fault Refusal := .next (aluHalf .iy .sub .low s)

/-- `SBC A,IYH`, `FD 9C` (R381). -/
def exec_sbc_a_iyh (s : State) : Host.Outcome State Fault Refusal := .next (aluHalf .iy .sbc .high s)

/-- `SBC A,IYL`, `FD 9D` (R381). -/
def exec_sbc_a_iyl (s : State) : Host.Outcome State Fault Refusal := .next (aluHalf .iy .sbc .low s)

/-- `AND IYH`, `FD A4` (R381). -/
def exec_and_iyh (s : State) : Host.Outcome State Fault Refusal := .next (aluHalf .iy .and .high s)

/-- `AND IYL`, `FD A5` (R381). -/
def exec_and_iyl (s : State) : Host.Outcome State Fault Refusal := .next (aluHalf .iy .and .low s)

/-- `XOR IYH`, `FD AC` (R381). -/
def exec_xor_iyh (s : State) : Host.Outcome State Fault Refusal := .next (aluHalf .iy .xor .high s)

/-- `XOR IYL`, `FD AD` (R381). -/
def exec_xor_iyl (s : State) : Host.Outcome State Fault Refusal := .next (aluHalf .iy .xor .low s)

/-- `OR IYH`, `FD B4` (R381). -/
def exec_or_iyh (s : State) : Host.Outcome State Fault Refusal := .next (aluHalf .iy .or .high s)

/-- `OR IYL`, `FD B5` (R381). -/
def exec_or_iyl (s : State) : Host.Outcome State Fault Refusal := .next (aluHalf .iy .or .low s)

/-- `CP IYH`, `FD BC` (R381). -/
def exec_cp_iyh (s : State) : Host.Outcome State Fault Refusal := .next (aluHalf .iy .cp .high s)

/-- `CP IYL`, `FD BD` (R381). -/
def exec_cp_iyl (s : State) : Host.Outcome State Fault Refusal := .next (aluHalf .iy .cp .low s)

end Sys2Proof.Machine
end

