-- ==== Sys2Proof/Machine/IndexedBit.lean ====
section
/-! DEFINITION. The indexed bit table (47_cb_bit.md R433, R434): the cycle of R166 has read the displacement into `disp` and
the opcode; one shared operation per form, then the meaning of each instruction over it. -/

namespace Sys2Proof.Machine

/-- `ea` of R433 and R434, from the displacement the cycle has read. -/
def State.bitAddress (s : State) (x : XY) : Word := s.effective x s.disp

/-- The first line of R433 and R434: `WZ <- ea`. -/
def State.atDisplacement (s : State) (x : XY) : State := s.setWz (s.bitAddress x)

/-- R433, rotates and shifts, `z = 6`. -/
def rotXyd (x : XY) (k : RotOp) (s : State) : State := (s.atDisplacement x).rotMem k (s.bitAddress x) s.cfg.tact.modifyXyd

/-- R433, rotates and shifts with the copy to a register. -/
def rotXydCopy (x : XY) (k : RotOp) (r : Reg8) (s : State) : State :=
  (rotXyd x k s).setReg r (rotResult k (carryOf s.regs.f) (s.byteAt (s.bitAddress x)))

/-- R434: bits 5 and 3 from `W`, which is now `hi(ea)`. -/
def bitXyd (x : XY) (b : BitNo) (s : State) : State :=
  let ea := s.bitAddress x
  ((s.atDisplacement x).rdModify ea s.cfg.tact.bitXyd).setF (bitFlags s.regs.f b (s.byteAt ea) (highByte ea))

/-- R433 with R431, `z = 6`. -/
def resXyd (x : XY) (b : BitNo) (s : State) : State :=
  let ea := s.bitAddress x
  ((s.atDisplacement x).rdModify ea s.cfg.tact.modifyXyd).wr ea (resBit b (s.byteAt ea))

/-- R433 with R431 and the copy to a register. -/
def resXydCopy (x : XY) (b : BitNo) (r : Reg8) (s : State) : State :=
  (resXyd x b s).setReg r (resBit b (s.byteAt (s.bitAddress x)))

/-- R433 with R432, `z = 6`. -/
def setXyd (x : XY) (b : BitNo) (s : State) : State :=
  let ea := s.bitAddress x
  ((s.atDisplacement x).rdModify ea s.cfg.tact.modifyXyd).wr ea (setBit b (s.byteAt ea))

/-- R433 with R432 and the copy to a register. -/
def setXydCopy (x : XY) (b : BitNo) (r : Reg8) (s : State) : State :=
  (setXyd x b s).setReg r (setBit b (s.byteAt (s.bitAddress x)))

/-! ## The meaning of each instruction -/

/-- `RLC (IX+d)`, `DD CB d 06` (R433). -/
def exec_rlc_at_ixd (s : State) : Host.Outcome State Fault Refusal := .next (rotXyd .ix .rlc s)

/-- `RRC (IX+d)`, `DD CB d 0E` (R433). -/
def exec_rrc_at_ixd (s : State) : Host.Outcome State Fault Refusal := .next (rotXyd .ix .rrc s)

/-- `RL (IX+d)`, `DD CB d 16` (R433). -/
def exec_rl_at_ixd (s : State) : Host.Outcome State Fault Refusal := .next (rotXyd .ix .rl s)

/-- `RR (IX+d)`, `DD CB d 1E` (R433). -/
def exec_rr_at_ixd (s : State) : Host.Outcome State Fault Refusal := .next (rotXyd .ix .rr s)

/-- `SLA (IX+d)`, `DD CB d 26` (R433). -/
def exec_sla_at_ixd (s : State) : Host.Outcome State Fault Refusal := .next (rotXyd .ix .sla s)

/-- `SRA (IX+d)`, `DD CB d 2E` (R433). -/
def exec_sra_at_ixd (s : State) : Host.Outcome State Fault Refusal := .next (rotXyd .ix .sra s)

/-- `SLL (IX+d)`, `DD CB d 36` (R433). -/
def exec_sll_at_ixd (s : State) : Host.Outcome State Fault Refusal := .next (rotXyd .ix .sll s)

/-- `SRL (IX+d)`, `DD CB d 3E` (R433). -/
def exec_srl_at_ixd (s : State) : Host.Outcome State Fault Refusal := .next (rotXyd .ix .srl s)

/-- `RLC (IY+d)`, `FD CB d 06` (R433). -/
def exec_rlc_at_iyd (s : State) : Host.Outcome State Fault Refusal := .next (rotXyd .iy .rlc s)

/-- `RRC (IY+d)`, `FD CB d 0E` (R433). -/
def exec_rrc_at_iyd (s : State) : Host.Outcome State Fault Refusal := .next (rotXyd .iy .rrc s)

/-- `RL (IY+d)`, `FD CB d 16` (R433). -/
def exec_rl_at_iyd (s : State) : Host.Outcome State Fault Refusal := .next (rotXyd .iy .rl s)

/-- `RR (IY+d)`, `FD CB d 1E` (R433). -/
def exec_rr_at_iyd (s : State) : Host.Outcome State Fault Refusal := .next (rotXyd .iy .rr s)

/-- `SLA (IY+d)`, `FD CB d 26` (R433). -/
def exec_sla_at_iyd (s : State) : Host.Outcome State Fault Refusal := .next (rotXyd .iy .sla s)

/-- `SRA (IY+d)`, `FD CB d 2E` (R433). -/
def exec_sra_at_iyd (s : State) : Host.Outcome State Fault Refusal := .next (rotXyd .iy .sra s)

/-- `SLL (IY+d)`, `FD CB d 36` (R433). -/
def exec_sll_at_iyd (s : State) : Host.Outcome State Fault Refusal := .next (rotXyd .iy .sll s)

/-- `SRL (IY+d)`, `FD CB d 3E` (R433). -/
def exec_srl_at_iyd (s : State) : Host.Outcome State Fault Refusal := .next (rotXyd .iy .srl s)

/-- `RLC (IX+d),B`, `DD CB d 00` (R433). -/
def exec_rlc_at_ixd_b (s : State) : Host.Outcome State Fault Refusal := .next (rotXydCopy .ix .rlc .b s)

/-- `RLC (IX+d),C`, `DD CB d 01` (R433). -/
def exec_rlc_at_ixd_c (s : State) : Host.Outcome State Fault Refusal := .next (rotXydCopy .ix .rlc .c s)

/-- `RLC (IX+d),D`, `DD CB d 02` (R433). -/
def exec_rlc_at_ixd_d (s : State) : Host.Outcome State Fault Refusal := .next (rotXydCopy .ix .rlc .d s)

/-- `RLC (IX+d),E`, `DD CB d 03` (R433). -/
def exec_rlc_at_ixd_e (s : State) : Host.Outcome State Fault Refusal := .next (rotXydCopy .ix .rlc .e s)

/-- `RLC (IX+d),H`, `DD CB d 04` (R433). -/
def exec_rlc_at_ixd_h (s : State) : Host.Outcome State Fault Refusal := .next (rotXydCopy .ix .rlc .h s)

/-- `RLC (IX+d),L`, `DD CB d 05` (R433). -/
def exec_rlc_at_ixd_l (s : State) : Host.Outcome State Fault Refusal := .next (rotXydCopy .ix .rlc .l s)

/-- `RLC (IX+d),A`, `DD CB d 07` (R433). -/
def exec_rlc_at_ixd_a (s : State) : Host.Outcome State Fault Refusal := .next (rotXydCopy .ix .rlc .a s)

/-- `RRC (IX+d),B`, `DD CB d 08` (R433). -/
def exec_rrc_at_ixd_b (s : State) : Host.Outcome State Fault Refusal := .next (rotXydCopy .ix .rrc .b s)

/-- `RRC (IX+d),C`, `DD CB d 09` (R433). -/
def exec_rrc_at_ixd_c (s : State) : Host.Outcome State Fault Refusal := .next (rotXydCopy .ix .rrc .c s)

/-- `RRC (IX+d),D`, `DD CB d 0A` (R433). -/
def exec_rrc_at_ixd_d (s : State) : Host.Outcome State Fault Refusal := .next (rotXydCopy .ix .rrc .d s)

/-- `RRC (IX+d),E`, `DD CB d 0B` (R433). -/
def exec_rrc_at_ixd_e (s : State) : Host.Outcome State Fault Refusal := .next (rotXydCopy .ix .rrc .e s)

/-- `RRC (IX+d),H`, `DD CB d 0C` (R433). -/
def exec_rrc_at_ixd_h (s : State) : Host.Outcome State Fault Refusal := .next (rotXydCopy .ix .rrc .h s)

/-- `RRC (IX+d),L`, `DD CB d 0D` (R433). -/
def exec_rrc_at_ixd_l (s : State) : Host.Outcome State Fault Refusal := .next (rotXydCopy .ix .rrc .l s)

/-- `RRC (IX+d),A`, `DD CB d 0F` (R433). -/
def exec_rrc_at_ixd_a (s : State) : Host.Outcome State Fault Refusal := .next (rotXydCopy .ix .rrc .a s)

/-- `RL (IX+d),B`, `DD CB d 10` (R433). -/
def exec_rl_at_ixd_b (s : State) : Host.Outcome State Fault Refusal := .next (rotXydCopy .ix .rl .b s)

/-- `RL (IX+d),C`, `DD CB d 11` (R433). -/
def exec_rl_at_ixd_c (s : State) : Host.Outcome State Fault Refusal := .next (rotXydCopy .ix .rl .c s)

/-- `RL (IX+d),D`, `DD CB d 12` (R433). -/
def exec_rl_at_ixd_d (s : State) : Host.Outcome State Fault Refusal := .next (rotXydCopy .ix .rl .d s)

/-- `RL (IX+d),E`, `DD CB d 13` (R433). -/
def exec_rl_at_ixd_e (s : State) : Host.Outcome State Fault Refusal := .next (rotXydCopy .ix .rl .e s)

/-- `RL (IX+d),H`, `DD CB d 14` (R433). -/
def exec_rl_at_ixd_h (s : State) : Host.Outcome State Fault Refusal := .next (rotXydCopy .ix .rl .h s)

/-- `RL (IX+d),L`, `DD CB d 15` (R433). -/
def exec_rl_at_ixd_l (s : State) : Host.Outcome State Fault Refusal := .next (rotXydCopy .ix .rl .l s)

/-- `RL (IX+d),A`, `DD CB d 17` (R433). -/
def exec_rl_at_ixd_a (s : State) : Host.Outcome State Fault Refusal := .next (rotXydCopy .ix .rl .a s)

/-- `RR (IX+d),B`, `DD CB d 18` (R433). -/
def exec_rr_at_ixd_b (s : State) : Host.Outcome State Fault Refusal := .next (rotXydCopy .ix .rr .b s)

/-- `RR (IX+d),C`, `DD CB d 19` (R433). -/
def exec_rr_at_ixd_c (s : State) : Host.Outcome State Fault Refusal := .next (rotXydCopy .ix .rr .c s)

/-- `RR (IX+d),D`, `DD CB d 1A` (R433). -/
def exec_rr_at_ixd_d (s : State) : Host.Outcome State Fault Refusal := .next (rotXydCopy .ix .rr .d s)

/-- `RR (IX+d),E`, `DD CB d 1B` (R433). -/
def exec_rr_at_ixd_e (s : State) : Host.Outcome State Fault Refusal := .next (rotXydCopy .ix .rr .e s)

/-- `RR (IX+d),H`, `DD CB d 1C` (R433). -/
def exec_rr_at_ixd_h (s : State) : Host.Outcome State Fault Refusal := .next (rotXydCopy .ix .rr .h s)

/-- `RR (IX+d),L`, `DD CB d 1D` (R433). -/
def exec_rr_at_ixd_l (s : State) : Host.Outcome State Fault Refusal := .next (rotXydCopy .ix .rr .l s)

/-- `RR (IX+d),A`, `DD CB d 1F` (R433). -/
def exec_rr_at_ixd_a (s : State) : Host.Outcome State Fault Refusal := .next (rotXydCopy .ix .rr .a s)

/-- `SLA (IX+d),B`, `DD CB d 20` (R433). -/
def exec_sla_at_ixd_b (s : State) : Host.Outcome State Fault Refusal := .next (rotXydCopy .ix .sla .b s)

/-- `SLA (IX+d),C`, `DD CB d 21` (R433). -/
def exec_sla_at_ixd_c (s : State) : Host.Outcome State Fault Refusal := .next (rotXydCopy .ix .sla .c s)

/-- `SLA (IX+d),D`, `DD CB d 22` (R433). -/
def exec_sla_at_ixd_d (s : State) : Host.Outcome State Fault Refusal := .next (rotXydCopy .ix .sla .d s)

/-- `SLA (IX+d),E`, `DD CB d 23` (R433). -/
def exec_sla_at_ixd_e (s : State) : Host.Outcome State Fault Refusal := .next (rotXydCopy .ix .sla .e s)

/-- `SLA (IX+d),H`, `DD CB d 24` (R433). -/
def exec_sla_at_ixd_h (s : State) : Host.Outcome State Fault Refusal := .next (rotXydCopy .ix .sla .h s)

/-- `SLA (IX+d),L`, `DD CB d 25` (R433). -/
def exec_sla_at_ixd_l (s : State) : Host.Outcome State Fault Refusal := .next (rotXydCopy .ix .sla .l s)

/-- `SLA (IX+d),A`, `DD CB d 27` (R433). -/
def exec_sla_at_ixd_a (s : State) : Host.Outcome State Fault Refusal := .next (rotXydCopy .ix .sla .a s)

/-- `SRA (IX+d),B`, `DD CB d 28` (R433). -/
def exec_sra_at_ixd_b (s : State) : Host.Outcome State Fault Refusal := .next (rotXydCopy .ix .sra .b s)

/-- `SRA (IX+d),C`, `DD CB d 29` (R433). -/
def exec_sra_at_ixd_c (s : State) : Host.Outcome State Fault Refusal := .next (rotXydCopy .ix .sra .c s)

/-- `SRA (IX+d),D`, `DD CB d 2A` (R433). -/
def exec_sra_at_ixd_d (s : State) : Host.Outcome State Fault Refusal := .next (rotXydCopy .ix .sra .d s)

/-- `SRA (IX+d),E`, `DD CB d 2B` (R433). -/
def exec_sra_at_ixd_e (s : State) : Host.Outcome State Fault Refusal := .next (rotXydCopy .ix .sra .e s)

/-- `SRA (IX+d),H`, `DD CB d 2C` (R433). -/
def exec_sra_at_ixd_h (s : State) : Host.Outcome State Fault Refusal := .next (rotXydCopy .ix .sra .h s)

/-- `SRA (IX+d),L`, `DD CB d 2D` (R433). -/
def exec_sra_at_ixd_l (s : State) : Host.Outcome State Fault Refusal := .next (rotXydCopy .ix .sra .l s)

/-- `SRA (IX+d),A`, `DD CB d 2F` (R433). -/
def exec_sra_at_ixd_a (s : State) : Host.Outcome State Fault Refusal := .next (rotXydCopy .ix .sra .a s)

/-- `SLL (IX+d),B`, `DD CB d 30` (R433). -/
def exec_sll_at_ixd_b (s : State) : Host.Outcome State Fault Refusal := .next (rotXydCopy .ix .sll .b s)

/-- `SLL (IX+d),C`, `DD CB d 31` (R433). -/
def exec_sll_at_ixd_c (s : State) : Host.Outcome State Fault Refusal := .next (rotXydCopy .ix .sll .c s)

/-- `SLL (IX+d),D`, `DD CB d 32` (R433). -/
def exec_sll_at_ixd_d (s : State) : Host.Outcome State Fault Refusal := .next (rotXydCopy .ix .sll .d s)

/-- `SLL (IX+d),E`, `DD CB d 33` (R433). -/
def exec_sll_at_ixd_e (s : State) : Host.Outcome State Fault Refusal := .next (rotXydCopy .ix .sll .e s)

/-- `SLL (IX+d),H`, `DD CB d 34` (R433). -/
def exec_sll_at_ixd_h (s : State) : Host.Outcome State Fault Refusal := .next (rotXydCopy .ix .sll .h s)

/-- `SLL (IX+d),L`, `DD CB d 35` (R433). -/
def exec_sll_at_ixd_l (s : State) : Host.Outcome State Fault Refusal := .next (rotXydCopy .ix .sll .l s)

/-- `SLL (IX+d),A`, `DD CB d 37` (R433). -/
def exec_sll_at_ixd_a (s : State) : Host.Outcome State Fault Refusal := .next (rotXydCopy .ix .sll .a s)

/-- `SRL (IX+d),B`, `DD CB d 38` (R433). -/
def exec_srl_at_ixd_b (s : State) : Host.Outcome State Fault Refusal := .next (rotXydCopy .ix .srl .b s)

/-- `SRL (IX+d),C`, `DD CB d 39` (R433). -/
def exec_srl_at_ixd_c (s : State) : Host.Outcome State Fault Refusal := .next (rotXydCopy .ix .srl .c s)

/-- `SRL (IX+d),D`, `DD CB d 3A` (R433). -/
def exec_srl_at_ixd_d (s : State) : Host.Outcome State Fault Refusal := .next (rotXydCopy .ix .srl .d s)

/-- `SRL (IX+d),E`, `DD CB d 3B` (R433). -/
def exec_srl_at_ixd_e (s : State) : Host.Outcome State Fault Refusal := .next (rotXydCopy .ix .srl .e s)

/-- `SRL (IX+d),H`, `DD CB d 3C` (R433). -/
def exec_srl_at_ixd_h (s : State) : Host.Outcome State Fault Refusal := .next (rotXydCopy .ix .srl .h s)

/-- `SRL (IX+d),L`, `DD CB d 3D` (R433). -/
def exec_srl_at_ixd_l (s : State) : Host.Outcome State Fault Refusal := .next (rotXydCopy .ix .srl .l s)

/-- `SRL (IX+d),A`, `DD CB d 3F` (R433). -/
def exec_srl_at_ixd_a (s : State) : Host.Outcome State Fault Refusal := .next (rotXydCopy .ix .srl .a s)

/-- `RLC (IY+d),B`, `FD CB d 00` (R433). -/
def exec_rlc_at_iyd_b (s : State) : Host.Outcome State Fault Refusal := .next (rotXydCopy .iy .rlc .b s)

/-- `RLC (IY+d),C`, `FD CB d 01` (R433). -/
def exec_rlc_at_iyd_c (s : State) : Host.Outcome State Fault Refusal := .next (rotXydCopy .iy .rlc .c s)

/-- `RLC (IY+d),D`, `FD CB d 02` (R433). -/
def exec_rlc_at_iyd_d (s : State) : Host.Outcome State Fault Refusal := .next (rotXydCopy .iy .rlc .d s)

/-- `RLC (IY+d),E`, `FD CB d 03` (R433). -/
def exec_rlc_at_iyd_e (s : State) : Host.Outcome State Fault Refusal := .next (rotXydCopy .iy .rlc .e s)

/-- `RLC (IY+d),H`, `FD CB d 04` (R433). -/
def exec_rlc_at_iyd_h (s : State) : Host.Outcome State Fault Refusal := .next (rotXydCopy .iy .rlc .h s)

/-- `RLC (IY+d),L`, `FD CB d 05` (R433). -/
def exec_rlc_at_iyd_l (s : State) : Host.Outcome State Fault Refusal := .next (rotXydCopy .iy .rlc .l s)

/-- `RLC (IY+d),A`, `FD CB d 07` (R433). -/
def exec_rlc_at_iyd_a (s : State) : Host.Outcome State Fault Refusal := .next (rotXydCopy .iy .rlc .a s)

/-- `RRC (IY+d),B`, `FD CB d 08` (R433). -/
def exec_rrc_at_iyd_b (s : State) : Host.Outcome State Fault Refusal := .next (rotXydCopy .iy .rrc .b s)

/-- `RRC (IY+d),C`, `FD CB d 09` (R433). -/
def exec_rrc_at_iyd_c (s : State) : Host.Outcome State Fault Refusal := .next (rotXydCopy .iy .rrc .c s)

/-- `RRC (IY+d),D`, `FD CB d 0A` (R433). -/
def exec_rrc_at_iyd_d (s : State) : Host.Outcome State Fault Refusal := .next (rotXydCopy .iy .rrc .d s)

/-- `RRC (IY+d),E`, `FD CB d 0B` (R433). -/
def exec_rrc_at_iyd_e (s : State) : Host.Outcome State Fault Refusal := .next (rotXydCopy .iy .rrc .e s)

/-- `RRC (IY+d),H`, `FD CB d 0C` (R433). -/
def exec_rrc_at_iyd_h (s : State) : Host.Outcome State Fault Refusal := .next (rotXydCopy .iy .rrc .h s)

/-- `RRC (IY+d),L`, `FD CB d 0D` (R433). -/
def exec_rrc_at_iyd_l (s : State) : Host.Outcome State Fault Refusal := .next (rotXydCopy .iy .rrc .l s)

/-- `RRC (IY+d),A`, `FD CB d 0F` (R433). -/
def exec_rrc_at_iyd_a (s : State) : Host.Outcome State Fault Refusal := .next (rotXydCopy .iy .rrc .a s)

/-- `RL (IY+d),B`, `FD CB d 10` (R433). -/
def exec_rl_at_iyd_b (s : State) : Host.Outcome State Fault Refusal := .next (rotXydCopy .iy .rl .b s)

/-- `RL (IY+d),C`, `FD CB d 11` (R433). -/
def exec_rl_at_iyd_c (s : State) : Host.Outcome State Fault Refusal := .next (rotXydCopy .iy .rl .c s)

/-- `RL (IY+d),D`, `FD CB d 12` (R433). -/
def exec_rl_at_iyd_d (s : State) : Host.Outcome State Fault Refusal := .next (rotXydCopy .iy .rl .d s)

/-- `RL (IY+d),E`, `FD CB d 13` (R433). -/
def exec_rl_at_iyd_e (s : State) : Host.Outcome State Fault Refusal := .next (rotXydCopy .iy .rl .e s)

/-- `RL (IY+d),H`, `FD CB d 14` (R433). -/
def exec_rl_at_iyd_h (s : State) : Host.Outcome State Fault Refusal := .next (rotXydCopy .iy .rl .h s)

/-- `RL (IY+d),L`, `FD CB d 15` (R433). -/
def exec_rl_at_iyd_l (s : State) : Host.Outcome State Fault Refusal := .next (rotXydCopy .iy .rl .l s)

/-- `RL (IY+d),A`, `FD CB d 17` (R433). -/
def exec_rl_at_iyd_a (s : State) : Host.Outcome State Fault Refusal := .next (rotXydCopy .iy .rl .a s)

/-- `RR (IY+d),B`, `FD CB d 18` (R433). -/
def exec_rr_at_iyd_b (s : State) : Host.Outcome State Fault Refusal := .next (rotXydCopy .iy .rr .b s)

/-- `RR (IY+d),C`, `FD CB d 19` (R433). -/
def exec_rr_at_iyd_c (s : State) : Host.Outcome State Fault Refusal := .next (rotXydCopy .iy .rr .c s)

/-- `RR (IY+d),D`, `FD CB d 1A` (R433). -/
def exec_rr_at_iyd_d (s : State) : Host.Outcome State Fault Refusal := .next (rotXydCopy .iy .rr .d s)

/-- `RR (IY+d),E`, `FD CB d 1B` (R433). -/
def exec_rr_at_iyd_e (s : State) : Host.Outcome State Fault Refusal := .next (rotXydCopy .iy .rr .e s)

/-- `RR (IY+d),H`, `FD CB d 1C` (R433). -/
def exec_rr_at_iyd_h (s : State) : Host.Outcome State Fault Refusal := .next (rotXydCopy .iy .rr .h s)

/-- `RR (IY+d),L`, `FD CB d 1D` (R433). -/
def exec_rr_at_iyd_l (s : State) : Host.Outcome State Fault Refusal := .next (rotXydCopy .iy .rr .l s)

/-- `RR (IY+d),A`, `FD CB d 1F` (R433). -/
def exec_rr_at_iyd_a (s : State) : Host.Outcome State Fault Refusal := .next (rotXydCopy .iy .rr .a s)

/-- `SLA (IY+d),B`, `FD CB d 20` (R433). -/
def exec_sla_at_iyd_b (s : State) : Host.Outcome State Fault Refusal := .next (rotXydCopy .iy .sla .b s)

/-- `SLA (IY+d),C`, `FD CB d 21` (R433). -/
def exec_sla_at_iyd_c (s : State) : Host.Outcome State Fault Refusal := .next (rotXydCopy .iy .sla .c s)

/-- `SLA (IY+d),D`, `FD CB d 22` (R433). -/
def exec_sla_at_iyd_d (s : State) : Host.Outcome State Fault Refusal := .next (rotXydCopy .iy .sla .d s)

/-- `SLA (IY+d),E`, `FD CB d 23` (R433). -/
def exec_sla_at_iyd_e (s : State) : Host.Outcome State Fault Refusal := .next (rotXydCopy .iy .sla .e s)

/-- `SLA (IY+d),H`, `FD CB d 24` (R433). -/
def exec_sla_at_iyd_h (s : State) : Host.Outcome State Fault Refusal := .next (rotXydCopy .iy .sla .h s)

/-- `SLA (IY+d),L`, `FD CB d 25` (R433). -/
def exec_sla_at_iyd_l (s : State) : Host.Outcome State Fault Refusal := .next (rotXydCopy .iy .sla .l s)

/-- `SLA (IY+d),A`, `FD CB d 27` (R433). -/
def exec_sla_at_iyd_a (s : State) : Host.Outcome State Fault Refusal := .next (rotXydCopy .iy .sla .a s)

/-- `SRA (IY+d),B`, `FD CB d 28` (R433). -/
def exec_sra_at_iyd_b (s : State) : Host.Outcome State Fault Refusal := .next (rotXydCopy .iy .sra .b s)

/-- `SRA (IY+d),C`, `FD CB d 29` (R433). -/
def exec_sra_at_iyd_c (s : State) : Host.Outcome State Fault Refusal := .next (rotXydCopy .iy .sra .c s)

/-- `SRA (IY+d),D`, `FD CB d 2A` (R433). -/
def exec_sra_at_iyd_d (s : State) : Host.Outcome State Fault Refusal := .next (rotXydCopy .iy .sra .d s)

/-- `SRA (IY+d),E`, `FD CB d 2B` (R433). -/
def exec_sra_at_iyd_e (s : State) : Host.Outcome State Fault Refusal := .next (rotXydCopy .iy .sra .e s)

/-- `SRA (IY+d),H`, `FD CB d 2C` (R433). -/
def exec_sra_at_iyd_h (s : State) : Host.Outcome State Fault Refusal := .next (rotXydCopy .iy .sra .h s)

/-- `SRA (IY+d),L`, `FD CB d 2D` (R433). -/
def exec_sra_at_iyd_l (s : State) : Host.Outcome State Fault Refusal := .next (rotXydCopy .iy .sra .l s)

/-- `SRA (IY+d),A`, `FD CB d 2F` (R433). -/
def exec_sra_at_iyd_a (s : State) : Host.Outcome State Fault Refusal := .next (rotXydCopy .iy .sra .a s)

/-- `SLL (IY+d),B`, `FD CB d 30` (R433). -/
def exec_sll_at_iyd_b (s : State) : Host.Outcome State Fault Refusal := .next (rotXydCopy .iy .sll .b s)

/-- `SLL (IY+d),C`, `FD CB d 31` (R433). -/
def exec_sll_at_iyd_c (s : State) : Host.Outcome State Fault Refusal := .next (rotXydCopy .iy .sll .c s)

/-- `SLL (IY+d),D`, `FD CB d 32` (R433). -/
def exec_sll_at_iyd_d (s : State) : Host.Outcome State Fault Refusal := .next (rotXydCopy .iy .sll .d s)

/-- `SLL (IY+d),E`, `FD CB d 33` (R433). -/
def exec_sll_at_iyd_e (s : State) : Host.Outcome State Fault Refusal := .next (rotXydCopy .iy .sll .e s)

/-- `SLL (IY+d),H`, `FD CB d 34` (R433). -/
def exec_sll_at_iyd_h (s : State) : Host.Outcome State Fault Refusal := .next (rotXydCopy .iy .sll .h s)

/-- `SLL (IY+d),L`, `FD CB d 35` (R433). -/
def exec_sll_at_iyd_l (s : State) : Host.Outcome State Fault Refusal := .next (rotXydCopy .iy .sll .l s)

/-- `SLL (IY+d),A`, `FD CB d 37` (R433). -/
def exec_sll_at_iyd_a (s : State) : Host.Outcome State Fault Refusal := .next (rotXydCopy .iy .sll .a s)

/-- `SRL (IY+d),B`, `FD CB d 38` (R433). -/
def exec_srl_at_iyd_b (s : State) : Host.Outcome State Fault Refusal := .next (rotXydCopy .iy .srl .b s)

/-- `SRL (IY+d),C`, `FD CB d 39` (R433). -/
def exec_srl_at_iyd_c (s : State) : Host.Outcome State Fault Refusal := .next (rotXydCopy .iy .srl .c s)

/-- `SRL (IY+d),D`, `FD CB d 3A` (R433). -/
def exec_srl_at_iyd_d (s : State) : Host.Outcome State Fault Refusal := .next (rotXydCopy .iy .srl .d s)

/-- `SRL (IY+d),E`, `FD CB d 3B` (R433). -/
def exec_srl_at_iyd_e (s : State) : Host.Outcome State Fault Refusal := .next (rotXydCopy .iy .srl .e s)

/-- `SRL (IY+d),H`, `FD CB d 3C` (R433). -/
def exec_srl_at_iyd_h (s : State) : Host.Outcome State Fault Refusal := .next (rotXydCopy .iy .srl .h s)

/-- `SRL (IY+d),L`, `FD CB d 3D` (R433). -/
def exec_srl_at_iyd_l (s : State) : Host.Outcome State Fault Refusal := .next (rotXydCopy .iy .srl .l s)

/-- `SRL (IY+d),A`, `FD CB d 3F` (R433). -/
def exec_srl_at_iyd_a (s : State) : Host.Outcome State Fault Refusal := .next (rotXydCopy .iy .srl .a s)

/-- `BIT 0,(IX+d)`, `DD CB d 40 / DD CB d 41 / DD CB d 42 / DD CB d 43 / DD CB d 44 / DD CB d 45 / DD CB d 46 / DD CB d 47` (R434). -/
def exec_bit_0_at_ixd (_z : BitNo) (s : State) : Host.Outcome State Fault Refusal := .next (bitXyd .ix .b0 s)

/-- `BIT 1,(IX+d)`, `DD CB d 48 / DD CB d 49 / DD CB d 4A / DD CB d 4B / DD CB d 4C / DD CB d 4D / DD CB d 4E / DD CB d 4F` (R434). -/
def exec_bit_1_at_ixd (_z : BitNo) (s : State) : Host.Outcome State Fault Refusal := .next (bitXyd .ix .b1 s)

/-- `BIT 2,(IX+d)`, `DD CB d 50 / DD CB d 51 / DD CB d 52 / DD CB d 53 / DD CB d 54 / DD CB d 55 / DD CB d 56 / DD CB d 57` (R434). -/
def exec_bit_2_at_ixd (_z : BitNo) (s : State) : Host.Outcome State Fault Refusal := .next (bitXyd .ix .b2 s)

/-- `BIT 3,(IX+d)`, `DD CB d 58 / DD CB d 59 / DD CB d 5A / DD CB d 5B / DD CB d 5C / DD CB d 5D / DD CB d 5E / DD CB d 5F` (R434). -/
def exec_bit_3_at_ixd (_z : BitNo) (s : State) : Host.Outcome State Fault Refusal := .next (bitXyd .ix .b3 s)

/-- `BIT 4,(IX+d)`, `DD CB d 60 / DD CB d 61 / DD CB d 62 / DD CB d 63 / DD CB d 64 / DD CB d 65 / DD CB d 66 / DD CB d 67` (R434). -/
def exec_bit_4_at_ixd (_z : BitNo) (s : State) : Host.Outcome State Fault Refusal := .next (bitXyd .ix .b4 s)

/-- `BIT 5,(IX+d)`, `DD CB d 68 / DD CB d 69 / DD CB d 6A / DD CB d 6B / DD CB d 6C / DD CB d 6D / DD CB d 6E / DD CB d 6F` (R434). -/
def exec_bit_5_at_ixd (_z : BitNo) (s : State) : Host.Outcome State Fault Refusal := .next (bitXyd .ix .b5 s)

/-- `BIT 6,(IX+d)`, `DD CB d 70 / DD CB d 71 / DD CB d 72 / DD CB d 73 / DD CB d 74 / DD CB d 75 / DD CB d 76 / DD CB d 77` (R434). -/
def exec_bit_6_at_ixd (_z : BitNo) (s : State) : Host.Outcome State Fault Refusal := .next (bitXyd .ix .b6 s)

/-- `BIT 7,(IX+d)`, `DD CB d 78 / DD CB d 79 / DD CB d 7A / DD CB d 7B / DD CB d 7C / DD CB d 7D / DD CB d 7E / DD CB d 7F` (R434). -/
def exec_bit_7_at_ixd (_z : BitNo) (s : State) : Host.Outcome State Fault Refusal := .next (bitXyd .ix .b7 s)

/-- `BIT 0,(IY+d)`, `FD CB d 40 / FD CB d 41 / FD CB d 42 / FD CB d 43 / FD CB d 44 / FD CB d 45 / FD CB d 46 / FD CB d 47` (R434). -/
def exec_bit_0_at_iyd (_z : BitNo) (s : State) : Host.Outcome State Fault Refusal := .next (bitXyd .iy .b0 s)

/-- `BIT 1,(IY+d)`, `FD CB d 48 / FD CB d 49 / FD CB d 4A / FD CB d 4B / FD CB d 4C / FD CB d 4D / FD CB d 4E / FD CB d 4F` (R434). -/
def exec_bit_1_at_iyd (_z : BitNo) (s : State) : Host.Outcome State Fault Refusal := .next (bitXyd .iy .b1 s)

/-- `BIT 2,(IY+d)`, `FD CB d 50 / FD CB d 51 / FD CB d 52 / FD CB d 53 / FD CB d 54 / FD CB d 55 / FD CB d 56 / FD CB d 57` (R434). -/
def exec_bit_2_at_iyd (_z : BitNo) (s : State) : Host.Outcome State Fault Refusal := .next (bitXyd .iy .b2 s)

/-- `BIT 3,(IY+d)`, `FD CB d 58 / FD CB d 59 / FD CB d 5A / FD CB d 5B / FD CB d 5C / FD CB d 5D / FD CB d 5E / FD CB d 5F` (R434). -/
def exec_bit_3_at_iyd (_z : BitNo) (s : State) : Host.Outcome State Fault Refusal := .next (bitXyd .iy .b3 s)

/-- `BIT 4,(IY+d)`, `FD CB d 60 / FD CB d 61 / FD CB d 62 / FD CB d 63 / FD CB d 64 / FD CB d 65 / FD CB d 66 / FD CB d 67` (R434). -/
def exec_bit_4_at_iyd (_z : BitNo) (s : State) : Host.Outcome State Fault Refusal := .next (bitXyd .iy .b4 s)

/-- `BIT 5,(IY+d)`, `FD CB d 68 / FD CB d 69 / FD CB d 6A / FD CB d 6B / FD CB d 6C / FD CB d 6D / FD CB d 6E / FD CB d 6F` (R434). -/
def exec_bit_5_at_iyd (_z : BitNo) (s : State) : Host.Outcome State Fault Refusal := .next (bitXyd .iy .b5 s)

/-- `BIT 6,(IY+d)`, `FD CB d 70 / FD CB d 71 / FD CB d 72 / FD CB d 73 / FD CB d 74 / FD CB d 75 / FD CB d 76 / FD CB d 77` (R434). -/
def exec_bit_6_at_iyd (_z : BitNo) (s : State) : Host.Outcome State Fault Refusal := .next (bitXyd .iy .b6 s)

/-- `BIT 7,(IY+d)`, `FD CB d 78 / FD CB d 79 / FD CB d 7A / FD CB d 7B / FD CB d 7C / FD CB d 7D / FD CB d 7E / FD CB d 7F` (R434). -/
def exec_bit_7_at_iyd (_z : BitNo) (s : State) : Host.Outcome State Fault Refusal := .next (bitXyd .iy .b7 s)

/-- `RES 0,(IX+d)`, `DD CB d 86` (R433). -/
def exec_res_0_at_ixd (s : State) : Host.Outcome State Fault Refusal := .next (resXyd .ix .b0 s)

/-- `RES 1,(IX+d)`, `DD CB d 8E` (R433). -/
def exec_res_1_at_ixd (s : State) : Host.Outcome State Fault Refusal := .next (resXyd .ix .b1 s)

/-- `RES 2,(IX+d)`, `DD CB d 96` (R433). -/
def exec_res_2_at_ixd (s : State) : Host.Outcome State Fault Refusal := .next (resXyd .ix .b2 s)

/-- `RES 3,(IX+d)`, `DD CB d 9E` (R433). -/
def exec_res_3_at_ixd (s : State) : Host.Outcome State Fault Refusal := .next (resXyd .ix .b3 s)

/-- `RES 4,(IX+d)`, `DD CB d A6` (R433). -/
def exec_res_4_at_ixd (s : State) : Host.Outcome State Fault Refusal := .next (resXyd .ix .b4 s)

/-- `RES 5,(IX+d)`, `DD CB d AE` (R433). -/
def exec_res_5_at_ixd (s : State) : Host.Outcome State Fault Refusal := .next (resXyd .ix .b5 s)

/-- `RES 6,(IX+d)`, `DD CB d B6` (R433). -/
def exec_res_6_at_ixd (s : State) : Host.Outcome State Fault Refusal := .next (resXyd .ix .b6 s)

/-- `RES 7,(IX+d)`, `DD CB d BE` (R433). -/
def exec_res_7_at_ixd (s : State) : Host.Outcome State Fault Refusal := .next (resXyd .ix .b7 s)

/-- `RES 0,(IY+d)`, `FD CB d 86` (R433). -/
def exec_res_0_at_iyd (s : State) : Host.Outcome State Fault Refusal := .next (resXyd .iy .b0 s)

/-- `RES 1,(IY+d)`, `FD CB d 8E` (R433). -/
def exec_res_1_at_iyd (s : State) : Host.Outcome State Fault Refusal := .next (resXyd .iy .b1 s)

/-- `RES 2,(IY+d)`, `FD CB d 96` (R433). -/
def exec_res_2_at_iyd (s : State) : Host.Outcome State Fault Refusal := .next (resXyd .iy .b2 s)

/-- `RES 3,(IY+d)`, `FD CB d 9E` (R433). -/
def exec_res_3_at_iyd (s : State) : Host.Outcome State Fault Refusal := .next (resXyd .iy .b3 s)

/-- `RES 4,(IY+d)`, `FD CB d A6` (R433). -/
def exec_res_4_at_iyd (s : State) : Host.Outcome State Fault Refusal := .next (resXyd .iy .b4 s)

/-- `RES 5,(IY+d)`, `FD CB d AE` (R433). -/
def exec_res_5_at_iyd (s : State) : Host.Outcome State Fault Refusal := .next (resXyd .iy .b5 s)

/-- `RES 6,(IY+d)`, `FD CB d B6` (R433). -/
def exec_res_6_at_iyd (s : State) : Host.Outcome State Fault Refusal := .next (resXyd .iy .b6 s)

/-- `RES 7,(IY+d)`, `FD CB d BE` (R433). -/
def exec_res_7_at_iyd (s : State) : Host.Outcome State Fault Refusal := .next (resXyd .iy .b7 s)

/-- `RES 0,(IX+d),B`, `DD CB d 80` (R433). -/
def exec_res_0_at_ixd_b (s : State) : Host.Outcome State Fault Refusal := .next (resXydCopy .ix .b0 .b s)

/-- `RES 0,(IX+d),C`, `DD CB d 81` (R433). -/
def exec_res_0_at_ixd_c (s : State) : Host.Outcome State Fault Refusal := .next (resXydCopy .ix .b0 .c s)

/-- `RES 0,(IX+d),D`, `DD CB d 82` (R433). -/
def exec_res_0_at_ixd_d (s : State) : Host.Outcome State Fault Refusal := .next (resXydCopy .ix .b0 .d s)

/-- `RES 0,(IX+d),E`, `DD CB d 83` (R433). -/
def exec_res_0_at_ixd_e (s : State) : Host.Outcome State Fault Refusal := .next (resXydCopy .ix .b0 .e s)

/-- `RES 0,(IX+d),H`, `DD CB d 84` (R433). -/
def exec_res_0_at_ixd_h (s : State) : Host.Outcome State Fault Refusal := .next (resXydCopy .ix .b0 .h s)

/-- `RES 0,(IX+d),L`, `DD CB d 85` (R433). -/
def exec_res_0_at_ixd_l (s : State) : Host.Outcome State Fault Refusal := .next (resXydCopy .ix .b0 .l s)

/-- `RES 0,(IX+d),A`, `DD CB d 87` (R433). -/
def exec_res_0_at_ixd_a (s : State) : Host.Outcome State Fault Refusal := .next (resXydCopy .ix .b0 .a s)

/-- `RES 1,(IX+d),B`, `DD CB d 88` (R433). -/
def exec_res_1_at_ixd_b (s : State) : Host.Outcome State Fault Refusal := .next (resXydCopy .ix .b1 .b s)

/-- `RES 1,(IX+d),C`, `DD CB d 89` (R433). -/
def exec_res_1_at_ixd_c (s : State) : Host.Outcome State Fault Refusal := .next (resXydCopy .ix .b1 .c s)

/-- `RES 1,(IX+d),D`, `DD CB d 8A` (R433). -/
def exec_res_1_at_ixd_d (s : State) : Host.Outcome State Fault Refusal := .next (resXydCopy .ix .b1 .d s)

/-- `RES 1,(IX+d),E`, `DD CB d 8B` (R433). -/
def exec_res_1_at_ixd_e (s : State) : Host.Outcome State Fault Refusal := .next (resXydCopy .ix .b1 .e s)

/-- `RES 1,(IX+d),H`, `DD CB d 8C` (R433). -/
def exec_res_1_at_ixd_h (s : State) : Host.Outcome State Fault Refusal := .next (resXydCopy .ix .b1 .h s)

/-- `RES 1,(IX+d),L`, `DD CB d 8D` (R433). -/
def exec_res_1_at_ixd_l (s : State) : Host.Outcome State Fault Refusal := .next (resXydCopy .ix .b1 .l s)

/-- `RES 1,(IX+d),A`, `DD CB d 8F` (R433). -/
def exec_res_1_at_ixd_a (s : State) : Host.Outcome State Fault Refusal := .next (resXydCopy .ix .b1 .a s)

/-- `RES 2,(IX+d),B`, `DD CB d 90` (R433). -/
def exec_res_2_at_ixd_b (s : State) : Host.Outcome State Fault Refusal := .next (resXydCopy .ix .b2 .b s)

/-- `RES 2,(IX+d),C`, `DD CB d 91` (R433). -/
def exec_res_2_at_ixd_c (s : State) : Host.Outcome State Fault Refusal := .next (resXydCopy .ix .b2 .c s)

/-- `RES 2,(IX+d),D`, `DD CB d 92` (R433). -/
def exec_res_2_at_ixd_d (s : State) : Host.Outcome State Fault Refusal := .next (resXydCopy .ix .b2 .d s)

/-- `RES 2,(IX+d),E`, `DD CB d 93` (R433). -/
def exec_res_2_at_ixd_e (s : State) : Host.Outcome State Fault Refusal := .next (resXydCopy .ix .b2 .e s)

/-- `RES 2,(IX+d),H`, `DD CB d 94` (R433). -/
def exec_res_2_at_ixd_h (s : State) : Host.Outcome State Fault Refusal := .next (resXydCopy .ix .b2 .h s)

/-- `RES 2,(IX+d),L`, `DD CB d 95` (R433). -/
def exec_res_2_at_ixd_l (s : State) : Host.Outcome State Fault Refusal := .next (resXydCopy .ix .b2 .l s)

/-- `RES 2,(IX+d),A`, `DD CB d 97` (R433). -/
def exec_res_2_at_ixd_a (s : State) : Host.Outcome State Fault Refusal := .next (resXydCopy .ix .b2 .a s)

/-- `RES 3,(IX+d),B`, `DD CB d 98` (R433). -/
def exec_res_3_at_ixd_b (s : State) : Host.Outcome State Fault Refusal := .next (resXydCopy .ix .b3 .b s)

/-- `RES 3,(IX+d),C`, `DD CB d 99` (R433). -/
def exec_res_3_at_ixd_c (s : State) : Host.Outcome State Fault Refusal := .next (resXydCopy .ix .b3 .c s)

/-- `RES 3,(IX+d),D`, `DD CB d 9A` (R433). -/
def exec_res_3_at_ixd_d (s : State) : Host.Outcome State Fault Refusal := .next (resXydCopy .ix .b3 .d s)

/-- `RES 3,(IX+d),E`, `DD CB d 9B` (R433). -/
def exec_res_3_at_ixd_e (s : State) : Host.Outcome State Fault Refusal := .next (resXydCopy .ix .b3 .e s)

/-- `RES 3,(IX+d),H`, `DD CB d 9C` (R433). -/
def exec_res_3_at_ixd_h (s : State) : Host.Outcome State Fault Refusal := .next (resXydCopy .ix .b3 .h s)

/-- `RES 3,(IX+d),L`, `DD CB d 9D` (R433). -/
def exec_res_3_at_ixd_l (s : State) : Host.Outcome State Fault Refusal := .next (resXydCopy .ix .b3 .l s)

/-- `RES 3,(IX+d),A`, `DD CB d 9F` (R433). -/
def exec_res_3_at_ixd_a (s : State) : Host.Outcome State Fault Refusal := .next (resXydCopy .ix .b3 .a s)

/-- `RES 4,(IX+d),B`, `DD CB d A0` (R433). -/
def exec_res_4_at_ixd_b (s : State) : Host.Outcome State Fault Refusal := .next (resXydCopy .ix .b4 .b s)

/-- `RES 4,(IX+d),C`, `DD CB d A1` (R433). -/
def exec_res_4_at_ixd_c (s : State) : Host.Outcome State Fault Refusal := .next (resXydCopy .ix .b4 .c s)

/-- `RES 4,(IX+d),D`, `DD CB d A2` (R433). -/
def exec_res_4_at_ixd_d (s : State) : Host.Outcome State Fault Refusal := .next (resXydCopy .ix .b4 .d s)

/-- `RES 4,(IX+d),E`, `DD CB d A3` (R433). -/
def exec_res_4_at_ixd_e (s : State) : Host.Outcome State Fault Refusal := .next (resXydCopy .ix .b4 .e s)

/-- `RES 4,(IX+d),H`, `DD CB d A4` (R433). -/
def exec_res_4_at_ixd_h (s : State) : Host.Outcome State Fault Refusal := .next (resXydCopy .ix .b4 .h s)

/-- `RES 4,(IX+d),L`, `DD CB d A5` (R433). -/
def exec_res_4_at_ixd_l (s : State) : Host.Outcome State Fault Refusal := .next (resXydCopy .ix .b4 .l s)

/-- `RES 4,(IX+d),A`, `DD CB d A7` (R433). -/
def exec_res_4_at_ixd_a (s : State) : Host.Outcome State Fault Refusal := .next (resXydCopy .ix .b4 .a s)

/-- `RES 5,(IX+d),B`, `DD CB d A8` (R433). -/
def exec_res_5_at_ixd_b (s : State) : Host.Outcome State Fault Refusal := .next (resXydCopy .ix .b5 .b s)

/-- `RES 5,(IX+d),C`, `DD CB d A9` (R433). -/
def exec_res_5_at_ixd_c (s : State) : Host.Outcome State Fault Refusal := .next (resXydCopy .ix .b5 .c s)

/-- `RES 5,(IX+d),D`, `DD CB d AA` (R433). -/
def exec_res_5_at_ixd_d (s : State) : Host.Outcome State Fault Refusal := .next (resXydCopy .ix .b5 .d s)

/-- `RES 5,(IX+d),E`, `DD CB d AB` (R433). -/
def exec_res_5_at_ixd_e (s : State) : Host.Outcome State Fault Refusal := .next (resXydCopy .ix .b5 .e s)

/-- `RES 5,(IX+d),H`, `DD CB d AC` (R433). -/
def exec_res_5_at_ixd_h (s : State) : Host.Outcome State Fault Refusal := .next (resXydCopy .ix .b5 .h s)

/-- `RES 5,(IX+d),L`, `DD CB d AD` (R433). -/
def exec_res_5_at_ixd_l (s : State) : Host.Outcome State Fault Refusal := .next (resXydCopy .ix .b5 .l s)

/-- `RES 5,(IX+d),A`, `DD CB d AF` (R433). -/
def exec_res_5_at_ixd_a (s : State) : Host.Outcome State Fault Refusal := .next (resXydCopy .ix .b5 .a s)

/-- `RES 6,(IX+d),B`, `DD CB d B0` (R433). -/
def exec_res_6_at_ixd_b (s : State) : Host.Outcome State Fault Refusal := .next (resXydCopy .ix .b6 .b s)

/-- `RES 6,(IX+d),C`, `DD CB d B1` (R433). -/
def exec_res_6_at_ixd_c (s : State) : Host.Outcome State Fault Refusal := .next (resXydCopy .ix .b6 .c s)

/-- `RES 6,(IX+d),D`, `DD CB d B2` (R433). -/
def exec_res_6_at_ixd_d (s : State) : Host.Outcome State Fault Refusal := .next (resXydCopy .ix .b6 .d s)

/-- `RES 6,(IX+d),E`, `DD CB d B3` (R433). -/
def exec_res_6_at_ixd_e (s : State) : Host.Outcome State Fault Refusal := .next (resXydCopy .ix .b6 .e s)

/-- `RES 6,(IX+d),H`, `DD CB d B4` (R433). -/
def exec_res_6_at_ixd_h (s : State) : Host.Outcome State Fault Refusal := .next (resXydCopy .ix .b6 .h s)

/-- `RES 6,(IX+d),L`, `DD CB d B5` (R433). -/
def exec_res_6_at_ixd_l (s : State) : Host.Outcome State Fault Refusal := .next (resXydCopy .ix .b6 .l s)

/-- `RES 6,(IX+d),A`, `DD CB d B7` (R433). -/
def exec_res_6_at_ixd_a (s : State) : Host.Outcome State Fault Refusal := .next (resXydCopy .ix .b6 .a s)

/-- `RES 7,(IX+d),B`, `DD CB d B8` (R433). -/
def exec_res_7_at_ixd_b (s : State) : Host.Outcome State Fault Refusal := .next (resXydCopy .ix .b7 .b s)

/-- `RES 7,(IX+d),C`, `DD CB d B9` (R433). -/
def exec_res_7_at_ixd_c (s : State) : Host.Outcome State Fault Refusal := .next (resXydCopy .ix .b7 .c s)

/-- `RES 7,(IX+d),D`, `DD CB d BA` (R433). -/
def exec_res_7_at_ixd_d (s : State) : Host.Outcome State Fault Refusal := .next (resXydCopy .ix .b7 .d s)

/-- `RES 7,(IX+d),E`, `DD CB d BB` (R433). -/
def exec_res_7_at_ixd_e (s : State) : Host.Outcome State Fault Refusal := .next (resXydCopy .ix .b7 .e s)

/-- `RES 7,(IX+d),H`, `DD CB d BC` (R433). -/
def exec_res_7_at_ixd_h (s : State) : Host.Outcome State Fault Refusal := .next (resXydCopy .ix .b7 .h s)

/-- `RES 7,(IX+d),L`, `DD CB d BD` (R433). -/
def exec_res_7_at_ixd_l (s : State) : Host.Outcome State Fault Refusal := .next (resXydCopy .ix .b7 .l s)

/-- `RES 7,(IX+d),A`, `DD CB d BF` (R433). -/
def exec_res_7_at_ixd_a (s : State) : Host.Outcome State Fault Refusal := .next (resXydCopy .ix .b7 .a s)

/-- `RES 0,(IY+d),B`, `FD CB d 80` (R433). -/
def exec_res_0_at_iyd_b (s : State) : Host.Outcome State Fault Refusal := .next (resXydCopy .iy .b0 .b s)

/-- `RES 0,(IY+d),C`, `FD CB d 81` (R433). -/
def exec_res_0_at_iyd_c (s : State) : Host.Outcome State Fault Refusal := .next (resXydCopy .iy .b0 .c s)

/-- `RES 0,(IY+d),D`, `FD CB d 82` (R433). -/
def exec_res_0_at_iyd_d (s : State) : Host.Outcome State Fault Refusal := .next (resXydCopy .iy .b0 .d s)

/-- `RES 0,(IY+d),E`, `FD CB d 83` (R433). -/
def exec_res_0_at_iyd_e (s : State) : Host.Outcome State Fault Refusal := .next (resXydCopy .iy .b0 .e s)

/-- `RES 0,(IY+d),H`, `FD CB d 84` (R433). -/
def exec_res_0_at_iyd_h (s : State) : Host.Outcome State Fault Refusal := .next (resXydCopy .iy .b0 .h s)

/-- `RES 0,(IY+d),L`, `FD CB d 85` (R433). -/
def exec_res_0_at_iyd_l (s : State) : Host.Outcome State Fault Refusal := .next (resXydCopy .iy .b0 .l s)

/-- `RES 0,(IY+d),A`, `FD CB d 87` (R433). -/
def exec_res_0_at_iyd_a (s : State) : Host.Outcome State Fault Refusal := .next (resXydCopy .iy .b0 .a s)

/-- `RES 1,(IY+d),B`, `FD CB d 88` (R433). -/
def exec_res_1_at_iyd_b (s : State) : Host.Outcome State Fault Refusal := .next (resXydCopy .iy .b1 .b s)

/-- `RES 1,(IY+d),C`, `FD CB d 89` (R433). -/
def exec_res_1_at_iyd_c (s : State) : Host.Outcome State Fault Refusal := .next (resXydCopy .iy .b1 .c s)

/-- `RES 1,(IY+d),D`, `FD CB d 8A` (R433). -/
def exec_res_1_at_iyd_d (s : State) : Host.Outcome State Fault Refusal := .next (resXydCopy .iy .b1 .d s)

/-- `RES 1,(IY+d),E`, `FD CB d 8B` (R433). -/
def exec_res_1_at_iyd_e (s : State) : Host.Outcome State Fault Refusal := .next (resXydCopy .iy .b1 .e s)

/-- `RES 1,(IY+d),H`, `FD CB d 8C` (R433). -/
def exec_res_1_at_iyd_h (s : State) : Host.Outcome State Fault Refusal := .next (resXydCopy .iy .b1 .h s)

/-- `RES 1,(IY+d),L`, `FD CB d 8D` (R433). -/
def exec_res_1_at_iyd_l (s : State) : Host.Outcome State Fault Refusal := .next (resXydCopy .iy .b1 .l s)

/-- `RES 1,(IY+d),A`, `FD CB d 8F` (R433). -/
def exec_res_1_at_iyd_a (s : State) : Host.Outcome State Fault Refusal := .next (resXydCopy .iy .b1 .a s)

/-- `RES 2,(IY+d),B`, `FD CB d 90` (R433). -/
def exec_res_2_at_iyd_b (s : State) : Host.Outcome State Fault Refusal := .next (resXydCopy .iy .b2 .b s)

/-- `RES 2,(IY+d),C`, `FD CB d 91` (R433). -/
def exec_res_2_at_iyd_c (s : State) : Host.Outcome State Fault Refusal := .next (resXydCopy .iy .b2 .c s)

/-- `RES 2,(IY+d),D`, `FD CB d 92` (R433). -/
def exec_res_2_at_iyd_d (s : State) : Host.Outcome State Fault Refusal := .next (resXydCopy .iy .b2 .d s)

/-- `RES 2,(IY+d),E`, `FD CB d 93` (R433). -/
def exec_res_2_at_iyd_e (s : State) : Host.Outcome State Fault Refusal := .next (resXydCopy .iy .b2 .e s)

/-- `RES 2,(IY+d),H`, `FD CB d 94` (R433). -/
def exec_res_2_at_iyd_h (s : State) : Host.Outcome State Fault Refusal := .next (resXydCopy .iy .b2 .h s)

/-- `RES 2,(IY+d),L`, `FD CB d 95` (R433). -/
def exec_res_2_at_iyd_l (s : State) : Host.Outcome State Fault Refusal := .next (resXydCopy .iy .b2 .l s)

/-- `RES 2,(IY+d),A`, `FD CB d 97` (R433). -/
def exec_res_2_at_iyd_a (s : State) : Host.Outcome State Fault Refusal := .next (resXydCopy .iy .b2 .a s)

/-- `RES 3,(IY+d),B`, `FD CB d 98` (R433). -/
def exec_res_3_at_iyd_b (s : State) : Host.Outcome State Fault Refusal := .next (resXydCopy .iy .b3 .b s)

/-- `RES 3,(IY+d),C`, `FD CB d 99` (R433). -/
def exec_res_3_at_iyd_c (s : State) : Host.Outcome State Fault Refusal := .next (resXydCopy .iy .b3 .c s)

/-- `RES 3,(IY+d),D`, `FD CB d 9A` (R433). -/
def exec_res_3_at_iyd_d (s : State) : Host.Outcome State Fault Refusal := .next (resXydCopy .iy .b3 .d s)

/-- `RES 3,(IY+d),E`, `FD CB d 9B` (R433). -/
def exec_res_3_at_iyd_e (s : State) : Host.Outcome State Fault Refusal := .next (resXydCopy .iy .b3 .e s)

/-- `RES 3,(IY+d),H`, `FD CB d 9C` (R433). -/
def exec_res_3_at_iyd_h (s : State) : Host.Outcome State Fault Refusal := .next (resXydCopy .iy .b3 .h s)

/-- `RES 3,(IY+d),L`, `FD CB d 9D` (R433). -/
def exec_res_3_at_iyd_l (s : State) : Host.Outcome State Fault Refusal := .next (resXydCopy .iy .b3 .l s)

/-- `RES 3,(IY+d),A`, `FD CB d 9F` (R433). -/
def exec_res_3_at_iyd_a (s : State) : Host.Outcome State Fault Refusal := .next (resXydCopy .iy .b3 .a s)

/-- `RES 4,(IY+d),B`, `FD CB d A0` (R433). -/
def exec_res_4_at_iyd_b (s : State) : Host.Outcome State Fault Refusal := .next (resXydCopy .iy .b4 .b s)

/-- `RES 4,(IY+d),C`, `FD CB d A1` (R433). -/
def exec_res_4_at_iyd_c (s : State) : Host.Outcome State Fault Refusal := .next (resXydCopy .iy .b4 .c s)

/-- `RES 4,(IY+d),D`, `FD CB d A2` (R433). -/
def exec_res_4_at_iyd_d (s : State) : Host.Outcome State Fault Refusal := .next (resXydCopy .iy .b4 .d s)

/-- `RES 4,(IY+d),E`, `FD CB d A3` (R433). -/
def exec_res_4_at_iyd_e (s : State) : Host.Outcome State Fault Refusal := .next (resXydCopy .iy .b4 .e s)

/-- `RES 4,(IY+d),H`, `FD CB d A4` (R433). -/
def exec_res_4_at_iyd_h (s : State) : Host.Outcome State Fault Refusal := .next (resXydCopy .iy .b4 .h s)

/-- `RES 4,(IY+d),L`, `FD CB d A5` (R433). -/
def exec_res_4_at_iyd_l (s : State) : Host.Outcome State Fault Refusal := .next (resXydCopy .iy .b4 .l s)

/-- `RES 4,(IY+d),A`, `FD CB d A7` (R433). -/
def exec_res_4_at_iyd_a (s : State) : Host.Outcome State Fault Refusal := .next (resXydCopy .iy .b4 .a s)

/-- `RES 5,(IY+d),B`, `FD CB d A8` (R433). -/
def exec_res_5_at_iyd_b (s : State) : Host.Outcome State Fault Refusal := .next (resXydCopy .iy .b5 .b s)

/-- `RES 5,(IY+d),C`, `FD CB d A9` (R433). -/
def exec_res_5_at_iyd_c (s : State) : Host.Outcome State Fault Refusal := .next (resXydCopy .iy .b5 .c s)

/-- `RES 5,(IY+d),D`, `FD CB d AA` (R433). -/
def exec_res_5_at_iyd_d (s : State) : Host.Outcome State Fault Refusal := .next (resXydCopy .iy .b5 .d s)

/-- `RES 5,(IY+d),E`, `FD CB d AB` (R433). -/
def exec_res_5_at_iyd_e (s : State) : Host.Outcome State Fault Refusal := .next (resXydCopy .iy .b5 .e s)

/-- `RES 5,(IY+d),H`, `FD CB d AC` (R433). -/
def exec_res_5_at_iyd_h (s : State) : Host.Outcome State Fault Refusal := .next (resXydCopy .iy .b5 .h s)

/-- `RES 5,(IY+d),L`, `FD CB d AD` (R433). -/
def exec_res_5_at_iyd_l (s : State) : Host.Outcome State Fault Refusal := .next (resXydCopy .iy .b5 .l s)

/-- `RES 5,(IY+d),A`, `FD CB d AF` (R433). -/
def exec_res_5_at_iyd_a (s : State) : Host.Outcome State Fault Refusal := .next (resXydCopy .iy .b5 .a s)

/-- `RES 6,(IY+d),B`, `FD CB d B0` (R433). -/
def exec_res_6_at_iyd_b (s : State) : Host.Outcome State Fault Refusal := .next (resXydCopy .iy .b6 .b s)

/-- `RES 6,(IY+d),C`, `FD CB d B1` (R433). -/
def exec_res_6_at_iyd_c (s : State) : Host.Outcome State Fault Refusal := .next (resXydCopy .iy .b6 .c s)

/-- `RES 6,(IY+d),D`, `FD CB d B2` (R433). -/
def exec_res_6_at_iyd_d (s : State) : Host.Outcome State Fault Refusal := .next (resXydCopy .iy .b6 .d s)

/-- `RES 6,(IY+d),E`, `FD CB d B3` (R433). -/
def exec_res_6_at_iyd_e (s : State) : Host.Outcome State Fault Refusal := .next (resXydCopy .iy .b6 .e s)

/-- `RES 6,(IY+d),H`, `FD CB d B4` (R433). -/
def exec_res_6_at_iyd_h (s : State) : Host.Outcome State Fault Refusal := .next (resXydCopy .iy .b6 .h s)

/-- `RES 6,(IY+d),L`, `FD CB d B5` (R433). -/
def exec_res_6_at_iyd_l (s : State) : Host.Outcome State Fault Refusal := .next (resXydCopy .iy .b6 .l s)

/-- `RES 6,(IY+d),A`, `FD CB d B7` (R433). -/
def exec_res_6_at_iyd_a (s : State) : Host.Outcome State Fault Refusal := .next (resXydCopy .iy .b6 .a s)

/-- `RES 7,(IY+d),B`, `FD CB d B8` (R433). -/
def exec_res_7_at_iyd_b (s : State) : Host.Outcome State Fault Refusal := .next (resXydCopy .iy .b7 .b s)

/-- `RES 7,(IY+d),C`, `FD CB d B9` (R433). -/
def exec_res_7_at_iyd_c (s : State) : Host.Outcome State Fault Refusal := .next (resXydCopy .iy .b7 .c s)

/-- `RES 7,(IY+d),D`, `FD CB d BA` (R433). -/
def exec_res_7_at_iyd_d (s : State) : Host.Outcome State Fault Refusal := .next (resXydCopy .iy .b7 .d s)

/-- `RES 7,(IY+d),E`, `FD CB d BB` (R433). -/
def exec_res_7_at_iyd_e (s : State) : Host.Outcome State Fault Refusal := .next (resXydCopy .iy .b7 .e s)

/-- `RES 7,(IY+d),H`, `FD CB d BC` (R433). -/
def exec_res_7_at_iyd_h (s : State) : Host.Outcome State Fault Refusal := .next (resXydCopy .iy .b7 .h s)

/-- `RES 7,(IY+d),L`, `FD CB d BD` (R433). -/
def exec_res_7_at_iyd_l (s : State) : Host.Outcome State Fault Refusal := .next (resXydCopy .iy .b7 .l s)

/-- `RES 7,(IY+d),A`, `FD CB d BF` (R433). -/
def exec_res_7_at_iyd_a (s : State) : Host.Outcome State Fault Refusal := .next (resXydCopy .iy .b7 .a s)

/-- `SET 0,(IX+d)`, `DD CB d C6` (R433). -/
def exec_set_0_at_ixd (s : State) : Host.Outcome State Fault Refusal := .next (setXyd .ix .b0 s)

/-- `SET 1,(IX+d)`, `DD CB d CE` (R433). -/
def exec_set_1_at_ixd (s : State) : Host.Outcome State Fault Refusal := .next (setXyd .ix .b1 s)

/-- `SET 2,(IX+d)`, `DD CB d D6` (R433). -/
def exec_set_2_at_ixd (s : State) : Host.Outcome State Fault Refusal := .next (setXyd .ix .b2 s)

/-- `SET 3,(IX+d)`, `DD CB d DE` (R433). -/
def exec_set_3_at_ixd (s : State) : Host.Outcome State Fault Refusal := .next (setXyd .ix .b3 s)

/-- `SET 4,(IX+d)`, `DD CB d E6` (R433). -/
def exec_set_4_at_ixd (s : State) : Host.Outcome State Fault Refusal := .next (setXyd .ix .b4 s)

/-- `SET 5,(IX+d)`, `DD CB d EE` (R433). -/
def exec_set_5_at_ixd (s : State) : Host.Outcome State Fault Refusal := .next (setXyd .ix .b5 s)

/-- `SET 6,(IX+d)`, `DD CB d F6` (R433). -/
def exec_set_6_at_ixd (s : State) : Host.Outcome State Fault Refusal := .next (setXyd .ix .b6 s)

/-- `SET 7,(IX+d)`, `DD CB d FE` (R433). -/
def exec_set_7_at_ixd (s : State) : Host.Outcome State Fault Refusal := .next (setXyd .ix .b7 s)

/-- `SET 0,(IY+d)`, `FD CB d C6` (R433). -/
def exec_set_0_at_iyd (s : State) : Host.Outcome State Fault Refusal := .next (setXyd .iy .b0 s)

/-- `SET 1,(IY+d)`, `FD CB d CE` (R433). -/
def exec_set_1_at_iyd (s : State) : Host.Outcome State Fault Refusal := .next (setXyd .iy .b1 s)

/-- `SET 2,(IY+d)`, `FD CB d D6` (R433). -/
def exec_set_2_at_iyd (s : State) : Host.Outcome State Fault Refusal := .next (setXyd .iy .b2 s)

/-- `SET 3,(IY+d)`, `FD CB d DE` (R433). -/
def exec_set_3_at_iyd (s : State) : Host.Outcome State Fault Refusal := .next (setXyd .iy .b3 s)

/-- `SET 4,(IY+d)`, `FD CB d E6` (R433). -/
def exec_set_4_at_iyd (s : State) : Host.Outcome State Fault Refusal := .next (setXyd .iy .b4 s)

/-- `SET 5,(IY+d)`, `FD CB d EE` (R433). -/
def exec_set_5_at_iyd (s : State) : Host.Outcome State Fault Refusal := .next (setXyd .iy .b5 s)

/-- `SET 6,(IY+d)`, `FD CB d F6` (R433). -/
def exec_set_6_at_iyd (s : State) : Host.Outcome State Fault Refusal := .next (setXyd .iy .b6 s)

/-- `SET 7,(IY+d)`, `FD CB d FE` (R433). -/
def exec_set_7_at_iyd (s : State) : Host.Outcome State Fault Refusal := .next (setXyd .iy .b7 s)

/-- `SET 0,(IX+d),B`, `DD CB d C0` (R433). -/
def exec_set_0_at_ixd_b (s : State) : Host.Outcome State Fault Refusal := .next (setXydCopy .ix .b0 .b s)

/-- `SET 0,(IX+d),C`, `DD CB d C1` (R433). -/
def exec_set_0_at_ixd_c (s : State) : Host.Outcome State Fault Refusal := .next (setXydCopy .ix .b0 .c s)

/-- `SET 0,(IX+d),D`, `DD CB d C2` (R433). -/
def exec_set_0_at_ixd_d (s : State) : Host.Outcome State Fault Refusal := .next (setXydCopy .ix .b0 .d s)

/-- `SET 0,(IX+d),E`, `DD CB d C3` (R433). -/
def exec_set_0_at_ixd_e (s : State) : Host.Outcome State Fault Refusal := .next (setXydCopy .ix .b0 .e s)

/-- `SET 0,(IX+d),H`, `DD CB d C4` (R433). -/
def exec_set_0_at_ixd_h (s : State) : Host.Outcome State Fault Refusal := .next (setXydCopy .ix .b0 .h s)

/-- `SET 0,(IX+d),L`, `DD CB d C5` (R433). -/
def exec_set_0_at_ixd_l (s : State) : Host.Outcome State Fault Refusal := .next (setXydCopy .ix .b0 .l s)

/-- `SET 0,(IX+d),A`, `DD CB d C7` (R433). -/
def exec_set_0_at_ixd_a (s : State) : Host.Outcome State Fault Refusal := .next (setXydCopy .ix .b0 .a s)

/-- `SET 1,(IX+d),B`, `DD CB d C8` (R433). -/
def exec_set_1_at_ixd_b (s : State) : Host.Outcome State Fault Refusal := .next (setXydCopy .ix .b1 .b s)

/-- `SET 1,(IX+d),C`, `DD CB d C9` (R433). -/
def exec_set_1_at_ixd_c (s : State) : Host.Outcome State Fault Refusal := .next (setXydCopy .ix .b1 .c s)

/-- `SET 1,(IX+d),D`, `DD CB d CA` (R433). -/
def exec_set_1_at_ixd_d (s : State) : Host.Outcome State Fault Refusal := .next (setXydCopy .ix .b1 .d s)

/-- `SET 1,(IX+d),E`, `DD CB d CB` (R433). -/
def exec_set_1_at_ixd_e (s : State) : Host.Outcome State Fault Refusal := .next (setXydCopy .ix .b1 .e s)

/-- `SET 1,(IX+d),H`, `DD CB d CC` (R433). -/
def exec_set_1_at_ixd_h (s : State) : Host.Outcome State Fault Refusal := .next (setXydCopy .ix .b1 .h s)

/-- `SET 1,(IX+d),L`, `DD CB d CD` (R433). -/
def exec_set_1_at_ixd_l (s : State) : Host.Outcome State Fault Refusal := .next (setXydCopy .ix .b1 .l s)

/-- `SET 1,(IX+d),A`, `DD CB d CF` (R433). -/
def exec_set_1_at_ixd_a (s : State) : Host.Outcome State Fault Refusal := .next (setXydCopy .ix .b1 .a s)

/-- `SET 2,(IX+d),B`, `DD CB d D0` (R433). -/
def exec_set_2_at_ixd_b (s : State) : Host.Outcome State Fault Refusal := .next (setXydCopy .ix .b2 .b s)

/-- `SET 2,(IX+d),C`, `DD CB d D1` (R433). -/
def exec_set_2_at_ixd_c (s : State) : Host.Outcome State Fault Refusal := .next (setXydCopy .ix .b2 .c s)

/-- `SET 2,(IX+d),D`, `DD CB d D2` (R433). -/
def exec_set_2_at_ixd_d (s : State) : Host.Outcome State Fault Refusal := .next (setXydCopy .ix .b2 .d s)

/-- `SET 2,(IX+d),E`, `DD CB d D3` (R433). -/
def exec_set_2_at_ixd_e (s : State) : Host.Outcome State Fault Refusal := .next (setXydCopy .ix .b2 .e s)

/-- `SET 2,(IX+d),H`, `DD CB d D4` (R433). -/
def exec_set_2_at_ixd_h (s : State) : Host.Outcome State Fault Refusal := .next (setXydCopy .ix .b2 .h s)

/-- `SET 2,(IX+d),L`, `DD CB d D5` (R433). -/
def exec_set_2_at_ixd_l (s : State) : Host.Outcome State Fault Refusal := .next (setXydCopy .ix .b2 .l s)

/-- `SET 2,(IX+d),A`, `DD CB d D7` (R433). -/
def exec_set_2_at_ixd_a (s : State) : Host.Outcome State Fault Refusal := .next (setXydCopy .ix .b2 .a s)

/-- `SET 3,(IX+d),B`, `DD CB d D8` (R433). -/
def exec_set_3_at_ixd_b (s : State) : Host.Outcome State Fault Refusal := .next (setXydCopy .ix .b3 .b s)

/-- `SET 3,(IX+d),C`, `DD CB d D9` (R433). -/
def exec_set_3_at_ixd_c (s : State) : Host.Outcome State Fault Refusal := .next (setXydCopy .ix .b3 .c s)

/-- `SET 3,(IX+d),D`, `DD CB d DA` (R433). -/
def exec_set_3_at_ixd_d (s : State) : Host.Outcome State Fault Refusal := .next (setXydCopy .ix .b3 .d s)

/-- `SET 3,(IX+d),E`, `DD CB d DB` (R433). -/
def exec_set_3_at_ixd_e (s : State) : Host.Outcome State Fault Refusal := .next (setXydCopy .ix .b3 .e s)

/-- `SET 3,(IX+d),H`, `DD CB d DC` (R433). -/
def exec_set_3_at_ixd_h (s : State) : Host.Outcome State Fault Refusal := .next (setXydCopy .ix .b3 .h s)

/-- `SET 3,(IX+d),L`, `DD CB d DD` (R433). -/
def exec_set_3_at_ixd_l (s : State) : Host.Outcome State Fault Refusal := .next (setXydCopy .ix .b3 .l s)

/-- `SET 3,(IX+d),A`, `DD CB d DF` (R433). -/
def exec_set_3_at_ixd_a (s : State) : Host.Outcome State Fault Refusal := .next (setXydCopy .ix .b3 .a s)

/-- `SET 4,(IX+d),B`, `DD CB d E0` (R433). -/
def exec_set_4_at_ixd_b (s : State) : Host.Outcome State Fault Refusal := .next (setXydCopy .ix .b4 .b s)

/-- `SET 4,(IX+d),C`, `DD CB d E1` (R433). -/
def exec_set_4_at_ixd_c (s : State) : Host.Outcome State Fault Refusal := .next (setXydCopy .ix .b4 .c s)

/-- `SET 4,(IX+d),D`, `DD CB d E2` (R433). -/
def exec_set_4_at_ixd_d (s : State) : Host.Outcome State Fault Refusal := .next (setXydCopy .ix .b4 .d s)

/-- `SET 4,(IX+d),E`, `DD CB d E3` (R433). -/
def exec_set_4_at_ixd_e (s : State) : Host.Outcome State Fault Refusal := .next (setXydCopy .ix .b4 .e s)

/-- `SET 4,(IX+d),H`, `DD CB d E4` (R433). -/
def exec_set_4_at_ixd_h (s : State) : Host.Outcome State Fault Refusal := .next (setXydCopy .ix .b4 .h s)

/-- `SET 4,(IX+d),L`, `DD CB d E5` (R433). -/
def exec_set_4_at_ixd_l (s : State) : Host.Outcome State Fault Refusal := .next (setXydCopy .ix .b4 .l s)

/-- `SET 4,(IX+d),A`, `DD CB d E7` (R433). -/
def exec_set_4_at_ixd_a (s : State) : Host.Outcome State Fault Refusal := .next (setXydCopy .ix .b4 .a s)

/-- `SET 5,(IX+d),B`, `DD CB d E8` (R433). -/
def exec_set_5_at_ixd_b (s : State) : Host.Outcome State Fault Refusal := .next (setXydCopy .ix .b5 .b s)

/-- `SET 5,(IX+d),C`, `DD CB d E9` (R433). -/
def exec_set_5_at_ixd_c (s : State) : Host.Outcome State Fault Refusal := .next (setXydCopy .ix .b5 .c s)

/-- `SET 5,(IX+d),D`, `DD CB d EA` (R433). -/
def exec_set_5_at_ixd_d (s : State) : Host.Outcome State Fault Refusal := .next (setXydCopy .ix .b5 .d s)

/-- `SET 5,(IX+d),E`, `DD CB d EB` (R433). -/
def exec_set_5_at_ixd_e (s : State) : Host.Outcome State Fault Refusal := .next (setXydCopy .ix .b5 .e s)

/-- `SET 5,(IX+d),H`, `DD CB d EC` (R433). -/
def exec_set_5_at_ixd_h (s : State) : Host.Outcome State Fault Refusal := .next (setXydCopy .ix .b5 .h s)

/-- `SET 5,(IX+d),L`, `DD CB d ED` (R433). -/
def exec_set_5_at_ixd_l (s : State) : Host.Outcome State Fault Refusal := .next (setXydCopy .ix .b5 .l s)

/-- `SET 5,(IX+d),A`, `DD CB d EF` (R433). -/
def exec_set_5_at_ixd_a (s : State) : Host.Outcome State Fault Refusal := .next (setXydCopy .ix .b5 .a s)

/-- `SET 6,(IX+d),B`, `DD CB d F0` (R433). -/
def exec_set_6_at_ixd_b (s : State) : Host.Outcome State Fault Refusal := .next (setXydCopy .ix .b6 .b s)

/-- `SET 6,(IX+d),C`, `DD CB d F1` (R433). -/
def exec_set_6_at_ixd_c (s : State) : Host.Outcome State Fault Refusal := .next (setXydCopy .ix .b6 .c s)

/-- `SET 6,(IX+d),D`, `DD CB d F2` (R433). -/
def exec_set_6_at_ixd_d (s : State) : Host.Outcome State Fault Refusal := .next (setXydCopy .ix .b6 .d s)

/-- `SET 6,(IX+d),E`, `DD CB d F3` (R433). -/
def exec_set_6_at_ixd_e (s : State) : Host.Outcome State Fault Refusal := .next (setXydCopy .ix .b6 .e s)

/-- `SET 6,(IX+d),H`, `DD CB d F4` (R433). -/
def exec_set_6_at_ixd_h (s : State) : Host.Outcome State Fault Refusal := .next (setXydCopy .ix .b6 .h s)

/-- `SET 6,(IX+d),L`, `DD CB d F5` (R433). -/
def exec_set_6_at_ixd_l (s : State) : Host.Outcome State Fault Refusal := .next (setXydCopy .ix .b6 .l s)

/-- `SET 6,(IX+d),A`, `DD CB d F7` (R433). -/
def exec_set_6_at_ixd_a (s : State) : Host.Outcome State Fault Refusal := .next (setXydCopy .ix .b6 .a s)

/-- `SET 7,(IX+d),B`, `DD CB d F8` (R433). -/
def exec_set_7_at_ixd_b (s : State) : Host.Outcome State Fault Refusal := .next (setXydCopy .ix .b7 .b s)

/-- `SET 7,(IX+d),C`, `DD CB d F9` (R433). -/
def exec_set_7_at_ixd_c (s : State) : Host.Outcome State Fault Refusal := .next (setXydCopy .ix .b7 .c s)

/-- `SET 7,(IX+d),D`, `DD CB d FA` (R433). -/
def exec_set_7_at_ixd_d (s : State) : Host.Outcome State Fault Refusal := .next (setXydCopy .ix .b7 .d s)

/-- `SET 7,(IX+d),E`, `DD CB d FB` (R433). -/
def exec_set_7_at_ixd_e (s : State) : Host.Outcome State Fault Refusal := .next (setXydCopy .ix .b7 .e s)

/-- `SET 7,(IX+d),H`, `DD CB d FC` (R433). -/
def exec_set_7_at_ixd_h (s : State) : Host.Outcome State Fault Refusal := .next (setXydCopy .ix .b7 .h s)

/-- `SET 7,(IX+d),L`, `DD CB d FD` (R433). -/
def exec_set_7_at_ixd_l (s : State) : Host.Outcome State Fault Refusal := .next (setXydCopy .ix .b7 .l s)

/-- `SET 7,(IX+d),A`, `DD CB d FF` (R433). -/
def exec_set_7_at_ixd_a (s : State) : Host.Outcome State Fault Refusal := .next (setXydCopy .ix .b7 .a s)

/-- `SET 0,(IY+d),B`, `FD CB d C0` (R433). -/
def exec_set_0_at_iyd_b (s : State) : Host.Outcome State Fault Refusal := .next (setXydCopy .iy .b0 .b s)

/-- `SET 0,(IY+d),C`, `FD CB d C1` (R433). -/
def exec_set_0_at_iyd_c (s : State) : Host.Outcome State Fault Refusal := .next (setXydCopy .iy .b0 .c s)

/-- `SET 0,(IY+d),D`, `FD CB d C2` (R433). -/
def exec_set_0_at_iyd_d (s : State) : Host.Outcome State Fault Refusal := .next (setXydCopy .iy .b0 .d s)

/-- `SET 0,(IY+d),E`, `FD CB d C3` (R433). -/
def exec_set_0_at_iyd_e (s : State) : Host.Outcome State Fault Refusal := .next (setXydCopy .iy .b0 .e s)

/-- `SET 0,(IY+d),H`, `FD CB d C4` (R433). -/
def exec_set_0_at_iyd_h (s : State) : Host.Outcome State Fault Refusal := .next (setXydCopy .iy .b0 .h s)

/-- `SET 0,(IY+d),L`, `FD CB d C5` (R433). -/
def exec_set_0_at_iyd_l (s : State) : Host.Outcome State Fault Refusal := .next (setXydCopy .iy .b0 .l s)

/-- `SET 0,(IY+d),A`, `FD CB d C7` (R433). -/
def exec_set_0_at_iyd_a (s : State) : Host.Outcome State Fault Refusal := .next (setXydCopy .iy .b0 .a s)

/-- `SET 1,(IY+d),B`, `FD CB d C8` (R433). -/
def exec_set_1_at_iyd_b (s : State) : Host.Outcome State Fault Refusal := .next (setXydCopy .iy .b1 .b s)

/-- `SET 1,(IY+d),C`, `FD CB d C9` (R433). -/
def exec_set_1_at_iyd_c (s : State) : Host.Outcome State Fault Refusal := .next (setXydCopy .iy .b1 .c s)

/-- `SET 1,(IY+d),D`, `FD CB d CA` (R433). -/
def exec_set_1_at_iyd_d (s : State) : Host.Outcome State Fault Refusal := .next (setXydCopy .iy .b1 .d s)

/-- `SET 1,(IY+d),E`, `FD CB d CB` (R433). -/
def exec_set_1_at_iyd_e (s : State) : Host.Outcome State Fault Refusal := .next (setXydCopy .iy .b1 .e s)

/-- `SET 1,(IY+d),H`, `FD CB d CC` (R433). -/
def exec_set_1_at_iyd_h (s : State) : Host.Outcome State Fault Refusal := .next (setXydCopy .iy .b1 .h s)

/-- `SET 1,(IY+d),L`, `FD CB d CD` (R433). -/
def exec_set_1_at_iyd_l (s : State) : Host.Outcome State Fault Refusal := .next (setXydCopy .iy .b1 .l s)

/-- `SET 1,(IY+d),A`, `FD CB d CF` (R433). -/
def exec_set_1_at_iyd_a (s : State) : Host.Outcome State Fault Refusal := .next (setXydCopy .iy .b1 .a s)

/-- `SET 2,(IY+d),B`, `FD CB d D0` (R433). -/
def exec_set_2_at_iyd_b (s : State) : Host.Outcome State Fault Refusal := .next (setXydCopy .iy .b2 .b s)

/-- `SET 2,(IY+d),C`, `FD CB d D1` (R433). -/
def exec_set_2_at_iyd_c (s : State) : Host.Outcome State Fault Refusal := .next (setXydCopy .iy .b2 .c s)

/-- `SET 2,(IY+d),D`, `FD CB d D2` (R433). -/
def exec_set_2_at_iyd_d (s : State) : Host.Outcome State Fault Refusal := .next (setXydCopy .iy .b2 .d s)

/-- `SET 2,(IY+d),E`, `FD CB d D3` (R433). -/
def exec_set_2_at_iyd_e (s : State) : Host.Outcome State Fault Refusal := .next (setXydCopy .iy .b2 .e s)

/-- `SET 2,(IY+d),H`, `FD CB d D4` (R433). -/
def exec_set_2_at_iyd_h (s : State) : Host.Outcome State Fault Refusal := .next (setXydCopy .iy .b2 .h s)

/-- `SET 2,(IY+d),L`, `FD CB d D5` (R433). -/
def exec_set_2_at_iyd_l (s : State) : Host.Outcome State Fault Refusal := .next (setXydCopy .iy .b2 .l s)

/-- `SET 2,(IY+d),A`, `FD CB d D7` (R433). -/
def exec_set_2_at_iyd_a (s : State) : Host.Outcome State Fault Refusal := .next (setXydCopy .iy .b2 .a s)

/-- `SET 3,(IY+d),B`, `FD CB d D8` (R433). -/
def exec_set_3_at_iyd_b (s : State) : Host.Outcome State Fault Refusal := .next (setXydCopy .iy .b3 .b s)

/-- `SET 3,(IY+d),C`, `FD CB d D9` (R433). -/
def exec_set_3_at_iyd_c (s : State) : Host.Outcome State Fault Refusal := .next (setXydCopy .iy .b3 .c s)

/-- `SET 3,(IY+d),D`, `FD CB d DA` (R433). -/
def exec_set_3_at_iyd_d (s : State) : Host.Outcome State Fault Refusal := .next (setXydCopy .iy .b3 .d s)

/-- `SET 3,(IY+d),E`, `FD CB d DB` (R433). -/
def exec_set_3_at_iyd_e (s : State) : Host.Outcome State Fault Refusal := .next (setXydCopy .iy .b3 .e s)

/-- `SET 3,(IY+d),H`, `FD CB d DC` (R433). -/
def exec_set_3_at_iyd_h (s : State) : Host.Outcome State Fault Refusal := .next (setXydCopy .iy .b3 .h s)

/-- `SET 3,(IY+d),L`, `FD CB d DD` (R433). -/
def exec_set_3_at_iyd_l (s : State) : Host.Outcome State Fault Refusal := .next (setXydCopy .iy .b3 .l s)

/-- `SET 3,(IY+d),A`, `FD CB d DF` (R433). -/
def exec_set_3_at_iyd_a (s : State) : Host.Outcome State Fault Refusal := .next (setXydCopy .iy .b3 .a s)

/-- `SET 4,(IY+d),B`, `FD CB d E0` (R433). -/
def exec_set_4_at_iyd_b (s : State) : Host.Outcome State Fault Refusal := .next (setXydCopy .iy .b4 .b s)

/-- `SET 4,(IY+d),C`, `FD CB d E1` (R433). -/
def exec_set_4_at_iyd_c (s : State) : Host.Outcome State Fault Refusal := .next (setXydCopy .iy .b4 .c s)

/-- `SET 4,(IY+d),D`, `FD CB d E2` (R433). -/
def exec_set_4_at_iyd_d (s : State) : Host.Outcome State Fault Refusal := .next (setXydCopy .iy .b4 .d s)

/-- `SET 4,(IY+d),E`, `FD CB d E3` (R433). -/
def exec_set_4_at_iyd_e (s : State) : Host.Outcome State Fault Refusal := .next (setXydCopy .iy .b4 .e s)

/-- `SET 4,(IY+d),H`, `FD CB d E4` (R433). -/
def exec_set_4_at_iyd_h (s : State) : Host.Outcome State Fault Refusal := .next (setXydCopy .iy .b4 .h s)

/-- `SET 4,(IY+d),L`, `FD CB d E5` (R433). -/
def exec_set_4_at_iyd_l (s : State) : Host.Outcome State Fault Refusal := .next (setXydCopy .iy .b4 .l s)

/-- `SET 4,(IY+d),A`, `FD CB d E7` (R433). -/
def exec_set_4_at_iyd_a (s : State) : Host.Outcome State Fault Refusal := .next (setXydCopy .iy .b4 .a s)

/-- `SET 5,(IY+d),B`, `FD CB d E8` (R433). -/
def exec_set_5_at_iyd_b (s : State) : Host.Outcome State Fault Refusal := .next (setXydCopy .iy .b5 .b s)

/-- `SET 5,(IY+d),C`, `FD CB d E9` (R433). -/
def exec_set_5_at_iyd_c (s : State) : Host.Outcome State Fault Refusal := .next (setXydCopy .iy .b5 .c s)

/-- `SET 5,(IY+d),D`, `FD CB d EA` (R433). -/
def exec_set_5_at_iyd_d (s : State) : Host.Outcome State Fault Refusal := .next (setXydCopy .iy .b5 .d s)

/-- `SET 5,(IY+d),E`, `FD CB d EB` (R433). -/
def exec_set_5_at_iyd_e (s : State) : Host.Outcome State Fault Refusal := .next (setXydCopy .iy .b5 .e s)

/-- `SET 5,(IY+d),H`, `FD CB d EC` (R433). -/
def exec_set_5_at_iyd_h (s : State) : Host.Outcome State Fault Refusal := .next (setXydCopy .iy .b5 .h s)

/-- `SET 5,(IY+d),L`, `FD CB d ED` (R433). -/
def exec_set_5_at_iyd_l (s : State) : Host.Outcome State Fault Refusal := .next (setXydCopy .iy .b5 .l s)

/-- `SET 5,(IY+d),A`, `FD CB d EF` (R433). -/
def exec_set_5_at_iyd_a (s : State) : Host.Outcome State Fault Refusal := .next (setXydCopy .iy .b5 .a s)

/-- `SET 6,(IY+d),B`, `FD CB d F0` (R433). -/
def exec_set_6_at_iyd_b (s : State) : Host.Outcome State Fault Refusal := .next (setXydCopy .iy .b6 .b s)

/-- `SET 6,(IY+d),C`, `FD CB d F1` (R433). -/
def exec_set_6_at_iyd_c (s : State) : Host.Outcome State Fault Refusal := .next (setXydCopy .iy .b6 .c s)

/-- `SET 6,(IY+d),D`, `FD CB d F2` (R433). -/
def exec_set_6_at_iyd_d (s : State) : Host.Outcome State Fault Refusal := .next (setXydCopy .iy .b6 .d s)

/-- `SET 6,(IY+d),E`, `FD CB d F3` (R433). -/
def exec_set_6_at_iyd_e (s : State) : Host.Outcome State Fault Refusal := .next (setXydCopy .iy .b6 .e s)

/-- `SET 6,(IY+d),H`, `FD CB d F4` (R433). -/
def exec_set_6_at_iyd_h (s : State) : Host.Outcome State Fault Refusal := .next (setXydCopy .iy .b6 .h s)

/-- `SET 6,(IY+d),L`, `FD CB d F5` (R433). -/
def exec_set_6_at_iyd_l (s : State) : Host.Outcome State Fault Refusal := .next (setXydCopy .iy .b6 .l s)

/-- `SET 6,(IY+d),A`, `FD CB d F7` (R433). -/
def exec_set_6_at_iyd_a (s : State) : Host.Outcome State Fault Refusal := .next (setXydCopy .iy .b6 .a s)

/-- `SET 7,(IY+d),B`, `FD CB d F8` (R433). -/
def exec_set_7_at_iyd_b (s : State) : Host.Outcome State Fault Refusal := .next (setXydCopy .iy .b7 .b s)

/-- `SET 7,(IY+d),C`, `FD CB d F9` (R433). -/
def exec_set_7_at_iyd_c (s : State) : Host.Outcome State Fault Refusal := .next (setXydCopy .iy .b7 .c s)

/-- `SET 7,(IY+d),D`, `FD CB d FA` (R433). -/
def exec_set_7_at_iyd_d (s : State) : Host.Outcome State Fault Refusal := .next (setXydCopy .iy .b7 .d s)

/-- `SET 7,(IY+d),E`, `FD CB d FB` (R433). -/
def exec_set_7_at_iyd_e (s : State) : Host.Outcome State Fault Refusal := .next (setXydCopy .iy .b7 .e s)

/-- `SET 7,(IY+d),H`, `FD CB d FC` (R433). -/
def exec_set_7_at_iyd_h (s : State) : Host.Outcome State Fault Refusal := .next (setXydCopy .iy .b7 .h s)

/-- `SET 7,(IY+d),L`, `FD CB d FD` (R433). -/
def exec_set_7_at_iyd_l (s : State) : Host.Outcome State Fault Refusal := .next (setXydCopy .iy .b7 .l s)

/-- `SET 7,(IY+d),A`, `FD CB d FF` (R433). -/
def exec_set_7_at_iyd_a (s : State) : Host.Outcome State Fault Refusal := .next (setXydCopy .iy .b7 .a s)

end Sys2Proof.Machine
end

