-- ==== Sys2Proof/Machine/System.lean ====
section
/-! DEFINITION. CPU control and port instructions of the standard table (45_system_io.md) and the four prefix bytes
(41_dispatch_prefix.md R162, R163): one shared operation per rule, then the meaning of each instruction over it. -/

namespace Sys2Proof.Machine

/-- R340. -/
def nop (s : State) : State := s

/-- R341: `PC` goes back to the `HALT` opcode. -/
def halt (s : State) : State := { s with sig.halted := true, pc := s.pc - 1#16 }

/-- R342. -/
def di (s : State) : State := { s with iff1 := false, iff2 := false }

/-- R343: `blocked` was cleared before this runs (R164) and holds an interrupt off for one more instruction. -/
def ei (s : State) : State := { s with iff1 := true, iff2 := true, blocked := true }

/-- R344: `A` on address bits 15 to 8. -/
def inA (s : State) : State :=
  let port := pairOf s.regs.a (s.byteAt s.pc)
  let t := s.imm8.setWz (port + 1#16)
  (t.portRd port).setA (t.portAnswer port)

/-- R345. -/
def outA (s : State) : State :=
  let n := s.byteAt s.pc
  (s.imm8.portWr (pairOf s.regs.a n) s.regs.a).setWz (pairOf s.regs.a (n + 1#8))

/-- The last lines of R162 and R163. -/
def State.holdOff (s : State) : State := { s with blocked := true, inOp := true }

/-- `CB`: an index latch stays (R162, R163). -/
def prefixCb (s : State) : State := { s.holdOff with prefixMode := .bit }

/-- `DD`: the later index prefix wins (R162, R163). -/
def prefixDd (s : State) : State := { s.holdOff with indexMode := .ix }

/-- `ED`: an index latch is forgotten (R162, R163). -/
def prefixEd (s : State) : State := { s.holdOff with prefixMode := .extended, indexMode := .none }

/-- `FD`: the later index prefix wins (R162, R163). -/
def prefixFd (s : State) : State := { s.holdOff with indexMode := .iy }

/-! ## The meaning of each instruction -/

/-- `NOP`, `00` (R340). -/
def exec_nop (s : State) : Host.Outcome State Fault Refusal := .next (nop s)

/-- `HALT`, `76` (R341). -/
def exec_halt (s : State) : Host.Outcome State Fault Refusal := .next (halt s)

/-- `DI`, `F3` (R342). -/
def exec_di (s : State) : Host.Outcome State Fault Refusal := .next (di s)

/-- `EI`, `FB` (R343). -/
def exec_ei (s : State) : Host.Outcome State Fault Refusal := .next (ei s)

/-- `IN A,(n)`, `DB n` (R344). -/
def exec_in_a_at_n (s : State) : Host.Outcome State Fault Refusal := .next (inA s)

/-- `OUT (n),A`, `D3 n` (R345). -/
def exec_out_at_n_a (s : State) : Host.Outcome State Fault Refusal := .next (outA s)

/-- `prefix CB`, `CB` (R162). -/
def exec_prefix_cb (s : State) : Host.Outcome State Fault Refusal := .next (prefixCb s)

/-- `prefix DD`, `DD` (R162). -/
def exec_prefix_dd (s : State) : Host.Outcome State Fault Refusal := .next (prefixDd s)

/-- `prefix ED`, `ED` (R162). -/
def exec_prefix_ed (s : State) : Host.Outcome State Fault Refusal := .next (prefixEd s)

/-- `prefix FD`, `FD` (R162). -/
def exec_prefix_fd (s : State) : Host.Outcome State Fault Refusal := .next (prefixFd s)

end Sys2Proof.Machine
end

