-- ==== Sys2Proof/Machine/Dispatch.lean ====
section
/-! DEFINITION. One arm for each constructor of `Instr`: a direct call of its meaning. -/

namespace Sys2Proof.Machine

def exec (i : Instr) (s : State) : Host.Outcome State Fault Refusal :=
  match i with
  | .bit_0_at_ixd z => Sys2Proof.Machine.exec_bit_0_at_ixd z s
  | .bit_1_at_ixd z => Sys2Proof.Machine.exec_bit_1_at_ixd z s
  | .bit_2_at_ixd z => Sys2Proof.Machine.exec_bit_2_at_ixd z s
  | .bit_3_at_ixd z => Sys2Proof.Machine.exec_bit_3_at_ixd z s
  | .bit_4_at_ixd z => Sys2Proof.Machine.exec_bit_4_at_ixd z s
  | .bit_5_at_ixd z => Sys2Proof.Machine.exec_bit_5_at_ixd z s
  | .bit_6_at_ixd z => Sys2Proof.Machine.exec_bit_6_at_ixd z s
  | .bit_7_at_ixd z => Sys2Proof.Machine.exec_bit_7_at_ixd z s
  | .bit_0_at_iyd z => Sys2Proof.Machine.exec_bit_0_at_iyd z s
  | .bit_1_at_iyd z => Sys2Proof.Machine.exec_bit_1_at_iyd z s
  | .bit_2_at_iyd z => Sys2Proof.Machine.exec_bit_2_at_iyd z s
  | .bit_3_at_iyd z => Sys2Proof.Machine.exec_bit_3_at_iyd z s
  | .bit_4_at_iyd z => Sys2Proof.Machine.exec_bit_4_at_iyd z s
  | .bit_5_at_iyd z => Sys2Proof.Machine.exec_bit_5_at_iyd z s
  | .bit_6_at_iyd z => Sys2Proof.Machine.exec_bit_6_at_iyd z s
  | .bit_7_at_iyd z => Sys2Proof.Machine.exec_bit_7_at_iyd z s
  | .nop_ed op => Sys2Proof.Machine.exec_nop_ed op s
  | .neg y => Sys2Proof.Machine.exec_neg y s
  | .retn y => Sys2Proof.Machine.exec_retn y s
  | .im_0 y => Sys2Proof.Machine.exec_im_0 y s
  | .im_1 y => Sys2Proof.Machine.exec_im_1 y s
  | .im_2 y => Sys2Proof.Machine.exec_im_2 y s
  | .nop => Sys2Proof.Machine.exec_nop s
  | .ld_bc_nn => Sys2Proof.Machine.exec_ld_bc_nn s
  | .ld_at_bc_a => Sys2Proof.Machine.exec_ld_at_bc_a s
  | .inc_bc => Sys2Proof.Machine.exec_inc_bc s
  | .inc_b => Sys2Proof.Machine.exec_inc_b s
  | .dec_b => Sys2Proof.Machine.exec_dec_b s
  | .ld_b_n => Sys2Proof.Machine.exec_ld_b_n s
  | .rlca => Sys2Proof.Machine.exec_rlca s
  | .ex_af_af => Sys2Proof.Machine.exec_ex_af_af s
  | .add_hl_bc => Sys2Proof.Machine.exec_add_hl_bc s
  | .ld_a_at_bc => Sys2Proof.Machine.exec_ld_a_at_bc s
  | .dec_bc => Sys2Proof.Machine.exec_dec_bc s
  | .inc_c => Sys2Proof.Machine.exec_inc_c s
  | .dec_c => Sys2Proof.Machine.exec_dec_c s
  | .ld_c_n => Sys2Proof.Machine.exec_ld_c_n s
  | .rrca => Sys2Proof.Machine.exec_rrca s
  | .djnz_e => Sys2Proof.Machine.exec_djnz_e s
  | .ld_de_nn => Sys2Proof.Machine.exec_ld_de_nn s
  | .ld_at_de_a => Sys2Proof.Machine.exec_ld_at_de_a s
  | .inc_de => Sys2Proof.Machine.exec_inc_de s
  | .inc_d => Sys2Proof.Machine.exec_inc_d s
  | .dec_d => Sys2Proof.Machine.exec_dec_d s
  | .ld_d_n => Sys2Proof.Machine.exec_ld_d_n s
  | .rla => Sys2Proof.Machine.exec_rla s
  | .jr_e => Sys2Proof.Machine.exec_jr_e s
  | .add_hl_de => Sys2Proof.Machine.exec_add_hl_de s
  | .ld_a_at_de => Sys2Proof.Machine.exec_ld_a_at_de s
  | .dec_de => Sys2Proof.Machine.exec_dec_de s
  | .inc_e => Sys2Proof.Machine.exec_inc_e s
  | .dec_e => Sys2Proof.Machine.exec_dec_e s
  | .ld_e_n => Sys2Proof.Machine.exec_ld_e_n s
  | .rra => Sys2Proof.Machine.exec_rra s
  | .jr_nz_e => Sys2Proof.Machine.exec_jr_nz_e s
  | .ld_hl_nn => Sys2Proof.Machine.exec_ld_hl_nn s
  | .ld_at_nn_hl => Sys2Proof.Machine.exec_ld_at_nn_hl s
  | .inc_hl => Sys2Proof.Machine.exec_inc_hl s
  | .inc_h => Sys2Proof.Machine.exec_inc_h s
  | .dec_h => Sys2Proof.Machine.exec_dec_h s
  | .ld_h_n => Sys2Proof.Machine.exec_ld_h_n s
  | .daa => Sys2Proof.Machine.exec_daa s
  | .jr_z_e => Sys2Proof.Machine.exec_jr_z_e s
  | .add_hl_hl => Sys2Proof.Machine.exec_add_hl_hl s
  | .ld_hl_at_nn => Sys2Proof.Machine.exec_ld_hl_at_nn s
  | .dec_hl => Sys2Proof.Machine.exec_dec_hl s
  | .inc_l => Sys2Proof.Machine.exec_inc_l s
  | .dec_l => Sys2Proof.Machine.exec_dec_l s
  | .ld_l_n => Sys2Proof.Machine.exec_ld_l_n s
  | .cpl => Sys2Proof.Machine.exec_cpl s
  | .jr_nc_e => Sys2Proof.Machine.exec_jr_nc_e s
  | .ld_sp_nn => Sys2Proof.Machine.exec_ld_sp_nn s
  | .ld_at_nn_a => Sys2Proof.Machine.exec_ld_at_nn_a s
  | .inc_sp => Sys2Proof.Machine.exec_inc_sp s
  | .inc_at_hl => Sys2Proof.Machine.exec_inc_at_hl s
  | .dec_at_hl => Sys2Proof.Machine.exec_dec_at_hl s
  | .ld_at_hl_n => Sys2Proof.Machine.exec_ld_at_hl_n s
  | .scf => Sys2Proof.Machine.exec_scf s
  | .jr_c_e => Sys2Proof.Machine.exec_jr_c_e s
  | .add_hl_sp => Sys2Proof.Machine.exec_add_hl_sp s
  | .ld_a_at_nn => Sys2Proof.Machine.exec_ld_a_at_nn s
  | .dec_sp => Sys2Proof.Machine.exec_dec_sp s
  | .inc_a => Sys2Proof.Machine.exec_inc_a s
  | .dec_a => Sys2Proof.Machine.exec_dec_a s
  | .ld_a_n => Sys2Proof.Machine.exec_ld_a_n s
  | .ccf => Sys2Proof.Machine.exec_ccf s
  | .ld_b_b => Sys2Proof.Machine.exec_ld_b_b s
  | .ld_b_c => Sys2Proof.Machine.exec_ld_b_c s
  | .ld_b_d => Sys2Proof.Machine.exec_ld_b_d s
  | .ld_b_e => Sys2Proof.Machine.exec_ld_b_e s
  | .ld_b_h => Sys2Proof.Machine.exec_ld_b_h s
  | .ld_b_l => Sys2Proof.Machine.exec_ld_b_l s
  | .ld_b_at_hl => Sys2Proof.Machine.exec_ld_b_at_hl s
  | .ld_b_a => Sys2Proof.Machine.exec_ld_b_a s
  | .ld_c_b => Sys2Proof.Machine.exec_ld_c_b s
  | .ld_c_c => Sys2Proof.Machine.exec_ld_c_c s
  | .ld_c_d => Sys2Proof.Machine.exec_ld_c_d s
  | .ld_c_e => Sys2Proof.Machine.exec_ld_c_e s
  | .ld_c_h => Sys2Proof.Machine.exec_ld_c_h s
  | .ld_c_l => Sys2Proof.Machine.exec_ld_c_l s
  | .ld_c_at_hl => Sys2Proof.Machine.exec_ld_c_at_hl s
  | .ld_c_a => Sys2Proof.Machine.exec_ld_c_a s
  | .ld_d_b => Sys2Proof.Machine.exec_ld_d_b s
  | .ld_d_c => Sys2Proof.Machine.exec_ld_d_c s
  | .ld_d_d => Sys2Proof.Machine.exec_ld_d_d s
  | .ld_d_e => Sys2Proof.Machine.exec_ld_d_e s
  | .ld_d_h => Sys2Proof.Machine.exec_ld_d_h s
  | .ld_d_l => Sys2Proof.Machine.exec_ld_d_l s
  | .ld_d_at_hl => Sys2Proof.Machine.exec_ld_d_at_hl s
  | .ld_d_a => Sys2Proof.Machine.exec_ld_d_a s
  | .ld_e_b => Sys2Proof.Machine.exec_ld_e_b s
  | .ld_e_c => Sys2Proof.Machine.exec_ld_e_c s
  | .ld_e_d => Sys2Proof.Machine.exec_ld_e_d s
  | .ld_e_e => Sys2Proof.Machine.exec_ld_e_e s
  | .ld_e_h => Sys2Proof.Machine.exec_ld_e_h s
  | .ld_e_l => Sys2Proof.Machine.exec_ld_e_l s
  | .ld_e_at_hl => Sys2Proof.Machine.exec_ld_e_at_hl s
  | .ld_e_a => Sys2Proof.Machine.exec_ld_e_a s
  | .ld_h_b => Sys2Proof.Machine.exec_ld_h_b s
  | .ld_h_c => Sys2Proof.Machine.exec_ld_h_c s
  | .ld_h_d => Sys2Proof.Machine.exec_ld_h_d s
  | .ld_h_e => Sys2Proof.Machine.exec_ld_h_e s
  | .ld_h_h => Sys2Proof.Machine.exec_ld_h_h s
  | .ld_h_l => Sys2Proof.Machine.exec_ld_h_l s
  | .ld_h_at_hl => Sys2Proof.Machine.exec_ld_h_at_hl s
  | .ld_h_a => Sys2Proof.Machine.exec_ld_h_a s
  | .ld_l_b => Sys2Proof.Machine.exec_ld_l_b s
  | .ld_l_c => Sys2Proof.Machine.exec_ld_l_c s
  | .ld_l_d => Sys2Proof.Machine.exec_ld_l_d s
  | .ld_l_e => Sys2Proof.Machine.exec_ld_l_e s
  | .ld_l_h => Sys2Proof.Machine.exec_ld_l_h s
  | .ld_l_l => Sys2Proof.Machine.exec_ld_l_l s
  | .ld_l_at_hl => Sys2Proof.Machine.exec_ld_l_at_hl s
  | .ld_l_a => Sys2Proof.Machine.exec_ld_l_a s
  | .ld_at_hl_b => Sys2Proof.Machine.exec_ld_at_hl_b s
  | .ld_at_hl_c => Sys2Proof.Machine.exec_ld_at_hl_c s
  | .ld_at_hl_d => Sys2Proof.Machine.exec_ld_at_hl_d s
  | .ld_at_hl_e => Sys2Proof.Machine.exec_ld_at_hl_e s
  | .ld_at_hl_h => Sys2Proof.Machine.exec_ld_at_hl_h s
  | .ld_at_hl_l => Sys2Proof.Machine.exec_ld_at_hl_l s
  | .halt => Sys2Proof.Machine.exec_halt s
  | .ld_at_hl_a => Sys2Proof.Machine.exec_ld_at_hl_a s
  | .ld_a_b => Sys2Proof.Machine.exec_ld_a_b s
  | .ld_a_c => Sys2Proof.Machine.exec_ld_a_c s
  | .ld_a_d => Sys2Proof.Machine.exec_ld_a_d s
  | .ld_a_e => Sys2Proof.Machine.exec_ld_a_e s
  | .ld_a_h => Sys2Proof.Machine.exec_ld_a_h s
  | .ld_a_l => Sys2Proof.Machine.exec_ld_a_l s
  | .ld_a_at_hl => Sys2Proof.Machine.exec_ld_a_at_hl s
  | .ld_a_a => Sys2Proof.Machine.exec_ld_a_a s
  | .add_a_b => Sys2Proof.Machine.exec_add_a_b s
  | .add_a_c => Sys2Proof.Machine.exec_add_a_c s
  | .add_a_d => Sys2Proof.Machine.exec_add_a_d s
  | .add_a_e => Sys2Proof.Machine.exec_add_a_e s
  | .add_a_h => Sys2Proof.Machine.exec_add_a_h s
  | .add_a_l => Sys2Proof.Machine.exec_add_a_l s
  | .add_a_at_hl => Sys2Proof.Machine.exec_add_a_at_hl s
  | .add_a_a => Sys2Proof.Machine.exec_add_a_a s
  | .adc_a_b => Sys2Proof.Machine.exec_adc_a_b s
  | .adc_a_c => Sys2Proof.Machine.exec_adc_a_c s
  | .adc_a_d => Sys2Proof.Machine.exec_adc_a_d s
  | .adc_a_e => Sys2Proof.Machine.exec_adc_a_e s
  | .adc_a_h => Sys2Proof.Machine.exec_adc_a_h s
  | .adc_a_l => Sys2Proof.Machine.exec_adc_a_l s
  | .adc_a_at_hl => Sys2Proof.Machine.exec_adc_a_at_hl s
  | .adc_a_a => Sys2Proof.Machine.exec_adc_a_a s
  | .sub_b => Sys2Proof.Machine.exec_sub_b s
  | .sub_c => Sys2Proof.Machine.exec_sub_c s
  | .sub_d => Sys2Proof.Machine.exec_sub_d s
  | .sub_e => Sys2Proof.Machine.exec_sub_e s
  | .sub_h => Sys2Proof.Machine.exec_sub_h s
  | .sub_l => Sys2Proof.Machine.exec_sub_l s
  | .sub_at_hl => Sys2Proof.Machine.exec_sub_at_hl s
  | .sub_a => Sys2Proof.Machine.exec_sub_a s
  | .sbc_a_b => Sys2Proof.Machine.exec_sbc_a_b s
  | .sbc_a_c => Sys2Proof.Machine.exec_sbc_a_c s
  | .sbc_a_d => Sys2Proof.Machine.exec_sbc_a_d s
  | .sbc_a_e => Sys2Proof.Machine.exec_sbc_a_e s
  | .sbc_a_h => Sys2Proof.Machine.exec_sbc_a_h s
  | .sbc_a_l => Sys2Proof.Machine.exec_sbc_a_l s
  | .sbc_a_at_hl => Sys2Proof.Machine.exec_sbc_a_at_hl s
  | .sbc_a_a => Sys2Proof.Machine.exec_sbc_a_a s
  | .and_b => Sys2Proof.Machine.exec_and_b s
  | .and_c => Sys2Proof.Machine.exec_and_c s
  | .and_d => Sys2Proof.Machine.exec_and_d s
  | .and_e => Sys2Proof.Machine.exec_and_e s
  | .and_h => Sys2Proof.Machine.exec_and_h s
  | .and_l => Sys2Proof.Machine.exec_and_l s
  | .and_at_hl => Sys2Proof.Machine.exec_and_at_hl s
  | .and_a => Sys2Proof.Machine.exec_and_a s
  | .xor_b => Sys2Proof.Machine.exec_xor_b s
  | .xor_c => Sys2Proof.Machine.exec_xor_c s
  | .xor_d => Sys2Proof.Machine.exec_xor_d s
  | .xor_e => Sys2Proof.Machine.exec_xor_e s
  | .xor_h => Sys2Proof.Machine.exec_xor_h s
  | .xor_l => Sys2Proof.Machine.exec_xor_l s
  | .xor_at_hl => Sys2Proof.Machine.exec_xor_at_hl s
  | .xor_a => Sys2Proof.Machine.exec_xor_a s
  | .or_b => Sys2Proof.Machine.exec_or_b s
  | .or_c => Sys2Proof.Machine.exec_or_c s
  | .or_d => Sys2Proof.Machine.exec_or_d s
  | .or_e => Sys2Proof.Machine.exec_or_e s
  | .or_h => Sys2Proof.Machine.exec_or_h s
  | .or_l => Sys2Proof.Machine.exec_or_l s
  | .or_at_hl => Sys2Proof.Machine.exec_or_at_hl s
  | .or_a => Sys2Proof.Machine.exec_or_a s
  | .cp_b => Sys2Proof.Machine.exec_cp_b s
  | .cp_c => Sys2Proof.Machine.exec_cp_c s
  | .cp_d => Sys2Proof.Machine.exec_cp_d s
  | .cp_e => Sys2Proof.Machine.exec_cp_e s
  | .cp_h => Sys2Proof.Machine.exec_cp_h s
  | .cp_l => Sys2Proof.Machine.exec_cp_l s
  | .cp_at_hl => Sys2Proof.Machine.exec_cp_at_hl s
  | .cp_a => Sys2Proof.Machine.exec_cp_a s
  | .ret_nz => Sys2Proof.Machine.exec_ret_nz s
  | .pop_bc => Sys2Proof.Machine.exec_pop_bc s
  | .jp_nz_nn => Sys2Proof.Machine.exec_jp_nz_nn s
  | .jp_nn => Sys2Proof.Machine.exec_jp_nn s
  | .call_nz_nn => Sys2Proof.Machine.exec_call_nz_nn s
  | .push_bc => Sys2Proof.Machine.exec_push_bc s
  | .add_a_n => Sys2Proof.Machine.exec_add_a_n s
  | .rst_00h => Sys2Proof.Machine.exec_rst_00h s
  | .ret_z => Sys2Proof.Machine.exec_ret_z s
  | .ret => Sys2Proof.Machine.exec_ret s
  | .jp_z_nn => Sys2Proof.Machine.exec_jp_z_nn s
  | .prefix_cb => Sys2Proof.Machine.exec_prefix_cb s
  | .call_z_nn => Sys2Proof.Machine.exec_call_z_nn s
  | .call_nn => Sys2Proof.Machine.exec_call_nn s
  | .adc_a_n => Sys2Proof.Machine.exec_adc_a_n s
  | .rst_08h => Sys2Proof.Machine.exec_rst_08h s
  | .ret_nc => Sys2Proof.Machine.exec_ret_nc s
  | .pop_de => Sys2Proof.Machine.exec_pop_de s
  | .jp_nc_nn => Sys2Proof.Machine.exec_jp_nc_nn s
  | .out_at_n_a => Sys2Proof.Machine.exec_out_at_n_a s
  | .call_nc_nn => Sys2Proof.Machine.exec_call_nc_nn s
  | .push_de => Sys2Proof.Machine.exec_push_de s
  | .sub_n => Sys2Proof.Machine.exec_sub_n s
  | .rst_10h => Sys2Proof.Machine.exec_rst_10h s
  | .ret_c => Sys2Proof.Machine.exec_ret_c s
  | .exx => Sys2Proof.Machine.exec_exx s
  | .jp_c_nn => Sys2Proof.Machine.exec_jp_c_nn s
  | .in_a_at_n => Sys2Proof.Machine.exec_in_a_at_n s
  | .call_c_nn => Sys2Proof.Machine.exec_call_c_nn s
  | .prefix_dd => Sys2Proof.Machine.exec_prefix_dd s
  | .sbc_a_n => Sys2Proof.Machine.exec_sbc_a_n s
  | .rst_18h => Sys2Proof.Machine.exec_rst_18h s
  | .ret_po => Sys2Proof.Machine.exec_ret_po s
  | .pop_hl => Sys2Proof.Machine.exec_pop_hl s
  | .jp_po_nn => Sys2Proof.Machine.exec_jp_po_nn s
  | .ex_at_sp_hl => Sys2Proof.Machine.exec_ex_at_sp_hl s
  | .call_po_nn => Sys2Proof.Machine.exec_call_po_nn s
  | .push_hl => Sys2Proof.Machine.exec_push_hl s
  | .and_n => Sys2Proof.Machine.exec_and_n s
  | .rst_20h => Sys2Proof.Machine.exec_rst_20h s
  | .ret_pe => Sys2Proof.Machine.exec_ret_pe s
  | .jp_at_hl => Sys2Proof.Machine.exec_jp_at_hl s
  | .jp_pe_nn => Sys2Proof.Machine.exec_jp_pe_nn s
  | .ex_de_hl => Sys2Proof.Machine.exec_ex_de_hl s
  | .call_pe_nn => Sys2Proof.Machine.exec_call_pe_nn s
  | .prefix_ed => Sys2Proof.Machine.exec_prefix_ed s
  | .xor_n => Sys2Proof.Machine.exec_xor_n s
  | .rst_28h => Sys2Proof.Machine.exec_rst_28h s
  | .ret_p => Sys2Proof.Machine.exec_ret_p s
  | .pop_af => Sys2Proof.Machine.exec_pop_af s
  | .jp_p_nn => Sys2Proof.Machine.exec_jp_p_nn s
  | .di => Sys2Proof.Machine.exec_di s
  | .call_p_nn => Sys2Proof.Machine.exec_call_p_nn s
  | .push_af => Sys2Proof.Machine.exec_push_af s
  | .or_n => Sys2Proof.Machine.exec_or_n s
  | .rst_30h => Sys2Proof.Machine.exec_rst_30h s
  | .ret_m => Sys2Proof.Machine.exec_ret_m s
  | .ld_sp_hl => Sys2Proof.Machine.exec_ld_sp_hl s
  | .jp_m_nn => Sys2Proof.Machine.exec_jp_m_nn s
  | .ei => Sys2Proof.Machine.exec_ei s
  | .call_m_nn => Sys2Proof.Machine.exec_call_m_nn s
  | .prefix_fd => Sys2Proof.Machine.exec_prefix_fd s
  | .cp_n => Sys2Proof.Machine.exec_cp_n s
  | .rst_38h => Sys2Proof.Machine.exec_rst_38h s
  | .add_ix_bc => Sys2Proof.Machine.exec_add_ix_bc s
  | .add_ix_de => Sys2Proof.Machine.exec_add_ix_de s
  | .ld_ix_nn => Sys2Proof.Machine.exec_ld_ix_nn s
  | .ld_at_nn_ix => Sys2Proof.Machine.exec_ld_at_nn_ix s
  | .inc_ix => Sys2Proof.Machine.exec_inc_ix s
  | .inc_ixh => Sys2Proof.Machine.exec_inc_ixh s
  | .dec_ixh => Sys2Proof.Machine.exec_dec_ixh s
  | .ld_ixh_n => Sys2Proof.Machine.exec_ld_ixh_n s
  | .add_ix_ix => Sys2Proof.Machine.exec_add_ix_ix s
  | .ld_ix_at_nn => Sys2Proof.Machine.exec_ld_ix_at_nn s
  | .dec_ix => Sys2Proof.Machine.exec_dec_ix s
  | .inc_ixl => Sys2Proof.Machine.exec_inc_ixl s
  | .dec_ixl => Sys2Proof.Machine.exec_dec_ixl s
  | .ld_ixl_n => Sys2Proof.Machine.exec_ld_ixl_n s
  | .inc_at_ixd => Sys2Proof.Machine.exec_inc_at_ixd s
  | .dec_at_ixd => Sys2Proof.Machine.exec_dec_at_ixd s
  | .ld_at_ixd_n => Sys2Proof.Machine.exec_ld_at_ixd_n s
  | .add_ix_sp => Sys2Proof.Machine.exec_add_ix_sp s
  | .ld_b_ixh => Sys2Proof.Machine.exec_ld_b_ixh s
  | .ld_b_ixl => Sys2Proof.Machine.exec_ld_b_ixl s
  | .ld_b_at_ixd => Sys2Proof.Machine.exec_ld_b_at_ixd s
  | .ld_c_ixh => Sys2Proof.Machine.exec_ld_c_ixh s
  | .ld_c_ixl => Sys2Proof.Machine.exec_ld_c_ixl s
  | .ld_c_at_ixd => Sys2Proof.Machine.exec_ld_c_at_ixd s
  | .ld_d_ixh => Sys2Proof.Machine.exec_ld_d_ixh s
  | .ld_d_ixl => Sys2Proof.Machine.exec_ld_d_ixl s
  | .ld_d_at_ixd => Sys2Proof.Machine.exec_ld_d_at_ixd s
  | .ld_e_ixh => Sys2Proof.Machine.exec_ld_e_ixh s
  | .ld_e_ixl => Sys2Proof.Machine.exec_ld_e_ixl s
  | .ld_e_at_ixd => Sys2Proof.Machine.exec_ld_e_at_ixd s
  | .ld_ixh_b => Sys2Proof.Machine.exec_ld_ixh_b s
  | .ld_ixh_c => Sys2Proof.Machine.exec_ld_ixh_c s
  | .ld_ixh_d => Sys2Proof.Machine.exec_ld_ixh_d s
  | .ld_ixh_e => Sys2Proof.Machine.exec_ld_ixh_e s
  | .ld_ixh_ixh => Sys2Proof.Machine.exec_ld_ixh_ixh s
  | .ld_ixh_ixl => Sys2Proof.Machine.exec_ld_ixh_ixl s
  | .ld_h_at_ixd => Sys2Proof.Machine.exec_ld_h_at_ixd s
  | .ld_ixh_a => Sys2Proof.Machine.exec_ld_ixh_a s
  | .ld_ixl_b => Sys2Proof.Machine.exec_ld_ixl_b s
  | .ld_ixl_c => Sys2Proof.Machine.exec_ld_ixl_c s
  | .ld_ixl_d => Sys2Proof.Machine.exec_ld_ixl_d s
  | .ld_ixl_e => Sys2Proof.Machine.exec_ld_ixl_e s
  | .ld_ixl_ixh => Sys2Proof.Machine.exec_ld_ixl_ixh s
  | .ld_ixl_ixl => Sys2Proof.Machine.exec_ld_ixl_ixl s
  | .ld_l_at_ixd => Sys2Proof.Machine.exec_ld_l_at_ixd s
  | .ld_ixl_a => Sys2Proof.Machine.exec_ld_ixl_a s
  | .ld_at_ixd_b => Sys2Proof.Machine.exec_ld_at_ixd_b s
  | .ld_at_ixd_c => Sys2Proof.Machine.exec_ld_at_ixd_c s
  | .ld_at_ixd_d => Sys2Proof.Machine.exec_ld_at_ixd_d s
  | .ld_at_ixd_e => Sys2Proof.Machine.exec_ld_at_ixd_e s
  | .ld_at_ixd_h => Sys2Proof.Machine.exec_ld_at_ixd_h s
  | .ld_at_ixd_l => Sys2Proof.Machine.exec_ld_at_ixd_l s
  | .ld_at_ixd_a => Sys2Proof.Machine.exec_ld_at_ixd_a s
  | .ld_a_ixh => Sys2Proof.Machine.exec_ld_a_ixh s
  | .ld_a_ixl => Sys2Proof.Machine.exec_ld_a_ixl s
  | .ld_a_at_ixd => Sys2Proof.Machine.exec_ld_a_at_ixd s
  | .add_a_ixh => Sys2Proof.Machine.exec_add_a_ixh s
  | .add_a_ixl => Sys2Proof.Machine.exec_add_a_ixl s
  | .add_a_at_ixd => Sys2Proof.Machine.exec_add_a_at_ixd s
  | .adc_a_ixh => Sys2Proof.Machine.exec_adc_a_ixh s
  | .adc_a_ixl => Sys2Proof.Machine.exec_adc_a_ixl s
  | .adc_a_at_ixd => Sys2Proof.Machine.exec_adc_a_at_ixd s
  | .sub_ixh => Sys2Proof.Machine.exec_sub_ixh s
  | .sub_ixl => Sys2Proof.Machine.exec_sub_ixl s
  | .sub_at_ixd => Sys2Proof.Machine.exec_sub_at_ixd s
  | .sbc_a_ixh => Sys2Proof.Machine.exec_sbc_a_ixh s
  | .sbc_a_ixl => Sys2Proof.Machine.exec_sbc_a_ixl s
  | .sbc_a_at_ixd => Sys2Proof.Machine.exec_sbc_a_at_ixd s
  | .and_ixh => Sys2Proof.Machine.exec_and_ixh s
  | .and_ixl => Sys2Proof.Machine.exec_and_ixl s
  | .and_at_ixd => Sys2Proof.Machine.exec_and_at_ixd s
  | .xor_ixh => Sys2Proof.Machine.exec_xor_ixh s
  | .xor_ixl => Sys2Proof.Machine.exec_xor_ixl s
  | .xor_at_ixd => Sys2Proof.Machine.exec_xor_at_ixd s
  | .or_ixh => Sys2Proof.Machine.exec_or_ixh s
  | .or_ixl => Sys2Proof.Machine.exec_or_ixl s
  | .or_at_ixd => Sys2Proof.Machine.exec_or_at_ixd s
  | .cp_ixh => Sys2Proof.Machine.exec_cp_ixh s
  | .cp_ixl => Sys2Proof.Machine.exec_cp_ixl s
  | .cp_at_ixd => Sys2Proof.Machine.exec_cp_at_ixd s
  | .pop_ix => Sys2Proof.Machine.exec_pop_ix s
  | .ex_at_sp_ix => Sys2Proof.Machine.exec_ex_at_sp_ix s
  | .push_ix => Sys2Proof.Machine.exec_push_ix s
  | .jp_at_ix => Sys2Proof.Machine.exec_jp_at_ix s
  | .ld_sp_ix => Sys2Proof.Machine.exec_ld_sp_ix s
  | .add_iy_bc => Sys2Proof.Machine.exec_add_iy_bc s
  | .add_iy_de => Sys2Proof.Machine.exec_add_iy_de s
  | .ld_iy_nn => Sys2Proof.Machine.exec_ld_iy_nn s
  | .ld_at_nn_iy => Sys2Proof.Machine.exec_ld_at_nn_iy s
  | .inc_iy => Sys2Proof.Machine.exec_inc_iy s
  | .inc_iyh => Sys2Proof.Machine.exec_inc_iyh s
  | .dec_iyh => Sys2Proof.Machine.exec_dec_iyh s
  | .ld_iyh_n => Sys2Proof.Machine.exec_ld_iyh_n s
  | .add_iy_iy => Sys2Proof.Machine.exec_add_iy_iy s
  | .ld_iy_at_nn => Sys2Proof.Machine.exec_ld_iy_at_nn s
  | .dec_iy => Sys2Proof.Machine.exec_dec_iy s
  | .inc_iyl => Sys2Proof.Machine.exec_inc_iyl s
  | .dec_iyl => Sys2Proof.Machine.exec_dec_iyl s
  | .ld_iyl_n => Sys2Proof.Machine.exec_ld_iyl_n s
  | .inc_at_iyd => Sys2Proof.Machine.exec_inc_at_iyd s
  | .dec_at_iyd => Sys2Proof.Machine.exec_dec_at_iyd s
  | .ld_at_iyd_n => Sys2Proof.Machine.exec_ld_at_iyd_n s
  | .add_iy_sp => Sys2Proof.Machine.exec_add_iy_sp s
  | .ld_b_iyh => Sys2Proof.Machine.exec_ld_b_iyh s
  | .ld_b_iyl => Sys2Proof.Machine.exec_ld_b_iyl s
  | .ld_b_at_iyd => Sys2Proof.Machine.exec_ld_b_at_iyd s
  | .ld_c_iyh => Sys2Proof.Machine.exec_ld_c_iyh s
  | .ld_c_iyl => Sys2Proof.Machine.exec_ld_c_iyl s
  | .ld_c_at_iyd => Sys2Proof.Machine.exec_ld_c_at_iyd s
  | .ld_d_iyh => Sys2Proof.Machine.exec_ld_d_iyh s
  | .ld_d_iyl => Sys2Proof.Machine.exec_ld_d_iyl s
  | .ld_d_at_iyd => Sys2Proof.Machine.exec_ld_d_at_iyd s
  | .ld_e_iyh => Sys2Proof.Machine.exec_ld_e_iyh s
  | .ld_e_iyl => Sys2Proof.Machine.exec_ld_e_iyl s
  | .ld_e_at_iyd => Sys2Proof.Machine.exec_ld_e_at_iyd s
  | .ld_iyh_b => Sys2Proof.Machine.exec_ld_iyh_b s
  | .ld_iyh_c => Sys2Proof.Machine.exec_ld_iyh_c s
  | .ld_iyh_d => Sys2Proof.Machine.exec_ld_iyh_d s
  | .ld_iyh_e => Sys2Proof.Machine.exec_ld_iyh_e s
  | .ld_iyh_iyh => Sys2Proof.Machine.exec_ld_iyh_iyh s
  | .ld_iyh_iyl => Sys2Proof.Machine.exec_ld_iyh_iyl s
  | .ld_h_at_iyd => Sys2Proof.Machine.exec_ld_h_at_iyd s
  | .ld_iyh_a => Sys2Proof.Machine.exec_ld_iyh_a s
  | .ld_iyl_b => Sys2Proof.Machine.exec_ld_iyl_b s
  | .ld_iyl_c => Sys2Proof.Machine.exec_ld_iyl_c s
  | .ld_iyl_d => Sys2Proof.Machine.exec_ld_iyl_d s
  | .ld_iyl_e => Sys2Proof.Machine.exec_ld_iyl_e s
  | .ld_iyl_iyh => Sys2Proof.Machine.exec_ld_iyl_iyh s
  | .ld_iyl_iyl => Sys2Proof.Machine.exec_ld_iyl_iyl s
  | .ld_l_at_iyd => Sys2Proof.Machine.exec_ld_l_at_iyd s
  | .ld_iyl_a => Sys2Proof.Machine.exec_ld_iyl_a s
  | .ld_at_iyd_b => Sys2Proof.Machine.exec_ld_at_iyd_b s
  | .ld_at_iyd_c => Sys2Proof.Machine.exec_ld_at_iyd_c s
  | .ld_at_iyd_d => Sys2Proof.Machine.exec_ld_at_iyd_d s
  | .ld_at_iyd_e => Sys2Proof.Machine.exec_ld_at_iyd_e s
  | .ld_at_iyd_h => Sys2Proof.Machine.exec_ld_at_iyd_h s
  | .ld_at_iyd_l => Sys2Proof.Machine.exec_ld_at_iyd_l s
  | .ld_at_iyd_a => Sys2Proof.Machine.exec_ld_at_iyd_a s
  | .ld_a_iyh => Sys2Proof.Machine.exec_ld_a_iyh s
  | .ld_a_iyl => Sys2Proof.Machine.exec_ld_a_iyl s
  | .ld_a_at_iyd => Sys2Proof.Machine.exec_ld_a_at_iyd s
  | .add_a_iyh => Sys2Proof.Machine.exec_add_a_iyh s
  | .add_a_iyl => Sys2Proof.Machine.exec_add_a_iyl s
  | .add_a_at_iyd => Sys2Proof.Machine.exec_add_a_at_iyd s
  | .adc_a_iyh => Sys2Proof.Machine.exec_adc_a_iyh s
  | .adc_a_iyl => Sys2Proof.Machine.exec_adc_a_iyl s
  | .adc_a_at_iyd => Sys2Proof.Machine.exec_adc_a_at_iyd s
  | .sub_iyh => Sys2Proof.Machine.exec_sub_iyh s
  | .sub_iyl => Sys2Proof.Machine.exec_sub_iyl s
  | .sub_at_iyd => Sys2Proof.Machine.exec_sub_at_iyd s
  | .sbc_a_iyh => Sys2Proof.Machine.exec_sbc_a_iyh s
  | .sbc_a_iyl => Sys2Proof.Machine.exec_sbc_a_iyl s
  | .sbc_a_at_iyd => Sys2Proof.Machine.exec_sbc_a_at_iyd s
  | .and_iyh => Sys2Proof.Machine.exec_and_iyh s
  | .and_iyl => Sys2Proof.Machine.exec_and_iyl s
  | .and_at_iyd => Sys2Proof.Machine.exec_and_at_iyd s
  | .xor_iyh => Sys2Proof.Machine.exec_xor_iyh s
  | .xor_iyl => Sys2Proof.Machine.exec_xor_iyl s
  | .xor_at_iyd => Sys2Proof.Machine.exec_xor_at_iyd s
  | .or_iyh => Sys2Proof.Machine.exec_or_iyh s
  | .or_iyl => Sys2Proof.Machine.exec_or_iyl s
  | .or_at_iyd => Sys2Proof.Machine.exec_or_at_iyd s
  | .cp_iyh => Sys2Proof.Machine.exec_cp_iyh s
  | .cp_iyl => Sys2Proof.Machine.exec_cp_iyl s
  | .cp_at_iyd => Sys2Proof.Machine.exec_cp_at_iyd s
  | .pop_iy => Sys2Proof.Machine.exec_pop_iy s
  | .ex_at_sp_iy => Sys2Proof.Machine.exec_ex_at_sp_iy s
  | .push_iy => Sys2Proof.Machine.exec_push_iy s
  | .jp_at_iy => Sys2Proof.Machine.exec_jp_at_iy s
  | .ld_sp_iy => Sys2Proof.Machine.exec_ld_sp_iy s
  | .rlc_b => Sys2Proof.Machine.exec_rlc_b s
  | .rlc_c => Sys2Proof.Machine.exec_rlc_c s
  | .rlc_d => Sys2Proof.Machine.exec_rlc_d s
  | .rlc_e => Sys2Proof.Machine.exec_rlc_e s
  | .rlc_h => Sys2Proof.Machine.exec_rlc_h s
  | .rlc_l => Sys2Proof.Machine.exec_rlc_l s
  | .rlc_at_hl => Sys2Proof.Machine.exec_rlc_at_hl s
  | .rlc_a => Sys2Proof.Machine.exec_rlc_a s
  | .rrc_b => Sys2Proof.Machine.exec_rrc_b s
  | .rrc_c => Sys2Proof.Machine.exec_rrc_c s
  | .rrc_d => Sys2Proof.Machine.exec_rrc_d s
  | .rrc_e => Sys2Proof.Machine.exec_rrc_e s
  | .rrc_h => Sys2Proof.Machine.exec_rrc_h s
  | .rrc_l => Sys2Proof.Machine.exec_rrc_l s
  | .rrc_at_hl => Sys2Proof.Machine.exec_rrc_at_hl s
  | .rrc_a => Sys2Proof.Machine.exec_rrc_a s
  | .rl_b => Sys2Proof.Machine.exec_rl_b s
  | .rl_c => Sys2Proof.Machine.exec_rl_c s
  | .rl_d => Sys2Proof.Machine.exec_rl_d s
  | .rl_e => Sys2Proof.Machine.exec_rl_e s
  | .rl_h => Sys2Proof.Machine.exec_rl_h s
  | .rl_l => Sys2Proof.Machine.exec_rl_l s
  | .rl_at_hl => Sys2Proof.Machine.exec_rl_at_hl s
  | .rl_a => Sys2Proof.Machine.exec_rl_a s
  | .rr_b => Sys2Proof.Machine.exec_rr_b s
  | .rr_c => Sys2Proof.Machine.exec_rr_c s
  | .rr_d => Sys2Proof.Machine.exec_rr_d s
  | .rr_e => Sys2Proof.Machine.exec_rr_e s
  | .rr_h => Sys2Proof.Machine.exec_rr_h s
  | .rr_l => Sys2Proof.Machine.exec_rr_l s
  | .rr_at_hl => Sys2Proof.Machine.exec_rr_at_hl s
  | .rr_a => Sys2Proof.Machine.exec_rr_a s
  | .sla_b => Sys2Proof.Machine.exec_sla_b s
  | .sla_c => Sys2Proof.Machine.exec_sla_c s
  | .sla_d => Sys2Proof.Machine.exec_sla_d s
  | .sla_e => Sys2Proof.Machine.exec_sla_e s
  | .sla_h => Sys2Proof.Machine.exec_sla_h s
  | .sla_l => Sys2Proof.Machine.exec_sla_l s
  | .sla_at_hl => Sys2Proof.Machine.exec_sla_at_hl s
  | .sla_a => Sys2Proof.Machine.exec_sla_a s
  | .sra_b => Sys2Proof.Machine.exec_sra_b s
  | .sra_c => Sys2Proof.Machine.exec_sra_c s
  | .sra_d => Sys2Proof.Machine.exec_sra_d s
  | .sra_e => Sys2Proof.Machine.exec_sra_e s
  | .sra_h => Sys2Proof.Machine.exec_sra_h s
  | .sra_l => Sys2Proof.Machine.exec_sra_l s
  | .sra_at_hl => Sys2Proof.Machine.exec_sra_at_hl s
  | .sra_a => Sys2Proof.Machine.exec_sra_a s
  | .sll_b => Sys2Proof.Machine.exec_sll_b s
  | .sll_c => Sys2Proof.Machine.exec_sll_c s
  | .sll_d => Sys2Proof.Machine.exec_sll_d s
  | .sll_e => Sys2Proof.Machine.exec_sll_e s
  | .sll_h => Sys2Proof.Machine.exec_sll_h s
  | .sll_l => Sys2Proof.Machine.exec_sll_l s
  | .sll_at_hl => Sys2Proof.Machine.exec_sll_at_hl s
  | .sll_a => Sys2Proof.Machine.exec_sll_a s
  | .srl_b => Sys2Proof.Machine.exec_srl_b s
  | .srl_c => Sys2Proof.Machine.exec_srl_c s
  | .srl_d => Sys2Proof.Machine.exec_srl_d s
  | .srl_e => Sys2Proof.Machine.exec_srl_e s
  | .srl_h => Sys2Proof.Machine.exec_srl_h s
  | .srl_l => Sys2Proof.Machine.exec_srl_l s
  | .srl_at_hl => Sys2Proof.Machine.exec_srl_at_hl s
  | .srl_a => Sys2Proof.Machine.exec_srl_a s
  | .bit_0_b => Sys2Proof.Machine.exec_bit_0_b s
  | .bit_0_c => Sys2Proof.Machine.exec_bit_0_c s
  | .bit_0_d => Sys2Proof.Machine.exec_bit_0_d s
  | .bit_0_e => Sys2Proof.Machine.exec_bit_0_e s
  | .bit_0_h => Sys2Proof.Machine.exec_bit_0_h s
  | .bit_0_l => Sys2Proof.Machine.exec_bit_0_l s
  | .bit_0_at_hl => Sys2Proof.Machine.exec_bit_0_at_hl s
  | .bit_0_a => Sys2Proof.Machine.exec_bit_0_a s
  | .bit_1_b => Sys2Proof.Machine.exec_bit_1_b s
  | .bit_1_c => Sys2Proof.Machine.exec_bit_1_c s
  | .bit_1_d => Sys2Proof.Machine.exec_bit_1_d s
  | .bit_1_e => Sys2Proof.Machine.exec_bit_1_e s
  | .bit_1_h => Sys2Proof.Machine.exec_bit_1_h s
  | .bit_1_l => Sys2Proof.Machine.exec_bit_1_l s
  | .bit_1_at_hl => Sys2Proof.Machine.exec_bit_1_at_hl s
  | .bit_1_a => Sys2Proof.Machine.exec_bit_1_a s
  | .bit_2_b => Sys2Proof.Machine.exec_bit_2_b s
  | .bit_2_c => Sys2Proof.Machine.exec_bit_2_c s
  | .bit_2_d => Sys2Proof.Machine.exec_bit_2_d s
  | .bit_2_e => Sys2Proof.Machine.exec_bit_2_e s
  | .bit_2_h => Sys2Proof.Machine.exec_bit_2_h s
  | .bit_2_l => Sys2Proof.Machine.exec_bit_2_l s
  | .bit_2_at_hl => Sys2Proof.Machine.exec_bit_2_at_hl s
  | .bit_2_a => Sys2Proof.Machine.exec_bit_2_a s
  | .bit_3_b => Sys2Proof.Machine.exec_bit_3_b s
  | .bit_3_c => Sys2Proof.Machine.exec_bit_3_c s
  | .bit_3_d => Sys2Proof.Machine.exec_bit_3_d s
  | .bit_3_e => Sys2Proof.Machine.exec_bit_3_e s
  | .bit_3_h => Sys2Proof.Machine.exec_bit_3_h s
  | .bit_3_l => Sys2Proof.Machine.exec_bit_3_l s
  | .bit_3_at_hl => Sys2Proof.Machine.exec_bit_3_at_hl s
  | .bit_3_a => Sys2Proof.Machine.exec_bit_3_a s
  | .bit_4_b => Sys2Proof.Machine.exec_bit_4_b s
  | .bit_4_c => Sys2Proof.Machine.exec_bit_4_c s
  | .bit_4_d => Sys2Proof.Machine.exec_bit_4_d s
  | .bit_4_e => Sys2Proof.Machine.exec_bit_4_e s
  | .bit_4_h => Sys2Proof.Machine.exec_bit_4_h s
  | .bit_4_l => Sys2Proof.Machine.exec_bit_4_l s
  | .bit_4_at_hl => Sys2Proof.Machine.exec_bit_4_at_hl s
  | .bit_4_a => Sys2Proof.Machine.exec_bit_4_a s
  | .bit_5_b => Sys2Proof.Machine.exec_bit_5_b s
  | .bit_5_c => Sys2Proof.Machine.exec_bit_5_c s
  | .bit_5_d => Sys2Proof.Machine.exec_bit_5_d s
  | .bit_5_e => Sys2Proof.Machine.exec_bit_5_e s
  | .bit_5_h => Sys2Proof.Machine.exec_bit_5_h s
  | .bit_5_l => Sys2Proof.Machine.exec_bit_5_l s
  | .bit_5_at_hl => Sys2Proof.Machine.exec_bit_5_at_hl s
  | .bit_5_a => Sys2Proof.Machine.exec_bit_5_a s
  | .bit_6_b => Sys2Proof.Machine.exec_bit_6_b s
  | .bit_6_c => Sys2Proof.Machine.exec_bit_6_c s
  | .bit_6_d => Sys2Proof.Machine.exec_bit_6_d s
  | .bit_6_e => Sys2Proof.Machine.exec_bit_6_e s
  | .bit_6_h => Sys2Proof.Machine.exec_bit_6_h s
  | .bit_6_l => Sys2Proof.Machine.exec_bit_6_l s
  | .bit_6_at_hl => Sys2Proof.Machine.exec_bit_6_at_hl s
  | .bit_6_a => Sys2Proof.Machine.exec_bit_6_a s
  | .bit_7_b => Sys2Proof.Machine.exec_bit_7_b s
  | .bit_7_c => Sys2Proof.Machine.exec_bit_7_c s
  | .bit_7_d => Sys2Proof.Machine.exec_bit_7_d s
  | .bit_7_e => Sys2Proof.Machine.exec_bit_7_e s
  | .bit_7_h => Sys2Proof.Machine.exec_bit_7_h s
  | .bit_7_l => Sys2Proof.Machine.exec_bit_7_l s
  | .bit_7_at_hl => Sys2Proof.Machine.exec_bit_7_at_hl s
  | .bit_7_a => Sys2Proof.Machine.exec_bit_7_a s
  | .res_0_b => Sys2Proof.Machine.exec_res_0_b s
  | .res_0_c => Sys2Proof.Machine.exec_res_0_c s
  | .res_0_d => Sys2Proof.Machine.exec_res_0_d s
  | .res_0_e => Sys2Proof.Machine.exec_res_0_e s
  | .res_0_h => Sys2Proof.Machine.exec_res_0_h s
  | .res_0_l => Sys2Proof.Machine.exec_res_0_l s
  | .res_0_at_hl => Sys2Proof.Machine.exec_res_0_at_hl s
  | .res_0_a => Sys2Proof.Machine.exec_res_0_a s
  | .res_1_b => Sys2Proof.Machine.exec_res_1_b s
  | .res_1_c => Sys2Proof.Machine.exec_res_1_c s
  | .res_1_d => Sys2Proof.Machine.exec_res_1_d s
  | .res_1_e => Sys2Proof.Machine.exec_res_1_e s
  | .res_1_h => Sys2Proof.Machine.exec_res_1_h s
  | .res_1_l => Sys2Proof.Machine.exec_res_1_l s
  | .res_1_at_hl => Sys2Proof.Machine.exec_res_1_at_hl s
  | .res_1_a => Sys2Proof.Machine.exec_res_1_a s
  | .res_2_b => Sys2Proof.Machine.exec_res_2_b s
  | .res_2_c => Sys2Proof.Machine.exec_res_2_c s
  | .res_2_d => Sys2Proof.Machine.exec_res_2_d s
  | .res_2_e => Sys2Proof.Machine.exec_res_2_e s
  | .res_2_h => Sys2Proof.Machine.exec_res_2_h s
  | .res_2_l => Sys2Proof.Machine.exec_res_2_l s
  | .res_2_at_hl => Sys2Proof.Machine.exec_res_2_at_hl s
  | .res_2_a => Sys2Proof.Machine.exec_res_2_a s
  | .res_3_b => Sys2Proof.Machine.exec_res_3_b s
  | .res_3_c => Sys2Proof.Machine.exec_res_3_c s
  | .res_3_d => Sys2Proof.Machine.exec_res_3_d s
  | .res_3_e => Sys2Proof.Machine.exec_res_3_e s
  | .res_3_h => Sys2Proof.Machine.exec_res_3_h s
  | .res_3_l => Sys2Proof.Machine.exec_res_3_l s
  | .res_3_at_hl => Sys2Proof.Machine.exec_res_3_at_hl s
  | .res_3_a => Sys2Proof.Machine.exec_res_3_a s
  | .res_4_b => Sys2Proof.Machine.exec_res_4_b s
  | .res_4_c => Sys2Proof.Machine.exec_res_4_c s
  | .res_4_d => Sys2Proof.Machine.exec_res_4_d s
  | .res_4_e => Sys2Proof.Machine.exec_res_4_e s
  | .res_4_h => Sys2Proof.Machine.exec_res_4_h s
  | .res_4_l => Sys2Proof.Machine.exec_res_4_l s
  | .res_4_at_hl => Sys2Proof.Machine.exec_res_4_at_hl s
  | .res_4_a => Sys2Proof.Machine.exec_res_4_a s
  | .res_5_b => Sys2Proof.Machine.exec_res_5_b s
  | .res_5_c => Sys2Proof.Machine.exec_res_5_c s
  | .res_5_d => Sys2Proof.Machine.exec_res_5_d s
  | .res_5_e => Sys2Proof.Machine.exec_res_5_e s
  | .res_5_h => Sys2Proof.Machine.exec_res_5_h s
  | .res_5_l => Sys2Proof.Machine.exec_res_5_l s
  | .res_5_at_hl => Sys2Proof.Machine.exec_res_5_at_hl s
  | .res_5_a => Sys2Proof.Machine.exec_res_5_a s
  | .res_6_b => Sys2Proof.Machine.exec_res_6_b s
  | .res_6_c => Sys2Proof.Machine.exec_res_6_c s
  | .res_6_d => Sys2Proof.Machine.exec_res_6_d s
  | .res_6_e => Sys2Proof.Machine.exec_res_6_e s
  | .res_6_h => Sys2Proof.Machine.exec_res_6_h s
  | .res_6_l => Sys2Proof.Machine.exec_res_6_l s
  | .res_6_at_hl => Sys2Proof.Machine.exec_res_6_at_hl s
  | .res_6_a => Sys2Proof.Machine.exec_res_6_a s
  | .res_7_b => Sys2Proof.Machine.exec_res_7_b s
  | .res_7_c => Sys2Proof.Machine.exec_res_7_c s
  | .res_7_d => Sys2Proof.Machine.exec_res_7_d s
  | .res_7_e => Sys2Proof.Machine.exec_res_7_e s
  | .res_7_h => Sys2Proof.Machine.exec_res_7_h s
  | .res_7_l => Sys2Proof.Machine.exec_res_7_l s
  | .res_7_at_hl => Sys2Proof.Machine.exec_res_7_at_hl s
  | .res_7_a => Sys2Proof.Machine.exec_res_7_a s
  | .set_0_b => Sys2Proof.Machine.exec_set_0_b s
  | .set_0_c => Sys2Proof.Machine.exec_set_0_c s
  | .set_0_d => Sys2Proof.Machine.exec_set_0_d s
  | .set_0_e => Sys2Proof.Machine.exec_set_0_e s
  | .set_0_h => Sys2Proof.Machine.exec_set_0_h s
  | .set_0_l => Sys2Proof.Machine.exec_set_0_l s
  | .set_0_at_hl => Sys2Proof.Machine.exec_set_0_at_hl s
  | .set_0_a => Sys2Proof.Machine.exec_set_0_a s
  | .set_1_b => Sys2Proof.Machine.exec_set_1_b s
  | .set_1_c => Sys2Proof.Machine.exec_set_1_c s
  | .set_1_d => Sys2Proof.Machine.exec_set_1_d s
  | .set_1_e => Sys2Proof.Machine.exec_set_1_e s
  | .set_1_h => Sys2Proof.Machine.exec_set_1_h s
  | .set_1_l => Sys2Proof.Machine.exec_set_1_l s
  | .set_1_at_hl => Sys2Proof.Machine.exec_set_1_at_hl s
  | .set_1_a => Sys2Proof.Machine.exec_set_1_a s
  | .set_2_b => Sys2Proof.Machine.exec_set_2_b s
  | .set_2_c => Sys2Proof.Machine.exec_set_2_c s
  | .set_2_d => Sys2Proof.Machine.exec_set_2_d s
  | .set_2_e => Sys2Proof.Machine.exec_set_2_e s
  | .set_2_h => Sys2Proof.Machine.exec_set_2_h s
  | .set_2_l => Sys2Proof.Machine.exec_set_2_l s
  | .set_2_at_hl => Sys2Proof.Machine.exec_set_2_at_hl s
  | .set_2_a => Sys2Proof.Machine.exec_set_2_a s
  | .set_3_b => Sys2Proof.Machine.exec_set_3_b s
  | .set_3_c => Sys2Proof.Machine.exec_set_3_c s
  | .set_3_d => Sys2Proof.Machine.exec_set_3_d s
  | .set_3_e => Sys2Proof.Machine.exec_set_3_e s
  | .set_3_h => Sys2Proof.Machine.exec_set_3_h s
  | .set_3_l => Sys2Proof.Machine.exec_set_3_l s
  | .set_3_at_hl => Sys2Proof.Machine.exec_set_3_at_hl s
  | .set_3_a => Sys2Proof.Machine.exec_set_3_a s
  | .set_4_b => Sys2Proof.Machine.exec_set_4_b s
  | .set_4_c => Sys2Proof.Machine.exec_set_4_c s
  | .set_4_d => Sys2Proof.Machine.exec_set_4_d s
  | .set_4_e => Sys2Proof.Machine.exec_set_4_e s
  | .set_4_h => Sys2Proof.Machine.exec_set_4_h s
  | .set_4_l => Sys2Proof.Machine.exec_set_4_l s
  | .set_4_at_hl => Sys2Proof.Machine.exec_set_4_at_hl s
  | .set_4_a => Sys2Proof.Machine.exec_set_4_a s
  | .set_5_b => Sys2Proof.Machine.exec_set_5_b s
  | .set_5_c => Sys2Proof.Machine.exec_set_5_c s
  | .set_5_d => Sys2Proof.Machine.exec_set_5_d s
  | .set_5_e => Sys2Proof.Machine.exec_set_5_e s
  | .set_5_h => Sys2Proof.Machine.exec_set_5_h s
  | .set_5_l => Sys2Proof.Machine.exec_set_5_l s
  | .set_5_at_hl => Sys2Proof.Machine.exec_set_5_at_hl s
  | .set_5_a => Sys2Proof.Machine.exec_set_5_a s
  | .set_6_b => Sys2Proof.Machine.exec_set_6_b s
  | .set_6_c => Sys2Proof.Machine.exec_set_6_c s
  | .set_6_d => Sys2Proof.Machine.exec_set_6_d s
  | .set_6_e => Sys2Proof.Machine.exec_set_6_e s
  | .set_6_h => Sys2Proof.Machine.exec_set_6_h s
  | .set_6_l => Sys2Proof.Machine.exec_set_6_l s
  | .set_6_at_hl => Sys2Proof.Machine.exec_set_6_at_hl s
  | .set_6_a => Sys2Proof.Machine.exec_set_6_a s
  | .set_7_b => Sys2Proof.Machine.exec_set_7_b s
  | .set_7_c => Sys2Proof.Machine.exec_set_7_c s
  | .set_7_d => Sys2Proof.Machine.exec_set_7_d s
  | .set_7_e => Sys2Proof.Machine.exec_set_7_e s
  | .set_7_h => Sys2Proof.Machine.exec_set_7_h s
  | .set_7_l => Sys2Proof.Machine.exec_set_7_l s
  | .set_7_at_hl => Sys2Proof.Machine.exec_set_7_at_hl s
  | .set_7_a => Sys2Proof.Machine.exec_set_7_a s
  | .rlc_at_ixd_b => Sys2Proof.Machine.exec_rlc_at_ixd_b s
  | .rlc_at_ixd_c => Sys2Proof.Machine.exec_rlc_at_ixd_c s
  | .rlc_at_ixd_d => Sys2Proof.Machine.exec_rlc_at_ixd_d s
  | .rlc_at_ixd_e => Sys2Proof.Machine.exec_rlc_at_ixd_e s
  | .rlc_at_ixd_h => Sys2Proof.Machine.exec_rlc_at_ixd_h s
  | .rlc_at_ixd_l => Sys2Proof.Machine.exec_rlc_at_ixd_l s
  | .rlc_at_ixd => Sys2Proof.Machine.exec_rlc_at_ixd s
  | .rlc_at_ixd_a => Sys2Proof.Machine.exec_rlc_at_ixd_a s
  | .rrc_at_ixd_b => Sys2Proof.Machine.exec_rrc_at_ixd_b s
  | .rrc_at_ixd_c => Sys2Proof.Machine.exec_rrc_at_ixd_c s
  | .rrc_at_ixd_d => Sys2Proof.Machine.exec_rrc_at_ixd_d s
  | .rrc_at_ixd_e => Sys2Proof.Machine.exec_rrc_at_ixd_e s
  | .rrc_at_ixd_h => Sys2Proof.Machine.exec_rrc_at_ixd_h s
  | .rrc_at_ixd_l => Sys2Proof.Machine.exec_rrc_at_ixd_l s
  | .rrc_at_ixd => Sys2Proof.Machine.exec_rrc_at_ixd s
  | .rrc_at_ixd_a => Sys2Proof.Machine.exec_rrc_at_ixd_a s
  | .rl_at_ixd_b => Sys2Proof.Machine.exec_rl_at_ixd_b s
  | .rl_at_ixd_c => Sys2Proof.Machine.exec_rl_at_ixd_c s
  | .rl_at_ixd_d => Sys2Proof.Machine.exec_rl_at_ixd_d s
  | .rl_at_ixd_e => Sys2Proof.Machine.exec_rl_at_ixd_e s
  | .rl_at_ixd_h => Sys2Proof.Machine.exec_rl_at_ixd_h s
  | .rl_at_ixd_l => Sys2Proof.Machine.exec_rl_at_ixd_l s
  | .rl_at_ixd => Sys2Proof.Machine.exec_rl_at_ixd s
  | .rl_at_ixd_a => Sys2Proof.Machine.exec_rl_at_ixd_a s
  | .rr_at_ixd_b => Sys2Proof.Machine.exec_rr_at_ixd_b s
  | .rr_at_ixd_c => Sys2Proof.Machine.exec_rr_at_ixd_c s
  | .rr_at_ixd_d => Sys2Proof.Machine.exec_rr_at_ixd_d s
  | .rr_at_ixd_e => Sys2Proof.Machine.exec_rr_at_ixd_e s
  | .rr_at_ixd_h => Sys2Proof.Machine.exec_rr_at_ixd_h s
  | .rr_at_ixd_l => Sys2Proof.Machine.exec_rr_at_ixd_l s
  | .rr_at_ixd => Sys2Proof.Machine.exec_rr_at_ixd s
  | .rr_at_ixd_a => Sys2Proof.Machine.exec_rr_at_ixd_a s
  | .sla_at_ixd_b => Sys2Proof.Machine.exec_sla_at_ixd_b s
  | .sla_at_ixd_c => Sys2Proof.Machine.exec_sla_at_ixd_c s
  | .sla_at_ixd_d => Sys2Proof.Machine.exec_sla_at_ixd_d s
  | .sla_at_ixd_e => Sys2Proof.Machine.exec_sla_at_ixd_e s
  | .sla_at_ixd_h => Sys2Proof.Machine.exec_sla_at_ixd_h s
  | .sla_at_ixd_l => Sys2Proof.Machine.exec_sla_at_ixd_l s
  | .sla_at_ixd => Sys2Proof.Machine.exec_sla_at_ixd s
  | .sla_at_ixd_a => Sys2Proof.Machine.exec_sla_at_ixd_a s
  | .sra_at_ixd_b => Sys2Proof.Machine.exec_sra_at_ixd_b s
  | .sra_at_ixd_c => Sys2Proof.Machine.exec_sra_at_ixd_c s
  | .sra_at_ixd_d => Sys2Proof.Machine.exec_sra_at_ixd_d s
  | .sra_at_ixd_e => Sys2Proof.Machine.exec_sra_at_ixd_e s
  | .sra_at_ixd_h => Sys2Proof.Machine.exec_sra_at_ixd_h s
  | .sra_at_ixd_l => Sys2Proof.Machine.exec_sra_at_ixd_l s
  | .sra_at_ixd => Sys2Proof.Machine.exec_sra_at_ixd s
  | .sra_at_ixd_a => Sys2Proof.Machine.exec_sra_at_ixd_a s
  | .sll_at_ixd_b => Sys2Proof.Machine.exec_sll_at_ixd_b s
  | .sll_at_ixd_c => Sys2Proof.Machine.exec_sll_at_ixd_c s
  | .sll_at_ixd_d => Sys2Proof.Machine.exec_sll_at_ixd_d s
  | .sll_at_ixd_e => Sys2Proof.Machine.exec_sll_at_ixd_e s
  | .sll_at_ixd_h => Sys2Proof.Machine.exec_sll_at_ixd_h s
  | .sll_at_ixd_l => Sys2Proof.Machine.exec_sll_at_ixd_l s
  | .sll_at_ixd => Sys2Proof.Machine.exec_sll_at_ixd s
  | .sll_at_ixd_a => Sys2Proof.Machine.exec_sll_at_ixd_a s
  | .srl_at_ixd_b => Sys2Proof.Machine.exec_srl_at_ixd_b s
  | .srl_at_ixd_c => Sys2Proof.Machine.exec_srl_at_ixd_c s
  | .srl_at_ixd_d => Sys2Proof.Machine.exec_srl_at_ixd_d s
  | .srl_at_ixd_e => Sys2Proof.Machine.exec_srl_at_ixd_e s
  | .srl_at_ixd_h => Sys2Proof.Machine.exec_srl_at_ixd_h s
  | .srl_at_ixd_l => Sys2Proof.Machine.exec_srl_at_ixd_l s
  | .srl_at_ixd => Sys2Proof.Machine.exec_srl_at_ixd s
  | .srl_at_ixd_a => Sys2Proof.Machine.exec_srl_at_ixd_a s
  | .res_0_at_ixd_b => Sys2Proof.Machine.exec_res_0_at_ixd_b s
  | .res_0_at_ixd_c => Sys2Proof.Machine.exec_res_0_at_ixd_c s
  | .res_0_at_ixd_d => Sys2Proof.Machine.exec_res_0_at_ixd_d s
  | .res_0_at_ixd_e => Sys2Proof.Machine.exec_res_0_at_ixd_e s
  | .res_0_at_ixd_h => Sys2Proof.Machine.exec_res_0_at_ixd_h s
  | .res_0_at_ixd_l => Sys2Proof.Machine.exec_res_0_at_ixd_l s
  | .res_0_at_ixd => Sys2Proof.Machine.exec_res_0_at_ixd s
  | .res_0_at_ixd_a => Sys2Proof.Machine.exec_res_0_at_ixd_a s
  | .res_1_at_ixd_b => Sys2Proof.Machine.exec_res_1_at_ixd_b s
  | .res_1_at_ixd_c => Sys2Proof.Machine.exec_res_1_at_ixd_c s
  | .res_1_at_ixd_d => Sys2Proof.Machine.exec_res_1_at_ixd_d s
  | .res_1_at_ixd_e => Sys2Proof.Machine.exec_res_1_at_ixd_e s
  | .res_1_at_ixd_h => Sys2Proof.Machine.exec_res_1_at_ixd_h s
  | .res_1_at_ixd_l => Sys2Proof.Machine.exec_res_1_at_ixd_l s
  | .res_1_at_ixd => Sys2Proof.Machine.exec_res_1_at_ixd s
  | .res_1_at_ixd_a => Sys2Proof.Machine.exec_res_1_at_ixd_a s
  | .res_2_at_ixd_b => Sys2Proof.Machine.exec_res_2_at_ixd_b s
  | .res_2_at_ixd_c => Sys2Proof.Machine.exec_res_2_at_ixd_c s
  | .res_2_at_ixd_d => Sys2Proof.Machine.exec_res_2_at_ixd_d s
  | .res_2_at_ixd_e => Sys2Proof.Machine.exec_res_2_at_ixd_e s
  | .res_2_at_ixd_h => Sys2Proof.Machine.exec_res_2_at_ixd_h s
  | .res_2_at_ixd_l => Sys2Proof.Machine.exec_res_2_at_ixd_l s
  | .res_2_at_ixd => Sys2Proof.Machine.exec_res_2_at_ixd s
  | .res_2_at_ixd_a => Sys2Proof.Machine.exec_res_2_at_ixd_a s
  | .res_3_at_ixd_b => Sys2Proof.Machine.exec_res_3_at_ixd_b s
  | .res_3_at_ixd_c => Sys2Proof.Machine.exec_res_3_at_ixd_c s
  | .res_3_at_ixd_d => Sys2Proof.Machine.exec_res_3_at_ixd_d s
  | .res_3_at_ixd_e => Sys2Proof.Machine.exec_res_3_at_ixd_e s
  | .res_3_at_ixd_h => Sys2Proof.Machine.exec_res_3_at_ixd_h s
  | .res_3_at_ixd_l => Sys2Proof.Machine.exec_res_3_at_ixd_l s
  | .res_3_at_ixd => Sys2Proof.Machine.exec_res_3_at_ixd s
  | .res_3_at_ixd_a => Sys2Proof.Machine.exec_res_3_at_ixd_a s
  | .res_4_at_ixd_b => Sys2Proof.Machine.exec_res_4_at_ixd_b s
  | .res_4_at_ixd_c => Sys2Proof.Machine.exec_res_4_at_ixd_c s
  | .res_4_at_ixd_d => Sys2Proof.Machine.exec_res_4_at_ixd_d s
  | .res_4_at_ixd_e => Sys2Proof.Machine.exec_res_4_at_ixd_e s
  | .res_4_at_ixd_h => Sys2Proof.Machine.exec_res_4_at_ixd_h s
  | .res_4_at_ixd_l => Sys2Proof.Machine.exec_res_4_at_ixd_l s
  | .res_4_at_ixd => Sys2Proof.Machine.exec_res_4_at_ixd s
  | .res_4_at_ixd_a => Sys2Proof.Machine.exec_res_4_at_ixd_a s
  | .res_5_at_ixd_b => Sys2Proof.Machine.exec_res_5_at_ixd_b s
  | .res_5_at_ixd_c => Sys2Proof.Machine.exec_res_5_at_ixd_c s
  | .res_5_at_ixd_d => Sys2Proof.Machine.exec_res_5_at_ixd_d s
  | .res_5_at_ixd_e => Sys2Proof.Machine.exec_res_5_at_ixd_e s
  | .res_5_at_ixd_h => Sys2Proof.Machine.exec_res_5_at_ixd_h s
  | .res_5_at_ixd_l => Sys2Proof.Machine.exec_res_5_at_ixd_l s
  | .res_5_at_ixd => Sys2Proof.Machine.exec_res_5_at_ixd s
  | .res_5_at_ixd_a => Sys2Proof.Machine.exec_res_5_at_ixd_a s
  | .res_6_at_ixd_b => Sys2Proof.Machine.exec_res_6_at_ixd_b s
  | .res_6_at_ixd_c => Sys2Proof.Machine.exec_res_6_at_ixd_c s
  | .res_6_at_ixd_d => Sys2Proof.Machine.exec_res_6_at_ixd_d s
  | .res_6_at_ixd_e => Sys2Proof.Machine.exec_res_6_at_ixd_e s
  | .res_6_at_ixd_h => Sys2Proof.Machine.exec_res_6_at_ixd_h s
  | .res_6_at_ixd_l => Sys2Proof.Machine.exec_res_6_at_ixd_l s
  | .res_6_at_ixd => Sys2Proof.Machine.exec_res_6_at_ixd s
  | .res_6_at_ixd_a => Sys2Proof.Machine.exec_res_6_at_ixd_a s
  | .res_7_at_ixd_b => Sys2Proof.Machine.exec_res_7_at_ixd_b s
  | .res_7_at_ixd_c => Sys2Proof.Machine.exec_res_7_at_ixd_c s
  | .res_7_at_ixd_d => Sys2Proof.Machine.exec_res_7_at_ixd_d s
  | .res_7_at_ixd_e => Sys2Proof.Machine.exec_res_7_at_ixd_e s
  | .res_7_at_ixd_h => Sys2Proof.Machine.exec_res_7_at_ixd_h s
  | .res_7_at_ixd_l => Sys2Proof.Machine.exec_res_7_at_ixd_l s
  | .res_7_at_ixd => Sys2Proof.Machine.exec_res_7_at_ixd s
  | .res_7_at_ixd_a => Sys2Proof.Machine.exec_res_7_at_ixd_a s
  | .set_0_at_ixd_b => Sys2Proof.Machine.exec_set_0_at_ixd_b s
  | .set_0_at_ixd_c => Sys2Proof.Machine.exec_set_0_at_ixd_c s
  | .set_0_at_ixd_d => Sys2Proof.Machine.exec_set_0_at_ixd_d s
  | .set_0_at_ixd_e => Sys2Proof.Machine.exec_set_0_at_ixd_e s
  | .set_0_at_ixd_h => Sys2Proof.Machine.exec_set_0_at_ixd_h s
  | .set_0_at_ixd_l => Sys2Proof.Machine.exec_set_0_at_ixd_l s
  | .set_0_at_ixd => Sys2Proof.Machine.exec_set_0_at_ixd s
  | .set_0_at_ixd_a => Sys2Proof.Machine.exec_set_0_at_ixd_a s
  | .set_1_at_ixd_b => Sys2Proof.Machine.exec_set_1_at_ixd_b s
  | .set_1_at_ixd_c => Sys2Proof.Machine.exec_set_1_at_ixd_c s
  | .set_1_at_ixd_d => Sys2Proof.Machine.exec_set_1_at_ixd_d s
  | .set_1_at_ixd_e => Sys2Proof.Machine.exec_set_1_at_ixd_e s
  | .set_1_at_ixd_h => Sys2Proof.Machine.exec_set_1_at_ixd_h s
  | .set_1_at_ixd_l => Sys2Proof.Machine.exec_set_1_at_ixd_l s
  | .set_1_at_ixd => Sys2Proof.Machine.exec_set_1_at_ixd s
  | .set_1_at_ixd_a => Sys2Proof.Machine.exec_set_1_at_ixd_a s
  | .set_2_at_ixd_b => Sys2Proof.Machine.exec_set_2_at_ixd_b s
  | .set_2_at_ixd_c => Sys2Proof.Machine.exec_set_2_at_ixd_c s
  | .set_2_at_ixd_d => Sys2Proof.Machine.exec_set_2_at_ixd_d s
  | .set_2_at_ixd_e => Sys2Proof.Machine.exec_set_2_at_ixd_e s
  | .set_2_at_ixd_h => Sys2Proof.Machine.exec_set_2_at_ixd_h s
  | .set_2_at_ixd_l => Sys2Proof.Machine.exec_set_2_at_ixd_l s
  | .set_2_at_ixd => Sys2Proof.Machine.exec_set_2_at_ixd s
  | .set_2_at_ixd_a => Sys2Proof.Machine.exec_set_2_at_ixd_a s
  | .set_3_at_ixd_b => Sys2Proof.Machine.exec_set_3_at_ixd_b s
  | .set_3_at_ixd_c => Sys2Proof.Machine.exec_set_3_at_ixd_c s
  | .set_3_at_ixd_d => Sys2Proof.Machine.exec_set_3_at_ixd_d s
  | .set_3_at_ixd_e => Sys2Proof.Machine.exec_set_3_at_ixd_e s
  | .set_3_at_ixd_h => Sys2Proof.Machine.exec_set_3_at_ixd_h s
  | .set_3_at_ixd_l => Sys2Proof.Machine.exec_set_3_at_ixd_l s
  | .set_3_at_ixd => Sys2Proof.Machine.exec_set_3_at_ixd s
  | .set_3_at_ixd_a => Sys2Proof.Machine.exec_set_3_at_ixd_a s
  | .set_4_at_ixd_b => Sys2Proof.Machine.exec_set_4_at_ixd_b s
  | .set_4_at_ixd_c => Sys2Proof.Machine.exec_set_4_at_ixd_c s
  | .set_4_at_ixd_d => Sys2Proof.Machine.exec_set_4_at_ixd_d s
  | .set_4_at_ixd_e => Sys2Proof.Machine.exec_set_4_at_ixd_e s
  | .set_4_at_ixd_h => Sys2Proof.Machine.exec_set_4_at_ixd_h s
  | .set_4_at_ixd_l => Sys2Proof.Machine.exec_set_4_at_ixd_l s
  | .set_4_at_ixd => Sys2Proof.Machine.exec_set_4_at_ixd s
  | .set_4_at_ixd_a => Sys2Proof.Machine.exec_set_4_at_ixd_a s
  | .set_5_at_ixd_b => Sys2Proof.Machine.exec_set_5_at_ixd_b s
  | .set_5_at_ixd_c => Sys2Proof.Machine.exec_set_5_at_ixd_c s
  | .set_5_at_ixd_d => Sys2Proof.Machine.exec_set_5_at_ixd_d s
  | .set_5_at_ixd_e => Sys2Proof.Machine.exec_set_5_at_ixd_e s
  | .set_5_at_ixd_h => Sys2Proof.Machine.exec_set_5_at_ixd_h s
  | .set_5_at_ixd_l => Sys2Proof.Machine.exec_set_5_at_ixd_l s
  | .set_5_at_ixd => Sys2Proof.Machine.exec_set_5_at_ixd s
  | .set_5_at_ixd_a => Sys2Proof.Machine.exec_set_5_at_ixd_a s
  | .set_6_at_ixd_b => Sys2Proof.Machine.exec_set_6_at_ixd_b s
  | .set_6_at_ixd_c => Sys2Proof.Machine.exec_set_6_at_ixd_c s
  | .set_6_at_ixd_d => Sys2Proof.Machine.exec_set_6_at_ixd_d s
  | .set_6_at_ixd_e => Sys2Proof.Machine.exec_set_6_at_ixd_e s
  | .set_6_at_ixd_h => Sys2Proof.Machine.exec_set_6_at_ixd_h s
  | .set_6_at_ixd_l => Sys2Proof.Machine.exec_set_6_at_ixd_l s
  | .set_6_at_ixd => Sys2Proof.Machine.exec_set_6_at_ixd s
  | .set_6_at_ixd_a => Sys2Proof.Machine.exec_set_6_at_ixd_a s
  | .set_7_at_ixd_b => Sys2Proof.Machine.exec_set_7_at_ixd_b s
  | .set_7_at_ixd_c => Sys2Proof.Machine.exec_set_7_at_ixd_c s
  | .set_7_at_ixd_d => Sys2Proof.Machine.exec_set_7_at_ixd_d s
  | .set_7_at_ixd_e => Sys2Proof.Machine.exec_set_7_at_ixd_e s
  | .set_7_at_ixd_h => Sys2Proof.Machine.exec_set_7_at_ixd_h s
  | .set_7_at_ixd_l => Sys2Proof.Machine.exec_set_7_at_ixd_l s
  | .set_7_at_ixd => Sys2Proof.Machine.exec_set_7_at_ixd s
  | .set_7_at_ixd_a => Sys2Proof.Machine.exec_set_7_at_ixd_a s
  | .rlc_at_iyd_b => Sys2Proof.Machine.exec_rlc_at_iyd_b s
  | .rlc_at_iyd_c => Sys2Proof.Machine.exec_rlc_at_iyd_c s
  | .rlc_at_iyd_d => Sys2Proof.Machine.exec_rlc_at_iyd_d s
  | .rlc_at_iyd_e => Sys2Proof.Machine.exec_rlc_at_iyd_e s
  | .rlc_at_iyd_h => Sys2Proof.Machine.exec_rlc_at_iyd_h s
  | .rlc_at_iyd_l => Sys2Proof.Machine.exec_rlc_at_iyd_l s
  | .rlc_at_iyd => Sys2Proof.Machine.exec_rlc_at_iyd s
  | .rlc_at_iyd_a => Sys2Proof.Machine.exec_rlc_at_iyd_a s
  | .rrc_at_iyd_b => Sys2Proof.Machine.exec_rrc_at_iyd_b s
  | .rrc_at_iyd_c => Sys2Proof.Machine.exec_rrc_at_iyd_c s
  | .rrc_at_iyd_d => Sys2Proof.Machine.exec_rrc_at_iyd_d s
  | .rrc_at_iyd_e => Sys2Proof.Machine.exec_rrc_at_iyd_e s
  | .rrc_at_iyd_h => Sys2Proof.Machine.exec_rrc_at_iyd_h s
  | .rrc_at_iyd_l => Sys2Proof.Machine.exec_rrc_at_iyd_l s
  | .rrc_at_iyd => Sys2Proof.Machine.exec_rrc_at_iyd s
  | .rrc_at_iyd_a => Sys2Proof.Machine.exec_rrc_at_iyd_a s
  | .rl_at_iyd_b => Sys2Proof.Machine.exec_rl_at_iyd_b s
  | .rl_at_iyd_c => Sys2Proof.Machine.exec_rl_at_iyd_c s
  | .rl_at_iyd_d => Sys2Proof.Machine.exec_rl_at_iyd_d s
  | .rl_at_iyd_e => Sys2Proof.Machine.exec_rl_at_iyd_e s
  | .rl_at_iyd_h => Sys2Proof.Machine.exec_rl_at_iyd_h s
  | .rl_at_iyd_l => Sys2Proof.Machine.exec_rl_at_iyd_l s
  | .rl_at_iyd => Sys2Proof.Machine.exec_rl_at_iyd s
  | .rl_at_iyd_a => Sys2Proof.Machine.exec_rl_at_iyd_a s
  | .rr_at_iyd_b => Sys2Proof.Machine.exec_rr_at_iyd_b s
  | .rr_at_iyd_c => Sys2Proof.Machine.exec_rr_at_iyd_c s
  | .rr_at_iyd_d => Sys2Proof.Machine.exec_rr_at_iyd_d s
  | .rr_at_iyd_e => Sys2Proof.Machine.exec_rr_at_iyd_e s
  | .rr_at_iyd_h => Sys2Proof.Machine.exec_rr_at_iyd_h s
  | .rr_at_iyd_l => Sys2Proof.Machine.exec_rr_at_iyd_l s
  | .rr_at_iyd => Sys2Proof.Machine.exec_rr_at_iyd s
  | .rr_at_iyd_a => Sys2Proof.Machine.exec_rr_at_iyd_a s
  | .sla_at_iyd_b => Sys2Proof.Machine.exec_sla_at_iyd_b s
  | .sla_at_iyd_c => Sys2Proof.Machine.exec_sla_at_iyd_c s
  | .sla_at_iyd_d => Sys2Proof.Machine.exec_sla_at_iyd_d s
  | .sla_at_iyd_e => Sys2Proof.Machine.exec_sla_at_iyd_e s
  | .sla_at_iyd_h => Sys2Proof.Machine.exec_sla_at_iyd_h s
  | .sla_at_iyd_l => Sys2Proof.Machine.exec_sla_at_iyd_l s
  | .sla_at_iyd => Sys2Proof.Machine.exec_sla_at_iyd s
  | .sla_at_iyd_a => Sys2Proof.Machine.exec_sla_at_iyd_a s
  | .sra_at_iyd_b => Sys2Proof.Machine.exec_sra_at_iyd_b s
  | .sra_at_iyd_c => Sys2Proof.Machine.exec_sra_at_iyd_c s
  | .sra_at_iyd_d => Sys2Proof.Machine.exec_sra_at_iyd_d s
  | .sra_at_iyd_e => Sys2Proof.Machine.exec_sra_at_iyd_e s
  | .sra_at_iyd_h => Sys2Proof.Machine.exec_sra_at_iyd_h s
  | .sra_at_iyd_l => Sys2Proof.Machine.exec_sra_at_iyd_l s
  | .sra_at_iyd => Sys2Proof.Machine.exec_sra_at_iyd s
  | .sra_at_iyd_a => Sys2Proof.Machine.exec_sra_at_iyd_a s
  | .sll_at_iyd_b => Sys2Proof.Machine.exec_sll_at_iyd_b s
  | .sll_at_iyd_c => Sys2Proof.Machine.exec_sll_at_iyd_c s
  | .sll_at_iyd_d => Sys2Proof.Machine.exec_sll_at_iyd_d s
  | .sll_at_iyd_e => Sys2Proof.Machine.exec_sll_at_iyd_e s
  | .sll_at_iyd_h => Sys2Proof.Machine.exec_sll_at_iyd_h s
  | .sll_at_iyd_l => Sys2Proof.Machine.exec_sll_at_iyd_l s
  | .sll_at_iyd => Sys2Proof.Machine.exec_sll_at_iyd s
  | .sll_at_iyd_a => Sys2Proof.Machine.exec_sll_at_iyd_a s
  | .srl_at_iyd_b => Sys2Proof.Machine.exec_srl_at_iyd_b s
  | .srl_at_iyd_c => Sys2Proof.Machine.exec_srl_at_iyd_c s
  | .srl_at_iyd_d => Sys2Proof.Machine.exec_srl_at_iyd_d s
  | .srl_at_iyd_e => Sys2Proof.Machine.exec_srl_at_iyd_e s
  | .srl_at_iyd_h => Sys2Proof.Machine.exec_srl_at_iyd_h s
  | .srl_at_iyd_l => Sys2Proof.Machine.exec_srl_at_iyd_l s
  | .srl_at_iyd => Sys2Proof.Machine.exec_srl_at_iyd s
  | .srl_at_iyd_a => Sys2Proof.Machine.exec_srl_at_iyd_a s
  | .res_0_at_iyd_b => Sys2Proof.Machine.exec_res_0_at_iyd_b s
  | .res_0_at_iyd_c => Sys2Proof.Machine.exec_res_0_at_iyd_c s
  | .res_0_at_iyd_d => Sys2Proof.Machine.exec_res_0_at_iyd_d s
  | .res_0_at_iyd_e => Sys2Proof.Machine.exec_res_0_at_iyd_e s
  | .res_0_at_iyd_h => Sys2Proof.Machine.exec_res_0_at_iyd_h s
  | .res_0_at_iyd_l => Sys2Proof.Machine.exec_res_0_at_iyd_l s
  | .res_0_at_iyd => Sys2Proof.Machine.exec_res_0_at_iyd s
  | .res_0_at_iyd_a => Sys2Proof.Machine.exec_res_0_at_iyd_a s
  | .res_1_at_iyd_b => Sys2Proof.Machine.exec_res_1_at_iyd_b s
  | .res_1_at_iyd_c => Sys2Proof.Machine.exec_res_1_at_iyd_c s
  | .res_1_at_iyd_d => Sys2Proof.Machine.exec_res_1_at_iyd_d s
  | .res_1_at_iyd_e => Sys2Proof.Machine.exec_res_1_at_iyd_e s
  | .res_1_at_iyd_h => Sys2Proof.Machine.exec_res_1_at_iyd_h s
  | .res_1_at_iyd_l => Sys2Proof.Machine.exec_res_1_at_iyd_l s
  | .res_1_at_iyd => Sys2Proof.Machine.exec_res_1_at_iyd s
  | .res_1_at_iyd_a => Sys2Proof.Machine.exec_res_1_at_iyd_a s
  | .res_2_at_iyd_b => Sys2Proof.Machine.exec_res_2_at_iyd_b s
  | .res_2_at_iyd_c => Sys2Proof.Machine.exec_res_2_at_iyd_c s
  | .res_2_at_iyd_d => Sys2Proof.Machine.exec_res_2_at_iyd_d s
  | .res_2_at_iyd_e => Sys2Proof.Machine.exec_res_2_at_iyd_e s
  | .res_2_at_iyd_h => Sys2Proof.Machine.exec_res_2_at_iyd_h s
  | .res_2_at_iyd_l => Sys2Proof.Machine.exec_res_2_at_iyd_l s
  | .res_2_at_iyd => Sys2Proof.Machine.exec_res_2_at_iyd s
  | .res_2_at_iyd_a => Sys2Proof.Machine.exec_res_2_at_iyd_a s
  | .res_3_at_iyd_b => Sys2Proof.Machine.exec_res_3_at_iyd_b s
  | .res_3_at_iyd_c => Sys2Proof.Machine.exec_res_3_at_iyd_c s
  | .res_3_at_iyd_d => Sys2Proof.Machine.exec_res_3_at_iyd_d s
  | .res_3_at_iyd_e => Sys2Proof.Machine.exec_res_3_at_iyd_e s
  | .res_3_at_iyd_h => Sys2Proof.Machine.exec_res_3_at_iyd_h s
  | .res_3_at_iyd_l => Sys2Proof.Machine.exec_res_3_at_iyd_l s
  | .res_3_at_iyd => Sys2Proof.Machine.exec_res_3_at_iyd s
  | .res_3_at_iyd_a => Sys2Proof.Machine.exec_res_3_at_iyd_a s
  | .res_4_at_iyd_b => Sys2Proof.Machine.exec_res_4_at_iyd_b s
  | .res_4_at_iyd_c => Sys2Proof.Machine.exec_res_4_at_iyd_c s
  | .res_4_at_iyd_d => Sys2Proof.Machine.exec_res_4_at_iyd_d s
  | .res_4_at_iyd_e => Sys2Proof.Machine.exec_res_4_at_iyd_e s
  | .res_4_at_iyd_h => Sys2Proof.Machine.exec_res_4_at_iyd_h s
  | .res_4_at_iyd_l => Sys2Proof.Machine.exec_res_4_at_iyd_l s
  | .res_4_at_iyd => Sys2Proof.Machine.exec_res_4_at_iyd s
  | .res_4_at_iyd_a => Sys2Proof.Machine.exec_res_4_at_iyd_a s
  | .res_5_at_iyd_b => Sys2Proof.Machine.exec_res_5_at_iyd_b s
  | .res_5_at_iyd_c => Sys2Proof.Machine.exec_res_5_at_iyd_c s
  | .res_5_at_iyd_d => Sys2Proof.Machine.exec_res_5_at_iyd_d s
  | .res_5_at_iyd_e => Sys2Proof.Machine.exec_res_5_at_iyd_e s
  | .res_5_at_iyd_h => Sys2Proof.Machine.exec_res_5_at_iyd_h s
  | .res_5_at_iyd_l => Sys2Proof.Machine.exec_res_5_at_iyd_l s
  | .res_5_at_iyd => Sys2Proof.Machine.exec_res_5_at_iyd s
  | .res_5_at_iyd_a => Sys2Proof.Machine.exec_res_5_at_iyd_a s
  | .res_6_at_iyd_b => Sys2Proof.Machine.exec_res_6_at_iyd_b s
  | .res_6_at_iyd_c => Sys2Proof.Machine.exec_res_6_at_iyd_c s
  | .res_6_at_iyd_d => Sys2Proof.Machine.exec_res_6_at_iyd_d s
  | .res_6_at_iyd_e => Sys2Proof.Machine.exec_res_6_at_iyd_e s
  | .res_6_at_iyd_h => Sys2Proof.Machine.exec_res_6_at_iyd_h s
  | .res_6_at_iyd_l => Sys2Proof.Machine.exec_res_6_at_iyd_l s
  | .res_6_at_iyd => Sys2Proof.Machine.exec_res_6_at_iyd s
  | .res_6_at_iyd_a => Sys2Proof.Machine.exec_res_6_at_iyd_a s
  | .res_7_at_iyd_b => Sys2Proof.Machine.exec_res_7_at_iyd_b s
  | .res_7_at_iyd_c => Sys2Proof.Machine.exec_res_7_at_iyd_c s
  | .res_7_at_iyd_d => Sys2Proof.Machine.exec_res_7_at_iyd_d s
  | .res_7_at_iyd_e => Sys2Proof.Machine.exec_res_7_at_iyd_e s
  | .res_7_at_iyd_h => Sys2Proof.Machine.exec_res_7_at_iyd_h s
  | .res_7_at_iyd_l => Sys2Proof.Machine.exec_res_7_at_iyd_l s
  | .res_7_at_iyd => Sys2Proof.Machine.exec_res_7_at_iyd s
  | .res_7_at_iyd_a => Sys2Proof.Machine.exec_res_7_at_iyd_a s
  | .set_0_at_iyd_b => Sys2Proof.Machine.exec_set_0_at_iyd_b s
  | .set_0_at_iyd_c => Sys2Proof.Machine.exec_set_0_at_iyd_c s
  | .set_0_at_iyd_d => Sys2Proof.Machine.exec_set_0_at_iyd_d s
  | .set_0_at_iyd_e => Sys2Proof.Machine.exec_set_0_at_iyd_e s
  | .set_0_at_iyd_h => Sys2Proof.Machine.exec_set_0_at_iyd_h s
  | .set_0_at_iyd_l => Sys2Proof.Machine.exec_set_0_at_iyd_l s
  | .set_0_at_iyd => Sys2Proof.Machine.exec_set_0_at_iyd s
  | .set_0_at_iyd_a => Sys2Proof.Machine.exec_set_0_at_iyd_a s
  | .set_1_at_iyd_b => Sys2Proof.Machine.exec_set_1_at_iyd_b s
  | .set_1_at_iyd_c => Sys2Proof.Machine.exec_set_1_at_iyd_c s
  | .set_1_at_iyd_d => Sys2Proof.Machine.exec_set_1_at_iyd_d s
  | .set_1_at_iyd_e => Sys2Proof.Machine.exec_set_1_at_iyd_e s
  | .set_1_at_iyd_h => Sys2Proof.Machine.exec_set_1_at_iyd_h s
  | .set_1_at_iyd_l => Sys2Proof.Machine.exec_set_1_at_iyd_l s
  | .set_1_at_iyd => Sys2Proof.Machine.exec_set_1_at_iyd s
  | .set_1_at_iyd_a => Sys2Proof.Machine.exec_set_1_at_iyd_a s
  | .set_2_at_iyd_b => Sys2Proof.Machine.exec_set_2_at_iyd_b s
  | .set_2_at_iyd_c => Sys2Proof.Machine.exec_set_2_at_iyd_c s
  | .set_2_at_iyd_d => Sys2Proof.Machine.exec_set_2_at_iyd_d s
  | .set_2_at_iyd_e => Sys2Proof.Machine.exec_set_2_at_iyd_e s
  | .set_2_at_iyd_h => Sys2Proof.Machine.exec_set_2_at_iyd_h s
  | .set_2_at_iyd_l => Sys2Proof.Machine.exec_set_2_at_iyd_l s
  | .set_2_at_iyd => Sys2Proof.Machine.exec_set_2_at_iyd s
  | .set_2_at_iyd_a => Sys2Proof.Machine.exec_set_2_at_iyd_a s
  | .set_3_at_iyd_b => Sys2Proof.Machine.exec_set_3_at_iyd_b s
  | .set_3_at_iyd_c => Sys2Proof.Machine.exec_set_3_at_iyd_c s
  | .set_3_at_iyd_d => Sys2Proof.Machine.exec_set_3_at_iyd_d s
  | .set_3_at_iyd_e => Sys2Proof.Machine.exec_set_3_at_iyd_e s
  | .set_3_at_iyd_h => Sys2Proof.Machine.exec_set_3_at_iyd_h s
  | .set_3_at_iyd_l => Sys2Proof.Machine.exec_set_3_at_iyd_l s
  | .set_3_at_iyd => Sys2Proof.Machine.exec_set_3_at_iyd s
  | .set_3_at_iyd_a => Sys2Proof.Machine.exec_set_3_at_iyd_a s
  | .set_4_at_iyd_b => Sys2Proof.Machine.exec_set_4_at_iyd_b s
  | .set_4_at_iyd_c => Sys2Proof.Machine.exec_set_4_at_iyd_c s
  | .set_4_at_iyd_d => Sys2Proof.Machine.exec_set_4_at_iyd_d s
  | .set_4_at_iyd_e => Sys2Proof.Machine.exec_set_4_at_iyd_e s
  | .set_4_at_iyd_h => Sys2Proof.Machine.exec_set_4_at_iyd_h s
  | .set_4_at_iyd_l => Sys2Proof.Machine.exec_set_4_at_iyd_l s
  | .set_4_at_iyd => Sys2Proof.Machine.exec_set_4_at_iyd s
  | .set_4_at_iyd_a => Sys2Proof.Machine.exec_set_4_at_iyd_a s
  | .set_5_at_iyd_b => Sys2Proof.Machine.exec_set_5_at_iyd_b s
  | .set_5_at_iyd_c => Sys2Proof.Machine.exec_set_5_at_iyd_c s
  | .set_5_at_iyd_d => Sys2Proof.Machine.exec_set_5_at_iyd_d s
  | .set_5_at_iyd_e => Sys2Proof.Machine.exec_set_5_at_iyd_e s
  | .set_5_at_iyd_h => Sys2Proof.Machine.exec_set_5_at_iyd_h s
  | .set_5_at_iyd_l => Sys2Proof.Machine.exec_set_5_at_iyd_l s
  | .set_5_at_iyd => Sys2Proof.Machine.exec_set_5_at_iyd s
  | .set_5_at_iyd_a => Sys2Proof.Machine.exec_set_5_at_iyd_a s
  | .set_6_at_iyd_b => Sys2Proof.Machine.exec_set_6_at_iyd_b s
  | .set_6_at_iyd_c => Sys2Proof.Machine.exec_set_6_at_iyd_c s
  | .set_6_at_iyd_d => Sys2Proof.Machine.exec_set_6_at_iyd_d s
  | .set_6_at_iyd_e => Sys2Proof.Machine.exec_set_6_at_iyd_e s
  | .set_6_at_iyd_h => Sys2Proof.Machine.exec_set_6_at_iyd_h s
  | .set_6_at_iyd_l => Sys2Proof.Machine.exec_set_6_at_iyd_l s
  | .set_6_at_iyd => Sys2Proof.Machine.exec_set_6_at_iyd s
  | .set_6_at_iyd_a => Sys2Proof.Machine.exec_set_6_at_iyd_a s
  | .set_7_at_iyd_b => Sys2Proof.Machine.exec_set_7_at_iyd_b s
  | .set_7_at_iyd_c => Sys2Proof.Machine.exec_set_7_at_iyd_c s
  | .set_7_at_iyd_d => Sys2Proof.Machine.exec_set_7_at_iyd_d s
  | .set_7_at_iyd_e => Sys2Proof.Machine.exec_set_7_at_iyd_e s
  | .set_7_at_iyd_h => Sys2Proof.Machine.exec_set_7_at_iyd_h s
  | .set_7_at_iyd_l => Sys2Proof.Machine.exec_set_7_at_iyd_l s
  | .set_7_at_iyd => Sys2Proof.Machine.exec_set_7_at_iyd s
  | .set_7_at_iyd_a => Sys2Proof.Machine.exec_set_7_at_iyd_a s
  | .in_b_at_c => Sys2Proof.Machine.exec_in_b_at_c s
  | .out_at_c_b => Sys2Proof.Machine.exec_out_at_c_b s
  | .sbc_hl_bc => Sys2Proof.Machine.exec_sbc_hl_bc s
  | .ld_at_nn_bc => Sys2Proof.Machine.exec_ld_at_nn_bc s
  | .ld_i_a => Sys2Proof.Machine.exec_ld_i_a s
  | .in_c_at_c => Sys2Proof.Machine.exec_in_c_at_c s
  | .out_at_c_c => Sys2Proof.Machine.exec_out_at_c_c s
  | .adc_hl_bc => Sys2Proof.Machine.exec_adc_hl_bc s
  | .ld_bc_at_nn => Sys2Proof.Machine.exec_ld_bc_at_nn s
  | .reti => Sys2Proof.Machine.exec_reti s
  | .ld_r_a => Sys2Proof.Machine.exec_ld_r_a s
  | .in_d_at_c => Sys2Proof.Machine.exec_in_d_at_c s
  | .out_at_c_d => Sys2Proof.Machine.exec_out_at_c_d s
  | .sbc_hl_de => Sys2Proof.Machine.exec_sbc_hl_de s
  | .ld_at_nn_de => Sys2Proof.Machine.exec_ld_at_nn_de s
  | .ld_a_i => Sys2Proof.Machine.exec_ld_a_i s
  | .in_e_at_c => Sys2Proof.Machine.exec_in_e_at_c s
  | .out_at_c_e => Sys2Proof.Machine.exec_out_at_c_e s
  | .adc_hl_de => Sys2Proof.Machine.exec_adc_hl_de s
  | .ld_de_at_nn => Sys2Proof.Machine.exec_ld_de_at_nn s
  | .ld_a_r => Sys2Proof.Machine.exec_ld_a_r s
  | .in_h_at_c => Sys2Proof.Machine.exec_in_h_at_c s
  | .out_at_c_h => Sys2Proof.Machine.exec_out_at_c_h s
  | .sbc_hl_hl => Sys2Proof.Machine.exec_sbc_hl_hl s
  | .ld_at_nn_hl_ed => Sys2Proof.Machine.exec_ld_at_nn_hl_ed s
  | .rrd => Sys2Proof.Machine.exec_rrd s
  | .in_l_at_c => Sys2Proof.Machine.exec_in_l_at_c s
  | .out_at_c_l => Sys2Proof.Machine.exec_out_at_c_l s
  | .adc_hl_hl => Sys2Proof.Machine.exec_adc_hl_hl s
  | .ld_hl_at_nn_ed => Sys2Proof.Machine.exec_ld_hl_at_nn_ed s
  | .rld => Sys2Proof.Machine.exec_rld s
  | .in_at_c => Sys2Proof.Machine.exec_in_at_c s
  | .out_at_c_0 => Sys2Proof.Machine.exec_out_at_c_0 s
  | .sbc_hl_sp => Sys2Proof.Machine.exec_sbc_hl_sp s
  | .ld_at_nn_sp => Sys2Proof.Machine.exec_ld_at_nn_sp s
  | .in_a_at_c => Sys2Proof.Machine.exec_in_a_at_c s
  | .out_at_c_a => Sys2Proof.Machine.exec_out_at_c_a s
  | .adc_hl_sp => Sys2Proof.Machine.exec_adc_hl_sp s
  | .ld_sp_at_nn => Sys2Proof.Machine.exec_ld_sp_at_nn s
  | .ldi => Sys2Proof.Machine.exec_ldi s
  | .cpi => Sys2Proof.Machine.exec_cpi s
  | .ini => Sys2Proof.Machine.exec_ini s
  | .outi => Sys2Proof.Machine.exec_outi s
  | .ldd => Sys2Proof.Machine.exec_ldd s
  | .cpd => Sys2Proof.Machine.exec_cpd s
  | .ind => Sys2Proof.Machine.exec_ind s
  | .outd => Sys2Proof.Machine.exec_outd s
  | .ldir => Sys2Proof.Machine.exec_ldir s
  | .cpir => Sys2Proof.Machine.exec_cpir s
  | .inir => Sys2Proof.Machine.exec_inir s
  | .otir => Sys2Proof.Machine.exec_otir s
  | .lddr => Sys2Proof.Machine.exec_lddr s
  | .cpdr => Sys2Proof.Machine.exec_cpdr s
  | .indr => Sys2Proof.Machine.exec_indr s
  | .otdr => Sys2Proof.Machine.exec_otdr s

end Sys2Proof.Machine
end

