-- ==== Sys2Proof/Machine/Cycle.lean ====
section
/-! DEFINITION. One cycle of the dispatcher (41_dispatch_prefix.md R160 to R169): which instruction the cycle runs, the
state its entry finds, and what follows the entry. Also placing an instruction for the next step. -/

namespace Sys2Proof.Machine

/-- The opcode byte of the next cycle: the byte at `PC`, or the byte after the displacement (R160, R166). -/
def State.nextOpcode (s : State) : Byte :=
  if indexedBit s.prefixMode s.indexMode then s.byteAfter 1 (s.pc + 1#16) else s.byteAt s.pc

/-- The instruction the next cycle runs (R161). -/
def State.nextInstr (s : State) : Instr := decodeInstr s.prefixMode s.indexMode s.nextOpcode

/-- Whether the next cycle is a prefix byte's (R160): the latches decide, and the byte. -/
def State.atPrefix (s : State) : Bool := s.prefixMode == .none && isPrefixByte (s.byteAt s.pc)

/-- `op <- Fetch(); opCode <- op` (R160). -/
def State.fetchOpcode (s : State) : State := { s.fetch with opCode := s.byteAt s.pc }

/-- The first lines of `IndexedBitStep()` (R166): no `Fetch`, so `R` is unchanged. -/
def State.openIndexedBit (s : State) : State :=
  { (({ s with blocked := false }.imm8).imm8).tick s.cfg.tact.indexedBit with
    disp := s.byteAt s.pc, opCode := s.byteAfter 1 (s.pc + 1#16) }

/-- The state in which the instruction's own operation runs: the opcode is read, and before a terminal opcode
`blocked` is cleared (R160, R164, R166). -/
def State.enter (s : State) : State :=
  if indexedBit s.prefixMode s.indexMode then s.openIndexedBit
  else if s.atPrefix then s.fetchOpcode
  else { s.fetchOpcode with blocked := false }

/-- `Finish()` (R169). -/
def State.finish (s : State) : State := { s with prefixMode := .none, indexMode := .none, inOp := false }

/-- What follows the operation: `Finish()` after a terminal opcode, nothing after a prefix byte (R162, R164). -/
def State.close (s : State) (wasPrefix : Bool) : State := if wasPrefix then s else s.finish

/-- The opcode space that `EXT_TABLES = unimplemented` takes away from the next cycle (R168). -/
def State.missingTable (s : State) : Option ExtSpace :=
  match s.cfg.extTables, s.prefixMode with
  | .unimplemented, .bit => some .cb
  | .unimplemented, .extended => some .ed
  | .unimplemented, .none => none
  | .z80Reference, _ => none

/-- The cycle when no signal consumes it (R160). Raising `Unimplemented` names the space and `PC` as the cycle found it
(DESIGN CHOICE, log 9). -/
def runCycle (s : State) : Out :=
  match s.missingTable with
  | some space => .fault (.unimplemented space s.pc)
  | none =>
    match exec s.nextInstr s.enter with
    | .next t => .next ((t.close s.atPrefix).settle s.log.length)
    | .fault r => .fault r
    | .refused r => .refused r

/-! ## Placing an instruction (log 11) -/

/-- Bytes written at consecutive addresses, modulo 65536. -/
def State.pokeBytes (s : State) (a : Word) : List Byte → State
  | [] => s
  | v :: rest => (s.poke a v).pokeBytes (a + 1#16) rest

/-- No signal and no latch set, and memory without devices: the next cycle fetches the first byte of an instruction,
and reads it where it was placed. -/
def State.readyToFetch (s : State) : State :=
  { s with
    cfg.bus.windows := s.cfg.bus.windows.filter fun w => w.kind != .device
    sig := { int := false, halted := false, reset := false, nmi := false }
    blocked := false, inOp := false, prefixMode := .none, indexMode := .none }

/-- `n` prefix cycles. -/
def State.prefixCycles (s : State) : Nat → State
  | 0 => s
  | n + 1 =>
    match runCycle s with
    | .next t => t.prefixCycles n
    | .fault _ => s
    | .refused _ => s

/-- The number of prefix bytes of a byte list that act as prefixes of a later byte (R105). -/
def prefixCount (bytes : List Byte) : Nat :=
  match stripPrefixes .none .none bytes with
  | (_, _, rest) => bytes.length - rest.length

/-- A table word's bytes, padded with zeros to the four bytes of the longest instruction, at `PC`, and its prefix cycles
already done. -/
def State.place (s : State) (nbits w : Nat) : State :=
  let bytes := tableBytes nbits w
  let padded := bytes ++ List.replicate (4 - bytes.length) 0x00#8
  (s.readyToFetch.pokeBytes s.pc padded).prefixCycles (prefixCount bytes)

end Sys2Proof.Machine
end

