-- ==== Sys2Proof/Machine/Step.lean ====
section
/-! DEFINITION. One step is one `ExecuteCycle` (R160): the signal step, and when no signal consumes the cycle, the cycle of
the dispatcher. -/

namespace Sys2Proof.Machine

/-- `ExecuteCycle()` (R160). -/
def step (s : State) : Host.Outcome State Fault Refusal :=
  match s.signalStep with
  | some t => .next (t.settle s.log.length)
  | none => runCycle s

/-- `s` with a table word's instruction where the next step fetches it: the instruction's bytes stand at `PC` and the
cycles of its prefix bytes are done, so that the very next step runs the instruction itself (log 11). -/
def State.withFetchWord (s : State) (nbits w : Nat) : State := s.place nbits w

end Sys2Proof.Machine
end

