-- ==== Sys2Proof/Machine/HostInterface.lean ====
section
/-! DEFINITION. What the host may do between two steps (60_exceptions.md R540 to R546): functions on State, no steps
(log 10). -/

namespace Sys2Proof.Machine

/-- The host's actions, and the inputs of the environment behind the Bus. -/
inductive HostAction where
  /-- `reset()` (R543). -/
  | reset
  /-- `setResetSignal()` (R541). -/
  | setResetSignal
  /-- `clearResetSignal()` (R541). -/
  | clearResetSignal
  /-- `setSignal(Int)` (R542). -/
  | setInt
  /-- `clearSignal(Int)` (R542). -/
  | clearInt
  /-- `setSignal(Nmi)` (R542). -/
  | setNmi
  /-- `contentionDelay(n)`, `n` a u32 (R544). -/
  | contentionDelay (n : BitVec 32)
  /-- A change of memory behind the Bus (R540). -/
  | changeMemory (a : Word) (v : Byte)
  /-- The environment fixes its answer to one more port read (R67, log 4). -/
  | answerPort (v : Byte)
  deriving DecidableEq, Repr

/-- The effect of a host action (R541 to R544). -/
def State.act (s : State) (action : HostAction) : State :=
  match action with
  | .reset => s.resetOp
  | .setResetSignal => { s with sig.reset := true }
  | .clearResetSignal => { s with sig.reset := false }
  | .setInt => { s with sig.int := true }
  | .clearInt => { s with sig.int := false }
  | .setNmi => { s with sig.nmi := true }
  | .contentionDelay n => s.tick n.toNat
  | .changeMemory a v => s.poke a v
  | .answerPort v => { s with portInputs := s.portInputs ++ [v] }

/-- `getState()` (R545): a copy of the whole state; it changes nothing. -/
def State.getState (s : State) : State := s

/-- The test-support setters (R44, R546), one for each item of state and for each half. -/
inductive TestSetter where
  | reg (r : Reg8) (v : Byte)
  | f (v : Byte)
  | pair (p : QPair) (v : Word)
  | afAlt (v : Word)
  | bcAlt (v : Word)
  | deAlt (v : Word)
  | hlAlt (v : Word)
  | index (x : XY) (v : Word)
  | indexHalf (x : XY) (h : Half) (v : Byte)
  | sp (v : Word)
  | pc (v : Word)
  | wz (v : Word)
  | w (v : Byte)
  | z (v : Byte)
  | i (v : Byte)
  | r (v : Byte)
  | iff1 (v : Bool)
  | iff2 (v : Bool)
  | im (v : IntMode)
  | sig (v : Signals)
  | blocked (v : Bool)
  | inOp (v : Bool)
  | prefixMode (v : PrefixMode)
  | indexMode (v : IndexMode)
  | opCode (v : Byte)
  | tacts (v : Nat)
  deriving DecidableEq, Repr

/-- A test-support setter writes one item and keeps pairs and halves consistent; no tacts, no bus call (R44). -/
def State.testSet (s : State) (setter : TestSetter) : State :=
  match setter with
  | .reg r v => s.setReg r v
  | .f v => s.setF v
  | .pair p v => s.setQPair p v
  | .afAlt v => { s with afAlt := v }
  | .bcAlt v => { s with bcAlt := v }
  | .deAlt v => { s with deAlt := v }
  | .hlAlt v => { s with hlAlt := v }
  | .index x v => s.setXy x v
  | .indexHalf x h v => s.setHalf x h v
  | .sp v => s.setSp v
  | .pc v => s.setPc v
  | .wz v => s.setWz v
  | .w v => s.setWz (pairOf v (lowByte s.wz))
  | .z v => s.setWz (pairOf (highByte s.wz) v)
  | .i v => { s with iReg := v }
  | .r v => { s with rReg := v }
  | .iff1 v => { s with iff1 := v }
  | .iff2 v => { s with iff2 := v }
  | .im v => { s with im := v }
  | .sig v => { s with sig := v }
  | .blocked v => { s with blocked := v }
  | .inOp v => { s with inOp := v }
  | .prefixMode v => { s with prefixMode := v }
  | .indexMode v => { s with indexMode := v }
  | .opCode v => { s with opCode := v }
  | .tacts v => { s with tacts := v }

end Sys2Proof.Machine
end

