-- ==== Sys2Proof/Safety.lean ====
section
/-! DEFINITION. What counts as a sound state between two cycles, and as a safe one, in the terms the statements use. -/

namespace Sys2Proof.Machine

/-- The relations between the fields that every cycle and every host action keep. -/
structure Inv (s : State) : Prop where
  /-- Memory is in its canonical form. -/
  mem_wf : Memory.wf s.mem = true
  /-- The extended latch stands with no index latch (the table of R38, R163). -/
  ext_plain : s.prefixMode = .extended → s.indexMode = .none
  /-- `inOp` is true exactly while a latch is set (R37, R162, R169). -/
  inOp_iff : s.inOp = true ↔ (s.prefixMode ≠ .none ∨ s.indexMode ≠ .none)
  /-- While a prefix is pending no maskable interrupt is taken (R170). -/
  held : s.inOp = true → s.blocked = true
  /-- A halted core stands between instructions (R341, R169). -/
  halt_idle : s.sig.halted = true → s.inOp = false

/-! ## Bus calls, as the statements write them -/

/-- One memory read at a tact count. -/
abbrev memR (a : Word) (v : Byte) (tacts : Nat) : BusCall := ⟨.memRead, a, v, tacts⟩

/-- One memory write. -/
abbrev memW (a : Word) (v : Byte) (tacts : Nat) : BusCall := ⟨.memWrite, a, v, tacts⟩

/-- One port read. -/
abbrev portR (a : Word) (v : Byte) (tacts : Nat) : BusCall := ⟨.portRead, a, v, tacts⟩

/-- One port write. -/
abbrev portW (a : Word) (v : Byte) (tacts : Nat) : BusCall := ⟨.portWrite, a, v, tacts⟩

/-- The tact constants are "as written in each rule" (R4): the premise of the statements that name a rule's tacts. -/
abbrev State.WrittenTacts (s : State) : Prop := s.cfg.tact = TactConstants.written

/-- The two reads of the word at an address, newest first, when `n` calls of the instruction have been made: the low byte is
read first, one access before (R6, R70). -/
abbrev readCallsAfter (s : State) (n : Nat) (a : Word) (tacts : Nat) : List BusCall :=
  [memR (a + 1#16) (s.byteAfter (n + 1) (a + 1#16)) (tacts + s.cfg.tact.access), memR a (s.byteAfter n a) tacts]

/-- The same as the next two calls. -/
abbrev readCalls (s : State) (a : Word) (tacts : Nat) : List BusCall := readCallsAfter s 0 a tacts

/-- The two writes of a word at an address, newest first (R7, R70). -/
abbrev writeCalls (s : State) (a v : Word) (tacts : Nat) : List BusCall :=
  [memW (a + 1#16) (highByte v) (tacts + s.cfg.tact.access), memW a (lowByte v) tacts]

/-- The two writes of a push, newest first (R11). -/
abbrev pushCalls (s : State) (v : Word) (tacts : Nat) : List BusCall :=
  [memW (s.sp - 2#16) (lowByte v) (tacts + s.cfg.tact.access), memW (s.sp - 1#16) (highByte v) tacts]

/-- The extra reads of a taken relative jump, newest first, when `n` calls of the instruction have been made: none with
gate-array contention, else five, one tact apart (R322). -/
def delayCalls (s : State) (n : Nat) (da : Word) (tacts : Nat) : List BusCall :=
  if s.cfg.useGateArrayContention then []
  else [memR da (s.byteAfter (n + 4) da) (tacts + 4), memR da (s.byteAfter (n + 3) da) (tacts + 3),
    memR da (s.byteAfter (n + 2) da) (tacts + 2), memR da (s.byteAfter (n + 1) da) (tacts + 1),
    memR da (s.byteAfter n da) tacts]

/-! ## What a store leaves in memory, read byte by byte

A write call stores where the Bus has RAM and nowhere else (R61, R67): under the default Bus, everywhere. Where a device
stands nothing is stored and nothing kept: what it answers to a call is given by the number of that call (`byteAfter`). -/

/-- One byte was written to `a`; every other byte of RAM or ROM reads as before. -/
def Stored (s t : State) (a : Word) (v : Byte) : Prop :=
  ∀ x, kindAt s.cfg.bus.windows x ≠ .device →
    t.byteAt x = if x = a ∧ s.cfg.bus.writable a = true then v else s.byteAt x

/-- Two bytes were written to two addresses; every other byte of RAM or ROM reads as before. -/
def StoredTwo (s t : State) (a b : Word) (v w : Byte) : Prop :=
  ∀ x, kindAt s.cfg.bus.windows x ≠ .device →
    t.byteAt x = if x = a ∧ s.cfg.bus.writable a = true then v
      else if x = b ∧ s.cfg.bus.writable b = true then w else s.byteAt x

/-- A word was written to `a`, the low byte there and the high byte above it (R70). -/
def StoredWord (s t : State) (a v : Word) : Prop := StoredTwo s t a (a + 1#16) (lowByte v) (highByte v)

/-- A word was pushed below the old `SP` (R11). -/
def Pushed (s t : State) (v : Word) : Prop := StoredTwo s t (s.sp - 1#16) (s.sp - 2#16) (highByte v) (lowByte v)

/-- The instruction is a relative jump and it is taken (R313, R314, R315). -/
def TakenRelativeJump (s : State) (i : Instr) : Prop :=
  i = .jr_e ∨ (∃ cc : RelCond, i = Instr.jrCc cc ∧ relHolds s.regs.f cc = true) ∨ (i = .djnz_e ∧ s.regs.b ≠ 1#8)

/-- The 85 bytes that have an index-specific entry, row by row of R100's table. -/
def indexOverrides : List Byte :=
  [0x09#8, 0x19#8, 0x29#8, 0x39#8, 0x21#8, 0x22#8, 0x2A#8, 0x23#8, 0x2B#8, 0x24#8, 0x25#8, 0x2C#8, 0x2D#8] ++
  [0x26#8, 0x2E#8, 0x34#8, 0x35#8, 0x36#8, 0x46#8, 0x4E#8, 0x56#8, 0x5E#8, 0x66#8, 0x6E#8, 0x7E#8] ++
  [0x70#8, 0x71#8, 0x72#8, 0x73#8, 0x74#8, 0x75#8, 0x77#8] ++
  [0x44#8, 0x45#8, 0x4C#8, 0x4D#8, 0x54#8, 0x55#8, 0x5C#8, 0x5D#8, 0x7C#8, 0x7D#8] ++
  [0x60#8, 0x61#8, 0x62#8, 0x63#8, 0x64#8, 0x65#8, 0x67#8, 0x68#8, 0x69#8, 0x6A#8, 0x6B#8, 0x6C#8, 0x6D#8, 0x6F#8] ++
  [0x84#8, 0x85#8, 0x8C#8, 0x8D#8, 0x94#8, 0x95#8, 0x9C#8, 0x9D#8, 0xA4#8, 0xA5#8, 0xAC#8, 0xAD#8, 0xB4#8, 0xB5#8] ++
  [0xBC#8, 0xBD#8, 0x86#8, 0x8E#8, 0x96#8, 0x9E#8, 0xA6#8, 0xAE#8, 0xB6#8, 0xBE#8] ++
  [0xE1#8, 0xE3#8, 0xE5#8, 0xE9#8, 0xF9#8]

/-- The core can take its next step (R520: no instruction can trap). -/
def CanStep (s : State) : Prop := ∃ t, step s = .next t

end Sys2Proof.Machine
end

