-- ==== Sys2Proof/Certificates/Slice0/Obligations.lean ====
section
/-! DEFINITION. The statements for the provers, from the numbered rules of spec/. Tact totals are written as the total of the
rule minus the fetches that have happened when the entry runs (R200, R360, R420, R450). The clauses about `log` write a
rule's bus calls in the model's own call log, with the tacts at each call (log 7). Tacts, and the
stamps of calls, are those of the rules: what a Bus with delays of its own adds comes when the cycle ends, which is the
model's choice (BusPrimitives, logs 5 and 16). `Stored`, `StoredWord` and `Pushed` go through the Bus: a write call to ROM or to a device stores nothing.
Where a statement names tacts its premise is `WrittenTacts`: R4 makes the tact constants a parameter, the totals of the rules
hold at the constants the rules write, and under any other constants a step differs in tacts and stamps only
(TactsAreNeverRead, log 20). `byteAfter n` is what the read after `n` more calls gives: a device answers each call by itself. -/

open Sys2Proof Sys2Proof.Machine

/-- For every state (at the tact constants the rules write), register r and register r': LD r,r' completes and changes
nothing but r, which takes the value of r' (4 tacts, all in the opcode fetch); LD r,n loads the byte at PC, moves
PC past it (7 tacts); LD r,(HL) loads the byte at the old HL (7 tacts). Tact totals are written as total minus the
4 tacts of the opcode fetch that R200 counts before the entry runs. Everything else is unchanged. For every state
(at the tact constants the rules write): LD (HL),r completes, stores r at HL (7 tacts); LD (HL),n reads n at PC,
stores it at HL, PC past n (10 tacts). The stored address is HL, every other byte of RAM or ROM reads as before,
and nothing else changes but tacts, the call log and (for n) PC. (R201, R202, R203, R204, R205) -/
def Obligations.EightBitLoadsAndStores : Prop :=
  (∀ (s : State) (r : Reg8), s.WrittenTacts →
    (∀ q : Reg8, exec (Instr.ldRegReg r q) s = .next { s with regs := s.regs.set r (s.regs.get q), tacts := s.tacts + (4 - 4) }) ∧
    exec (Instr.ldRegImm r) s = .next { s with
      regs := s.regs.set r (s.byteAt s.pc), pc := s.pc + 1#16, tacts := s.tacts + (7 - 4)
      log := memR s.pc (s.byteAt s.pc) s.tacts :: s.log } ∧
    exec (Instr.ldRegAtHl r) s = .next { s with
      regs := s.regs.set r (s.byteAt s.hl), tacts := s.tacts + (7 - 4)
      log := memR s.hl (s.byteAt s.hl) s.tacts :: s.log }) ∧
  (∀ s : State, s.WrittenTacts →
    (∀ r : Reg8, ∃ t, exec (Instr.ldAtHlReg r) s = .next t ∧ Stored s t s.hl (s.regs.get r) ∧
      { t with mem := s.mem } = { s with
        tacts := s.tacts + (7 - 4), log := memW s.hl (s.regs.get r) s.tacts :: s.log }) ∧
    (∃ t, exec .ld_at_hl_n s = .next t ∧ Stored s t s.hl (s.byteAt s.pc) ∧
      { t with mem := s.mem } = { s with
        pc := s.pc + 1#16, tacts := s.tacts + (10 - 4)
        log := memW s.hl (s.byteAt s.pc) (s.tacts + 3) :: memR s.pc (s.byteAt s.pc) s.tacts :: s.log }))

/-- For every state (at the tact constants the rules write): the three loads complete; A takes the byte at BC, DE or
the operand address nn; WZ becomes that address plus 1; 7, 7 and 13 tacts; nothing else changes. For every state
(at the tact constants the rules write): the three stores complete; A is stored at BC, DE or the operand address
nn; WZ becomes A over the low byte of that address plus 1; 7, 7 and 13 tacts; every other byte of RAM or ROM reads
as before and nothing else changes. (R206, R207, R208, R209, R210, R211) -/
def Obligations.AccumulatorIndirect : Prop :=
  (∀ s : State, s.WrittenTacts →
    exec .ld_a_at_bc s = .next { s with
      regs.a := s.byteAt s.bc, wz := s.bc + 1#16, tacts := s.tacts + (7 - 4)
      log := memR s.bc (s.byteAt s.bc) s.tacts :: s.log } ∧
    exec .ld_a_at_de s = .next { s with
      regs.a := s.byteAt s.de, wz := s.de + 1#16, tacts := s.tacts + (7 - 4)
      log := memR s.de (s.byteAt s.de) s.tacts :: s.log } ∧
    exec .ld_a_at_nn s = .next { s with
      regs.a := s.byteAfter 2 (s.wordAt s.pc), wz := s.wordAt s.pc + 1#16, pc := s.pc + 2#16, tacts := s.tacts + (13 - 4)
      log := memR (s.wordAt s.pc) (s.byteAfter 2 (s.wordAt s.pc)) (s.tacts + 6) :: (readCalls s s.pc s.tacts ++ s.log) }) ∧
  (∀ s : State, s.WrittenTacts →
    (∃ t, exec .ld_at_bc_a s = .next t ∧ Stored s t s.bc s.regs.a ∧
      { t with mem := s.mem } = { s with
        wz := pairOf s.regs.a (lowByte (s.bc + 1#16)), tacts := s.tacts + (7 - 4)
        log := memW s.bc s.regs.a s.tacts :: s.log }) ∧
    (∃ t, exec .ld_at_de_a s = .next t ∧ Stored s t s.de s.regs.a ∧
      { t with mem := s.mem } = { s with
        wz := pairOf s.regs.a (lowByte (s.de + 1#16)), tacts := s.tacts + (7 - 4)
        log := memW s.de s.regs.a s.tacts :: s.log }) ∧
    (∃ t, exec .ld_at_nn_a s = .next t ∧ Stored s t (s.wordAt s.pc) s.regs.a ∧
      { t with mem := s.mem } = { s with
        wz := pairOf s.regs.a (lowByte (s.wordAt s.pc + 1#16)), pc := s.pc + 2#16, tacts := s.tacts + (13 - 4)
        log := memW (s.wordAt s.pc) s.regs.a (s.tacts + 6) :: (readCalls s s.pc s.tacts ++ s.log) }))

/-- For every state (at the tact constants the rules write) and pair: LD rr,nn loads the little-endian operand (10
tacts); LD HL,(nn) (16) and LD rr,(nn) of the extended table (20, for all four pairs) load the little-endian word
at nn and set WZ to nn plus 1; LD SP,HL copies HL (6). All complete; nothing else changes. setPair is pinned by
PairsAreViewsOfHalves. For every state (at the tact constants the rules write): LD XY,nn loads the operand word (14
tacts); LD XY,(nn) loads the little-endian word at nn and sets WZ to nn plus 1 (20); LD SP,XY copies XY (10). HL
and everything else is unchanged. (R212, R213, R215, R458, R362, R364, R365) -/
def Obligations.SixteenBitLoads : Prop :=
  (∀ s : State, s.WrittenTacts →
    (∀ p : Pair,
      exec (Instr.ldPairImm p) s = .next { s.setPair p (s.wordAt s.pc) with
        pc := s.pc + 2#16, tacts := s.tacts + (10 - 4), log := readCalls s s.pc s.tacts ++ s.log } ∧
      exec (Instr.ldPairAtNn p) s = .next { s.setPair p (s.wordAfter 2 (s.wordAt s.pc)) with
        wz := s.wordAt s.pc + 1#16, pc := s.pc + 2#16, tacts := s.tacts + (20 - 8)
        log := readCallsAfter s 2 (s.wordAt s.pc) (s.tacts + 6) ++ (readCalls s s.pc s.tacts ++ s.log) }) ∧
    exec .ld_hl_at_nn s = .next { s.setHl (s.wordAfter 2 (s.wordAt s.pc)) with
      wz := s.wordAt s.pc + 1#16, pc := s.pc + 2#16, tacts := s.tacts + (16 - 4)
      log := readCallsAfter s 2 (s.wordAt s.pc) (s.tacts + 6) ++ (readCalls s s.pc s.tacts ++ s.log) } ∧
    exec .ld_sp_hl s = .next { s with sp := s.hl, tacts := s.tacts + (6 - 4) }) ∧
  (∀ (s : State) (x : XY), s.WrittenTacts →
    exec (Instr.ldXyImm x) s = .next { s.setXy x (s.wordAt s.pc) with
      pc := s.pc + 2#16, tacts := s.tacts + (14 - 8), log := readCalls s s.pc s.tacts ++ s.log } ∧
    exec (Instr.ldXyAtNn x) s = .next { s.setXy x (s.wordAfter 2 (s.wordAt s.pc)) with
      wz := s.wordAt s.pc + 1#16, pc := s.pc + 2#16, tacts := s.tacts + (20 - 8)
      log := readCallsAfter s 2 (s.wordAt s.pc) (s.tacts + 6) ++ (readCalls s s.pc s.tacts ++ s.log) } ∧
    exec (Instr.ldSpXy x) s = .next { s with sp := s.xy x, tacts := s.tacts + (10 - 8) })

/-- For every state (at the tact constants the rules write): the word stores complete; the low byte goes to nn and the
high byte to nn plus 1, modulo 65536, where nn is the operand word; every other byte of RAM or ROM reads as before;
WZ becomes nn plus 1; 16 tacts for LD (nn),HL and 20 for the extended and index forms; nothing else changes. (R214, R363, R457) -/
def Obligations.StoreWord : Prop :=
  ∀ s : State, s.WrittenTacts →
    (∃ t, exec .ld_at_nn_hl s = .next t ∧ StoredWord s t (s.wordAt s.pc) s.hl ∧
      { t with mem := s.mem } = { s with
        wz := s.wordAt s.pc + 1#16, pc := s.pc + 2#16, tacts := s.tacts + (16 - 4)
        log := writeCalls s (s.wordAt s.pc) s.hl (s.tacts + 6) ++ (readCalls s s.pc s.tacts ++ s.log) }) ∧
    (∀ p : Pair, ∃ t, exec (Instr.ldAtNnPair p) s = .next t ∧ StoredWord s t (s.wordAt s.pc) (s.pair p) ∧
      { t with mem := s.mem } = { s with
        wz := s.wordAt s.pc + 1#16, pc := s.pc + 2#16, tacts := s.tacts + (20 - 8)
        log := writeCalls s (s.wordAt s.pc) (s.pair p) (s.tacts + 6) ++ (readCalls s s.pc s.tacts ++ s.log) }) ∧
    (∀ x : XY, ∃ t, exec (Instr.ldAtNnXy x) s = .next t ∧ StoredWord s t (s.wordAt s.pc) (s.xy x) ∧
      { t with mem := s.mem } = { s with
        wz := s.wordAt s.pc + 1#16, pc := s.pc + 2#16, tacts := s.tacts + (20 - 8)
        log := writeCalls s (s.wordAt s.pc) (s.xy x) (s.tacts + 6) ++ (readCalls s s.pc s.tacts ++ s.log) })

/-- For every state (at the tact constants the rules write): PUSH completes, stores the pair's high byte at SP minus 1
and its low byte at SP minus 2, every other byte of RAM or ROM reads as before, SP falls by 2 (11 tacts, 15 with an
index prefix); POP completes, the pair takes the little-endian word at SP, SP rises by 2 (10 tacts, 14 with an
index prefix), POP AF loads all of F. Nothing else changes. (R216, R217, R366, R367) -/
def Obligations.PushAndPop : Prop :=
  ∀ s : State, s.WrittenTacts →
    (∀ p : QPair, ∃ t, exec (Instr.push p) s = .next t ∧ Pushed s t (s.qpair p) ∧
      { t with mem := s.mem } = { s with
        sp := s.sp - 2#16, tacts := s.tacts + (11 - 4), log := pushCalls s (s.qpair p) (s.tacts + 1) ++ s.log }) ∧
    (∀ x : XY, ∃ t, exec (Instr.pushXy x) s = .next t ∧ Pushed s t (s.xy x) ∧
      { t with mem := s.mem } = { s with
        sp := s.sp - 2#16, tacts := s.tacts + (15 - 8), log := pushCalls s (s.xy x) (s.tacts + 1) ++ s.log }) ∧
    (∀ p : QPair, exec (Instr.pop p) s = .next { s.setQPair p (s.wordAt s.sp) with
      sp := s.sp + 2#16, tacts := s.tacts + (10 - 4), log := readCalls s s.sp s.tacts ++ s.log }) ∧
    (∀ x : XY, exec (Instr.popXy x) s = .next { s.setXy x (s.wordAt s.sp) with
      sp := s.sp + 2#16, tacts := s.tacts + (14 - 8), log := readCalls s s.sp s.tacts ++ s.log })

/-- For every state: EX DE,HL swaps DE and HL; EX AF,AF' swaps AF and AF'; EXX swaps BC, DE, HL with BC', DE', HL' at
once. Each completes, adds no tacts beyond its fetch, makes no bus call and changes nothing else. For every state
(at the tact constants the rules write): the register takes the word on top of the stack, WZ takes it too, and the
old register value is stored there, high byte first in time, each byte at its own address; every other byte of RAM
or ROM reads as before; SP is unchanged; 19 tacts, 23 with an index prefix. (R218, R219, R220, R221, R368) -/
def Obligations.ExchangeInstructions : Prop :=
  (∀ s : State,
    exec .ex_de_hl s = .next { s with regs := { s.regs with d := s.regs.h, e := s.regs.l, h := s.regs.d, l := s.regs.e } } ∧
    exec .ex_af_af s = .next { s with
      regs := { s.regs with a := highByte s.afAlt, f := lowByte s.afAlt }, afAlt := pairOf s.regs.a s.regs.f } ∧
    exec .exx s = .next { s with
      regs := { s.regs with
        b := highByte s.bcAlt, c := lowByte s.bcAlt, d := highByte s.deAlt, e := lowByte s.deAlt
        h := highByte s.hlAlt, l := lowByte s.hlAlt }
      bcAlt := pairOf s.regs.b s.regs.c, deAlt := pairOf s.regs.d s.regs.e, hlAlt := pairOf s.regs.h s.regs.l }) ∧
  (∀ s : State, s.WrittenTacts →
    (∃ t, exec .ex_at_sp_hl s = .next t ∧ StoredWord s t s.sp s.hl ∧
      { t with mem := s.mem } = { s.setHl (s.wordAt s.sp) with
        wz := s.wordAt s.sp, tacts := s.tacts + (19 - 4)
        log := memW s.sp (lowByte s.hl) (s.tacts + 10) :: memW (s.sp + 1#16) (highByte s.hl) (s.tacts + 7) ::
          (readCalls s s.sp s.tacts ++ s.log) }) ∧
    (∀ x : XY, ∃ t, exec (Instr.exSpXy x) s = .next t ∧ StoredWord s t s.sp (s.xy x) ∧
      { t with mem := s.mem } = { s.setXy x (s.wordAt s.sp) with
        wz := s.wordAt s.sp, tacts := s.tacts + (23 - 8)
        log := memW s.sp (lowByte (s.xy x)) (s.tacts + 10) :: memW (s.sp + 1#16) (highByte (s.xy x)) (s.tacts + 7) ::
          (readCalls s s.sp s.tacts ++ s.log) }))

/-- For every state (at the tact constants the rules write), operation and operand form: the instruction completes; A
and F take ALU(op, v) of R140 on the operand v (pinned bit by bit by AddAndSubtractTables and AluEngine); 4, 7, 7
tacts for r, (HL), n; 19 for (XY+d), whose WZ becomes the effective address; 8 for the index halves. Nothing else
changes. (R260, R378, R381) -/
def Obligations.AluOnAccumulator : Prop :=
  ∀ (s : State) (op : AluOp), s.WrittenTacts →
    (∀ r : Reg8, exec (Instr.aluReg op r) s = .next (s.alu op (s.regs.get r))) ∧
    exec (Instr.aluAtHl op) s = .next { s.alu op (s.byteAt s.hl) with
      tacts := s.tacts + (7 - 4), log := memR s.hl (s.byteAt s.hl) s.tacts :: s.log } ∧
    exec (Instr.aluImm op) s = .next { s.alu op (s.byteAt s.pc) with
      pc := s.pc + 1#16, tacts := s.tacts + (7 - 4), log := memR s.pc (s.byteAt s.pc) s.tacts :: s.log } ∧
    (∀ x : XY, exec (Instr.aluXyd x op) s = .next { s.alu op (s.byteAfter 1 (s.effective x (s.byteAt s.pc))) with
      wz := s.effective x (s.byteAt s.pc), pc := s.pc + 1#16, tacts := s.tacts + (19 - 8)
      log := memR (s.effective x (s.byteAt s.pc)) (s.byteAfter 1 (s.effective x (s.byteAt s.pc))) (s.tacts + 8) ::
        memR s.pc (s.byteAt s.pc) s.tacts :: s.log }) ∧
    (∀ (x : XY) (h : Half), exec (Instr.aluHalf x op h) s = .next (s.alu op (s.half x h)))

/-- For every state: the register (or index half) moves by one modulo 256; F is INC_FLAGS[v] or DEC_FLAGS[v] with C
preserved; no bus call, no tacts beyond the fetches; nothing else changes, in particular not the other half. For
every state (at the tact constants the rules write): the pair or index register moves by one modulo 65536, no flag
changes, 6 tacts (10 with an index prefix), no bus call, nothing else changes. (R269, R271, R380, R282, R283, R371, R372) -/
def Obligations.IncrementDecrementRegisters : Prop :=
  (∀ s : State,
    (∀ r : Reg8,
      exec (Instr.incReg r) s = .next { s with
        regs := ({ s.regs with f := incFlags (s.regs.get r) ||| (s.regs.f &&& flagC) } : Regs).set r (s.regs.get r + 1#8) } ∧
      exec (Instr.decReg r) s = .next { s with
        regs := ({ s.regs with f := decFlags (s.regs.get r) ||| (s.regs.f &&& flagC) } : Regs).set r (s.regs.get r - 1#8) }) ∧
    (∀ (x : XY) (h : Half),
      exec (Instr.incHalf x h) s = .next { s.setHalf x h (s.half x h + 1#8) with
        regs.f := incFlags (s.half x h) ||| (s.regs.f &&& flagC) } ∧
      exec (Instr.decHalf x h) s = .next { s.setHalf x h (s.half x h - 1#8) with
        regs.f := decFlags (s.half x h) ||| (s.regs.f &&& flagC) })) ∧
  (∀ s : State, s.WrittenTacts →
    (∀ p : Pair,
      exec (Instr.incPair p) s = .next { s.setPair p (s.pair p + 1#16) with tacts := s.tacts + (6 - 4) } ∧
      exec (Instr.decPair p) s = .next { s.setPair p (s.pair p - 1#16) with tacts := s.tacts + (6 - 4) }) ∧
    (∀ x : XY,
      exec (Instr.incXy x) s = .next { s.setXy x (s.xy x + 1#16) with tacts := s.tacts + (10 - 8) } ∧
      exec (Instr.decXy x) s = .next { s.setXy x (s.xy x - 1#16) with tacts := s.tacts + (10 - 8) }))

/-- For every state (at the tact constants the rules write): the byte at HL (11 tacts) or at the effective address (23
tacts, WZ set to it, PC past d) moves by one modulo 256; F is INC_FLAGS or DEC_FLAGS of the old byte with C
preserved; every other byte of RAM or ROM reads as before; nothing else changes. (R270, R272, R376, R377) -/
def Obligations.IncDecMemory : Prop :=
  ∀ s : State, s.WrittenTacts →
    (∃ t, exec .inc_at_hl s = .next t ∧ Stored s t s.hl (s.byteAt s.hl + 1#8) ∧
      { t with mem := s.mem } = { s with
        regs.f := incFlags (s.byteAt s.hl) ||| (s.regs.f &&& flagC), tacts := s.tacts + (11 - 4)
        log := memW s.hl (s.byteAt s.hl + 1#8) (s.tacts + 4) :: memR s.hl (s.byteAt s.hl) s.tacts :: s.log }) ∧
    (∃ t, exec .dec_at_hl s = .next t ∧ Stored s t s.hl (s.byteAt s.hl - 1#8) ∧
      { t with mem := s.mem } = { s with
        regs.f := decFlags (s.byteAt s.hl) ||| (s.regs.f &&& flagC), tacts := s.tacts + (11 - 4)
        log := memW s.hl (s.byteAt s.hl - 1#8) (s.tacts + 4) :: memR s.hl (s.byteAt s.hl) s.tacts :: s.log }) ∧
    (∀ (x : XY) (ea : Word), ea = s.effective x (s.byteAt s.pc) →
      (∃ t, exec (Instr.incXyd x) s = .next t ∧ Stored s t ea (s.byteAfter 1 ea + 1#8) ∧
        { t with mem := s.mem } = { s with
          regs.f := incFlags (s.byteAfter 1 ea) ||| (s.regs.f &&& flagC), wz := ea, pc := s.pc + 1#16
          tacts := s.tacts + (23 - 8)
          log := memW ea (s.byteAfter 1 ea + 1#8) (s.tacts + 12) :: memR ea (s.byteAfter 1 ea) (s.tacts + 8) ::
            memR s.pc (s.byteAt s.pc) s.tacts :: s.log }) ∧
      (∃ t, exec (Instr.decXyd x) s = .next t ∧ Stored s t ea (s.byteAfter 1 ea - 1#8) ∧
        { t with mem := s.mem } = { s with
          regs.f := decFlags (s.byteAfter 1 ea) ||| (s.regs.f &&& flagC), wz := ea, pc := s.pc + 1#16
          tacts := s.tacts + (23 - 8)
          log := memW ea (s.byteAfter 1 ea - 1#8) (s.tacts + 12) :: memR ea (s.byteAfter 1 ea) (s.tacts + 8) ::
            memR s.pc (s.byteAt s.pc) s.tacts :: s.log }))

/-- For every state: DAA writes AF from the decimal-adjust table on A, F.H, F.N, F.C; CPL complements A and sets H and
N; SCF sets C; CCF inverts C and copies the old C to H; NEG is 0 minus A with the subtract flags. Bits 5 and 3 come
from A (new A for CPL). No tacts beyond the fetches; nothing else changes. For every state: A is rotated left or
right, circularly or through F.C; C is the bit shifted out; H and N are 0; S, Z and PV are preserved; bits 5 and 3
come from the new A; nothing else changes. (R273, R274, R275, R276, R459, R277, R278, R279, R280) -/
def Obligations.AccumulatorOps : Prop :=
  (∀ s : State,
    exec .daa s = .next { s with
      regs.a := daaResult s.regs.a (halfOf s.regs.f) (subtractOf s.regs.f) (carryOf s.regs.f)
      regs.f := daaFlags s.regs.a (halfOf s.regs.f) (subtractOf s.regs.f) (carryOf s.regs.f) } ∧
    exec .cpl s = .next { s with
      regs.a := s.regs.a ^^^ 0xFF#8
      regs.f := (s.regs.f &&& (flagS ||| flagZ ||| flagPV ||| flagC)) ||| flagH ||| flagN
        ||| ((s.regs.a ^^^ 0xFF#8) &&& (flag5 ||| flag3)) } ∧
    exec .scf s = .next { s with
      regs.f := (s.regs.f &&& (flagS ||| flagZ ||| flagPV)) ||| flagC ||| (s.regs.a &&& (flag5 ||| flag3)) } ∧
    exec .ccf s = .next { s with
      regs.f := (s.regs.f &&& (flagS ||| flagZ ||| flagPV)) ||| (if carryOf s.regs.f then flagH else 0#8)
        ||| (if carryOf s.regs.f then 0#8 else flagC) ||| (s.regs.a &&& (flag5 ||| flag3)) } ∧
    (∀ y : BitNo, exec (.neg y) s = .next { s with
      regs.a := subResult false 0#8 s.regs.a, regs.f := subFlags false 0#8 s.regs.a })) ∧
  (∀ s : State,
    (∀ a, a = (s.regs.a <<< 1) ||| (s.regs.a >>> 7) → exec .rlca s = .next { s with
      regs.a := a
      regs.f := (s.regs.f &&& (flagS ||| flagZ ||| flagPV)) ||| (a &&& (flag5 ||| flag3)) ||| (s.regs.a >>> 7) }) ∧
    (∀ a, a = (s.regs.a >>> 1) ||| (s.regs.a <<< 7) → exec .rrca s = .next { s with
      regs.a := a
      regs.f := (s.regs.f &&& (flagS ||| flagZ ||| flagPV)) ||| (a &&& (flag5 ||| flag3)) ||| (s.regs.a &&& 0x01#8) }) ∧
    (∀ a, a = (s.regs.a <<< 1) ||| (s.regs.f &&& flagC) → exec .rla s = .next { s with
      regs.a := a
      regs.f := (s.regs.f &&& (flagS ||| flagZ ||| flagPV)) ||| (a &&& (flag5 ||| flag3)) ||| (s.regs.a >>> 7) }) ∧
    (∀ a, a = (s.regs.a >>> 1) ||| (s.regs.f <<< 7) → exec .rra s = .next { s with
      regs.a := a
      regs.f := (s.regs.f &&& (flagS ||| flagZ ||| flagPV)) ||| (a &&& (flag5 ||| flag3)) ||| (s.regs.a &&& 0x01#8) }))

/-- For every state (at the tact constants the rules write) and pair: HL (or XY) takes the 16-bit sum; H is the carry
out of bit 11, C out of bit 15, N is 0, bits 5 and 3 come from the high byte of the result, S, Z and PV are
preserved; WZ becomes the old destination plus 1; 11 tacts, 15 with an index prefix, no bus call; pair code 2 of
the index form is XY itself; nothing else changes. For every state (at the tact constants the rules write) and
pair: HL takes the 16-bit difference or sum with F.C; all eight flags are those of SBC16 and ADC16 (pinned by
SixteenBitCarryTables); WZ becomes the old HL plus 1; 15 tacts, no bus call; nothing else changes. (R135, R281, R370, R455, R456) -/
def Obligations.SixteenBitAddAndSubtract : Prop :=
  ((∀ (f : Byte) (a b : Word), add16Flags f a b =
    (f &&& (flagS ||| flagZ ||| flagPV)) ||| (if 0x0FFF < a.toNat % 4096 + b.toNat % 4096 then flagH else 0#8)
      ||| (if 0xFFFF < a.toNat + b.toNat then flagC else 0#8) ||| (highByte (a + b) &&& (flag5 ||| flag3))) ∧
  ∀ (s : State) (p : Pair), s.WrittenTacts →
    exec (Instr.addHl p) s = .next { ({ s with regs.f := add16Flags s.regs.f s.hl (s.pair p) } : State).setHl (s.hl + s.pair p) with
      wz := s.hl + 1#16, tacts := s.tacts + (11 - 4) } ∧
    (∀ x : XY, exec (Instr.addXy x p) s = .next { s.setXy x (s.xy x + s.pairXy x p) with
      regs.f := add16Flags s.regs.f (s.xy x) (s.pairXy x p), wz := s.xy x + 1#16, tacts := s.tacts + (15 - 8) })) ∧
  (∀ (s : State) (p : Pair), s.WrittenTacts →
    exec (Instr.sbcHl p) s = .next { ({ s with regs.f := sbc16Flags s.hl (s.pair p) (carryOf s.regs.f) } : State).setHl
        (sbc16Result s.hl (s.pair p) (carryOf s.regs.f)) with
      wz := s.hl + 1#16, tacts := s.tacts + (15 - 8) } ∧
    exec (Instr.adcHl p) s = .next { ({ s with regs.f := adc16Flags s.hl (s.pair p) (carryOf s.regs.f) } : State).setHl
        (adc16Result s.hl (s.pair p) (carryOf s.regs.f)) with
      wz := s.hl + 1#16, tacts := s.tacts + (15 - 8) })

/-- For every state (at the tact constants the rules write): JP nn and JP cc,nn read the two target bytes and set WZ to
the target in both cases (10 tacts); PC becomes the target, or stays past the bytes when the condition is false; JP
(HL) and JP (XY) copy the register to PC with no memory access and WZ unchanged. Nothing else changes. (R311, R312, R316, R369) -/
def Obligations.AbsoluteJumps : Prop :=
  ∀ s : State, s.WrittenTacts →
    exec .jp_nn s = .next { s with
      pc := s.wordAt s.pc, wz := s.wordAt s.pc, tacts := s.tacts + (10 - 4), log := readCalls s s.pc s.tacts ++ s.log } ∧
    (∀ cc : Cond, exec (Instr.jpCc cc) s = .next { s with
      pc := if condHolds s.regs.f cc then s.wordAt s.pc else s.pc + 2#16
      wz := s.wordAt s.pc, tacts := s.tacts + (10 - 4), log := readCalls s s.pc s.tacts ++ s.log }) ∧
    exec .jp_at_hl s = .next { s with pc := s.hl } ∧
    (∀ x : XY, exec (Instr.jpXy x) s = .next { s with pc := s.xy x })

/-- For every state (at the tact constants the rules write): the displacement byte is read and PC moves past it; when
the jump is taken 5 more tacts pass (with five more reads of the displacement's address when useGateArrayContention
is false) and PC and WZ become PC plus the sign-extended displacement; when not taken WZ keeps its value. JR 12
tacts, JR cc 12 or 7, DJNZ 13 or 8 and B falls by one modulo 256 with no flag changed. Nothing else changes. (R313, R314, R315, R322) -/
def Obligations.RelativeJumps : Prop :=
  ∀ (s : State) (e : Byte) (target : Word), s.WrittenTacts → e = s.byteAt s.pc → target = s.pc + 1#16 + signExtend16 e →
    exec .jr_e s = .next { s with
      pc := target, wz := target, tacts := s.tacts + (12 - 4)
      log := delayCalls s 1 s.pc (s.tacts + 3) ++ (memR s.pc e s.tacts :: s.log) } ∧
    (∀ cc : RelCond,
      (relHolds s.regs.f cc = true → exec (Instr.jrCc cc) s = .next { s with
        pc := target, wz := target, tacts := s.tacts + (12 - 4)
        log := delayCalls s 1 s.pc (s.tacts + 3) ++ (memR s.pc e s.tacts :: s.log) }) ∧
      (relHolds s.regs.f cc = false → exec (Instr.jrCc cc) s = .next { s with
        pc := s.pc + 1#16, tacts := s.tacts + (7 - 4), log := memR s.pc e s.tacts :: s.log })) ∧
    (s.regs.b ≠ 1#8 → exec .djnz_e s = .next { s with
      regs.b := s.regs.b - 1#8, pc := target, wz := target, tacts := s.tacts + (13 - 4)
      log := delayCalls s 1 s.pc (s.tacts + 4) ++ (memR s.pc e (s.tacts + 1) :: s.log) }) ∧
    (s.regs.b = 1#8 → exec .djnz_e s = .next { s with
      regs.b := 0#8, pc := s.pc + 1#16, tacts := s.tacts + (8 - 4), log := memR s.pc e (s.tacts + 1) :: s.log })

/-- For every state (at the tact constants the rules write): CALL nn pushes the address after its operand bytes and
jumps to nn (17 tacts); CALL cc,nn does so when the condition holds and otherwise only reads the bytes (10 tacts),
WZ is nn in both cases; RST p pushes PC and jumps to y times 8, WZ the same (11 tacts). The pushed bytes are at SP
minus 1 and SP minus 2, every other byte of RAM or ROM reads as before; nothing else changes. (R317, R318, R321) -/
def Obligations.CallsAndRestarts : Prop :=
  ∀ s : State, s.WrittenTacts →
    (∃ t, exec .call_nn s = .next t ∧ Pushed s t (s.pc + 2#16) ∧
      { t with mem := s.mem } = { s with
        pc := s.wordAt s.pc, wz := s.wordAt s.pc, sp := s.sp - 2#16, tacts := s.tacts + (17 - 4)
        log := pushCalls s (s.pc + 2#16) (s.tacts + 7) ++ (readCalls s s.pc s.tacts ++ s.log) }) ∧
    (∀ cc : Cond,
      (condHolds s.regs.f cc = true → ∃ t, exec (Instr.callCc cc) s = .next t ∧ Pushed s t (s.pc + 2#16) ∧
        { t with mem := s.mem } = { s with
          pc := s.wordAt s.pc, wz := s.wordAt s.pc, sp := s.sp - 2#16, tacts := s.tacts + (17 - 4)
          log := pushCalls s (s.pc + 2#16) (s.tacts + 7) ++ (readCalls s s.pc s.tacts ++ s.log) }) ∧
      (condHolds s.regs.f cc = false → exec (Instr.callCc cc) s = .next { s with
        pc := s.pc + 2#16, wz := s.wordAt s.pc, tacts := s.tacts + (10 - 4)
        log := readCalls s s.pc s.tacts ++ s.log })) ∧
    (∀ y : BitNo, ∃ t, exec (Instr.rst y) s = .next t ∧ Pushed s t s.pc ∧
      { t with mem := s.mem } = { s with
        pc := BitVec.ofNat 16 (y.val * 8), wz := BitVec.ofNat 16 (y.val * 8), sp := s.sp - 2#16
        tacts := s.tacts + (11 - 4), log := pushCalls s s.pc (s.tacts + 1) ++ s.log })

/-- For every state (at the tact constants the rules write): RET and a taken RET cc set PC and WZ to the word at SP and
raise SP by 2 (10 and 11 tacts); a RET cc not taken costs 5 tacts and changes nothing else; RETN (every encoding)
and RETI do the same as RET and copy IFF2 into IFF1 (14 tacts). Nothing else changes. (R319, R320, R460, R461) -/
def Obligations.Returns : Prop :=
  ∀ s : State, s.WrittenTacts →
    exec .ret s = .next { s with
      pc := s.wordAt s.sp, wz := s.wordAt s.sp, sp := s.sp + 2#16, tacts := s.tacts + (10 - 4)
      log := readCalls s s.sp s.tacts ++ s.log } ∧
    (∀ cc : Cond,
      (condHolds s.regs.f cc = true → exec (Instr.retCc cc) s = .next { s with
        pc := s.wordAt s.sp, wz := s.wordAt s.sp, sp := s.sp + 2#16, tacts := s.tacts + (11 - 4)
        log := readCalls s s.sp (s.tacts + 1) ++ s.log }) ∧
      (condHolds s.regs.f cc = false → exec (Instr.retCc cc) s = .next { s with tacts := s.tacts + (5 - 4) })) ∧
    (∀ y : BitNo, exec (.retn y) s = .next { s with
      pc := s.wordAt s.sp, wz := s.wordAt s.sp, sp := s.sp + 2#16, iff1 := s.iff2, tacts := s.tacts + (14 - 8)
      log := readCalls s s.sp s.tacts ++ s.log }) ∧
    exec .reti s = .next { s with
      pc := s.wordAt s.sp, wz := s.wordAt s.sp, sp := s.sp + 2#16, iff1 := s.iff2, tacts := s.tacts + (14 - 8)
      log := readCalls s s.sp s.tacts ++ s.log }

/-- For every state: NOP and every NOP (ED) change nothing; HALT sets sig.Halted and moves PC back to its own opcode;
DI clears both flip-flops; EI sets both and blocked; IM m, in every encoding, sets the mode. No tacts beyond the
fetches, no bus call, nothing else changes. For every state: CB sets the bit latch and keeps the index latch; DD
and FD set the index latch (the later one wins); ED sets the extended latch and drops the index latch; each sets
blocked and inOp. Nothing else happens besides the fetch that came before. After CB or ED no byte is a prefix: ED
ED is NOP (ED) and CB DD is SET 3,L, as R163 says; what R163 says of CB CB this statement leaves out (log 18). (R340, R341, R342, R343, R462, R485, R162, R163) -/
def Obligations.ControlAndPrefixBytes : Prop :=
  (∀ s : State,
    exec .nop s = .next s ∧
    (∀ op : Byte, exec (.nop_ed op) s = .next s) ∧
    exec .halt s = .next { s with sig.halted := true, pc := s.pc - 1#16 } ∧
    exec .di s = .next { s with iff1 := false, iff2 := false } ∧
    exec .ei s = .next { s with iff1 := true, iff2 := true, blocked := true } ∧
    (∀ (m : IntMode) (y : BitNo), exec (Instr.im m y) s = .next { s with im := m })) ∧
  ((∀ (pm : PrefixMode) (im : IndexMode) (op : Byte), pm ≠ .none →
    decodeInstr pm im op ∉ [Instr.prefix_cb, .prefix_dd, .prefix_ed, .prefix_fd]) ∧
  decodeInstr .extended .none 0xED#8 = .nop_ed 0xED#8 ∧ decodeInstr .bit .none 0xDD#8 = .set_3_l ∧
  ∀ s : State,
    exec .prefix_cb s = .next { s with prefixMode := .bit, blocked := true, inOp := true } ∧
    exec .prefix_dd s = .next { s with indexMode := .ix, blocked := true, inOp := true } ∧
    exec .prefix_fd s = .next { s with indexMode := .iy, blocked := true, inOp := true } ∧
    exec .prefix_ed s = .next { s with prefixMode := .extended, indexMode := .none, blocked := true, inOp := true })

/-- For every state (at the tact constants the rules write): IN A,(n) reads the port at A over n, loads the answer into
A and sets WZ to that address plus 1; OUT (n),A writes A to the port at A over n and sets WZ to A over n plus 1.
Tacts are 7 plus the constant port delay (a platform's own delay is charged when the cycle ends, the model's
placement: BusPrimitives, logs 5 and 16); no flag changes; nothing else changes. The answer is whatever the
environment gives; that it comes from portInputs, or from the free value that portReads counts, is the model's
choice (log 4). For every state: the inputs read the port at BC, set S, Z, 5, 3, PV from the value with H and N 0
and C preserved, and load it into r (IN r,(C)) or nowhere (IN (C)); the outputs write r or 0 to the port at BC and
change no flag; WZ becomes the old BC plus 1; tacts are 8 plus the constant port delay; nothing else changes. The
answer is the environment's, through portInputs and portReads, the model's choice (log 4). (R344, R345, R451, R452, R453, R454) -/
def Obligations.PortInputAndOutput : Prop :=
  (∀ (s : State) (n : Byte) (port : Word), s.WrittenTacts → n = s.byteAt s.pc → port = pairOf s.regs.a n →
    exec .in_a_at_n s = .next { s with
      regs.a := s.portAnswer port, wz := port + 1#16, pc := s.pc + 1#16
      tacts := s.tacts + (7 - 4) + s.portDelay
      portInputs := s.portInputs.tail, portReads := s.portReads + 1
      log := portR port (s.portAnswer port) (s.tacts + 3) :: memR s.pc n s.tacts :: s.log } ∧
    exec .out_at_n_a s = .next { s with
      wz := pairOf s.regs.a (n + 1#8), pc := s.pc + 1#16
      tacts := s.tacts + (7 - 4) + s.portDelay
      log := portW port s.regs.a (s.tacts + 3) :: memR s.pc n s.tacts :: s.log }) ∧
  (∀ s : State,
    (∀ (v : Byte) (t : State), v = s.portAnswer s.bc → t = { s with
        regs.f := logicFlags v ||| (s.regs.f &&& flagC), wz := s.bc + 1#16, tacts := s.tacts + (8 - 8) + s.portDelay
        portInputs := s.portInputs.tail, portReads := s.portReads + 1, log := portR s.bc v s.tacts :: s.log } →
      exec .in_at_c s = .next t ∧ (∀ r : Reg8, exec (Instr.inReg r) s = .next { t with regs := t.regs.set r v })) ∧
    (∀ r : Reg8, exec (Instr.outReg r) s = .next { s with
      wz := s.bc + 1#16, tacts := s.tacts + (8 - 8) + s.portDelay
      log := portW s.bc (s.regs.get r) s.tacts :: s.log }) ∧
    exec .out_at_c_0 s = .next { s with
      wz := s.bc + 1#16, tacts := s.tacts + (8 - 8) + s.portDelay, log := portW s.bc 0x00#8 s.tacts :: s.log })

/-- For every state (at the tact constants the rules write): the displacement byte at PC is added, sign extended, to XY
modulo 65536 and WZ takes the sum ea; LD r,(XY+d) loads the byte at ea into the real register; LD (XY+d),r stores
the real register at ea; LD (XY+d),n reads n after d and stores it at ea; 19 tacts each; every byte of RAM or ROM
but the stored one reads as before; XY is unchanged, and so is everything else. (R361, R373, R374, R375) -/
def Obligations.IndexedMemoryMoves : Prop :=
  ∀ (s : State) (x : XY) (ea : Word), s.WrittenTacts → ea = s.xy x + (s.byteAt s.pc).signExtend 16 →
    (∀ r : Reg8, exec (Instr.ldRegXyd x r) s = .next { s with
      regs := s.regs.set r (s.byteAfter 1 ea), wz := ea, pc := s.pc + 1#16, tacts := s.tacts + (19 - 8)
      log := memR ea (s.byteAfter 1 ea) (s.tacts + 8) :: memR s.pc (s.byteAt s.pc) s.tacts :: s.log }) ∧
    (∀ r : Reg8, ∃ t, exec (Instr.ldXydReg x r) s = .next t ∧ Stored s t ea (s.regs.get r) ∧
      { t with mem := s.mem } = { s with
        wz := ea, pc := s.pc + 1#16, tacts := s.tacts + (19 - 8)
        log := memW ea (s.regs.get r) (s.tacts + 8) :: memR s.pc (s.byteAt s.pc) s.tacts :: s.log }) ∧
    (∃ t, exec (Instr.ldXydImm x) s = .next t ∧ Stored s t ea (s.byteAfter 1 (s.pc + 1#16)) ∧
      { t with mem := s.mem } = { s with
        wz := ea, pc := s.pc + 2#16, tacts := s.tacts + (19 - 8)
        log := memW ea (s.byteAfter 1 (s.pc + 1#16)) (s.tacts + 8) :: (readCalls s s.pc s.tacts ++ s.log) })

/-- For every state (at the tact constants the rules write): LD XYH/XYL,n loads the operand byte (11 tacts); LD
r,XYH/XYL, LD XYH/XYL,r and the loads between the halves copy one byte (8 tacts). H, L and the other half are
unchanged, and so is everything else. (R379) -/
def Obligations.IndexHalfLoads : Prop :=
  ∀ (s : State) (x : XY) (h : Half), s.WrittenTacts →
    exec (Instr.ldHalfImm x h) s = .next { s.setHalf x h (s.byteAt s.pc) with
      pc := s.pc + 1#16, tacts := s.tacts + (11 - 8), log := memR s.pc (s.byteAt s.pc) s.tacts :: s.log } ∧
    (∀ r : PlainReg,
      exec (Instr.ldRegHalf x r h) s = .next { s with regs := s.regs.set (plain r) (s.half x h) } ∧
      exec (Instr.ldHalfReg x h r) s = .next (s.setHalf x h (s.regs.get (plain r)))) ∧
    (∀ k : Half, exec (Instr.ldHalfHalf x h k) s = .next (s.setHalf x h (s.half x k)))

/-- For every state, kind and register: the register takes the rotated or shifted value, F takes LOGIC_FLAGS of it with
C the bit shifted out (the values are pinned by RotateTable); RES and SET clear and set one bit and change no flag.
8 tacts, all in the fetches; WZ and everything else unchanged. (R420, R421, R431, R432) -/
def Obligations.RotateAndShiftRegister : Prop :=
  ∀ (s : State) (r : Reg8),
    (∀ k : RotOp, exec (Instr.rotReg k r) s = .next { s with
      regs := ({ s.regs with f := rotFlags k (carryOf s.regs.f) (s.regs.get r) } : Regs).set r
        (rotResult k (carryOf s.regs.f) (s.regs.get r)) }) ∧
    (∀ b : BitNo,
      exec (Instr.resReg b r) s = .next { s with regs := s.regs.set r (s.regs.get r &&& ~~~(1#8 <<< b.val)) } ∧
      exec (Instr.setReg b r) s = .next { s with regs := s.regs.set r (s.regs.get r ||| (1#8 <<< b.val)) })

/-- For every state (at the tact constants the rules write): the byte at HL (15 tacts, WZ unchanged) or at the
effective address of the displacement this cycle has read (23 tacts, WZ set to it) is replaced by its rotate or
shift, F takes the flags of R421, the copy forms also load the result into the real register; every other byte of
RAM or ROM reads as before; nothing else changes. The displacement is in the model's own field disp (log 8). (R421, R433) -/
def Obligations.RotateAndShiftMemory : Prop :=
  ∀ (s : State) (k : RotOp) (c : Bool), s.WrittenTacts → c = carryOf s.regs.f →
    (∀ v, v = s.byteAt s.hl → ∃ t, exec (Instr.rotAtHl k) s = .next t ∧ Stored s t s.hl (rotResult k c v) ∧
      { t with mem := s.mem } = { s with
        regs.f := rotFlags k c v, tacts := s.tacts + (15 - 8)
        log := memW s.hl (rotResult k c v) (s.tacts + 4) :: memR s.hl v s.tacts :: s.log }) ∧
    (∀ (x : XY) (ea : Word) (v : Byte), ea = s.xy x + s.disp.signExtend 16 → v = s.byteAt ea →
      (∃ t, exec (Instr.rotXyd x k) s = .next t ∧ Stored s t ea (rotResult k c v) ∧
        { t with mem := s.mem } = { s with
          regs.f := rotFlags k c v, wz := ea, tacts := s.tacts + (23 - 16)
          log := memW ea (rotResult k c v) (s.tacts + 4) :: memR ea v s.tacts :: s.log }) ∧
      (∀ r : Reg8, ∃ t, exec (Instr.rotXydCopy x k r) s = .next t ∧ Stored s t ea (rotResult k c v) ∧
        { t with mem := s.mem } = { s with
          regs := ({ s.regs with f := rotFlags k c v } : Regs).set r (rotResult k c v), wz := ea
          tacts := s.tacts + (23 - 16)
          log := memW ea (rotResult k c v) (s.tacts + 4) :: memR ea v s.tacts :: s.log }))

/-- For every state whose tact constants are those written in the rules (R4), and every bit: BIT writes no operand; C
is preserved, H is 1, N is 0, Z and PV are set when the bit is clear, S when bit 7 is tested and set; bits 5 and 3
come from the register, or from the high byte of WZ for (HL), or from the high byte of the effective address, which
WZ has just taken. 8, 12 and 20 tacts; nothing else changes; all eight encodings of the indexed form behave alike.
The displacement of the indexed form is in the model's own field disp (log 8). (R429, R430, R434) -/
def Obligations.BitTests : Prop :=
  (∀ (f : Byte) (b : BitNo) (v src : Byte), bitFlags f b v src =
    (f &&& flagC) ||| flagH ||| (if v.getLsbD b.val then 0#8 else flagZ ||| flagPV)
      ||| (if b = .b7 ∧ v.getLsbD 7 = true then flagS else 0#8) ||| (src &&& (flag5 ||| flag3))) ∧
  ∀ (s : State) (b : BitNo), s.WrittenTacts →
    (∀ r : Reg8, exec (Instr.bitReg b r) s = .next { s with
      regs.f := bitFlags s.regs.f b (s.regs.get r) (s.regs.get r) }) ∧
    exec (Instr.bitAtHl b) s = .next { s with
      regs.f := bitFlags s.regs.f b (s.byteAt s.hl) (highByte s.wz), tacts := s.tacts + (12 - 8)
      log := memR s.hl (s.byteAt s.hl) s.tacts :: s.log } ∧
    (∀ (x : XY) (z : BitNo) (ea : Word), ea = s.xy x + s.disp.signExtend 16 →
      exec (Instr.bitXyd x b z) s = .next { s with
        regs.f := bitFlags s.regs.f b (s.byteAt ea) (highByte ea), wz := ea, tacts := s.tacts + (20 - 16)
        log := memR ea (s.byteAt ea) s.tacts :: s.log })

/-- For every state (at the tact constants the rules write) and bit: the byte at HL (15 tacts) or at the effective
address (23 tacts, WZ set to it) has one bit cleared or set, the copy forms also load the result into the real
register; no flag changes; every other byte of RAM or ROM reads as before; nothing else changes. The displacement
of the indexed forms is in the model's own field disp (log 8). (R431, R432, R433) -/
def Obligations.ResetAndSetMemoryBit : Prop :=
  ∀ (s : State) (b : BitNo), s.WrittenTacts →
    (∃ t, exec (Instr.resAtHl b) s = .next t ∧ Stored s t s.hl (resBit b (s.byteAt s.hl)) ∧
      { t with mem := s.mem } = { s with
        tacts := s.tacts + (15 - 8)
        log := memW s.hl (resBit b (s.byteAt s.hl)) (s.tacts + 4) :: memR s.hl (s.byteAt s.hl) s.tacts :: s.log }) ∧
    (∃ t, exec (Instr.setAtHl b) s = .next t ∧ Stored s t s.hl (setBit b (s.byteAt s.hl)) ∧
      { t with mem := s.mem } = { s with
        tacts := s.tacts + (15 - 8)
        log := memW s.hl (setBit b (s.byteAt s.hl)) (s.tacts + 4) :: memR s.hl (s.byteAt s.hl) s.tacts :: s.log }) ∧
    (∀ (x : XY) (ea : Word) (v : Byte), ea = s.xy x + s.disp.signExtend 16 → v = s.byteAt ea →
      (∃ t, exec (Instr.resXyd x b) s = .next t ∧ Stored s t ea (resBit b v) ∧
        { t with mem := s.mem } = { s with
          wz := ea, tacts := s.tacts + (23 - 16)
          log := memW ea (resBit b v) (s.tacts + 4) :: memR ea v s.tacts :: s.log }) ∧
      (∃ t, exec (Instr.setXyd x b) s = .next t ∧ Stored s t ea (setBit b v) ∧
        { t with mem := s.mem } = { s with
          wz := ea, tacts := s.tacts + (23 - 16)
          log := memW ea (setBit b v) (s.tacts + 4) :: memR ea v s.tacts :: s.log }) ∧
      (∀ r : Reg8, ∃ t, exec (Instr.resXydCopy x b r) s = .next t ∧ Stored s t ea (resBit b v) ∧
        { t with mem := s.mem } = { s with
          regs := s.regs.set r (resBit b v), wz := ea, tacts := s.tacts + (23 - 16)
          log := memW ea (resBit b v) (s.tacts + 4) :: memR ea v s.tacts :: s.log }) ∧
      (∀ r : Reg8, ∃ t, exec (Instr.setXydCopy x b r) s = .next t ∧ Stored s t ea (setBit b v) ∧
        { t with mem := s.mem } = { s with
          regs := s.regs.set r (setBit b v), wz := ea, tacts := s.tacts + (23 - 16)
          log := memW ea (setBit b v) (s.tacts + 4) :: memR ea v s.tacts :: s.log }))

/-- For every state (at the tact constants the rules write): LD I,A and LD R,A copy A (all eight bits); LD A,I and LD
A,R copy I or R to A and set S, Z, 5, 3 from it, PV from IFF2, H and N to 0, C preserved; 9 tacts; nothing else
changes. (R463, R464, R465, R466) -/
def Obligations.InterruptAndRefreshRegisters : Prop :=
  ∀ s : State, s.WrittenTacts →
    exec .ld_i_a s = .next { s with iReg := s.regs.a, tacts := s.tacts + (9 - 8) } ∧
    exec .ld_r_a s = .next { s with rReg := s.regs.a, tacts := s.tacts + (9 - 8) } ∧
    exec .ld_a_i s = .next { s with
      regs.a := s.iReg, regs.f := sz53 s.iReg ||| (s.regs.f &&& flagC) ||| (if s.iff2 then flagPV else 0#8)
      tacts := s.tacts + (9 - 8) } ∧
    exec .ld_a_r s = .next { s with
      regs.a := s.rReg, regs.f := sz53 s.rReg ||| (s.regs.f &&& flagC) ||| (if s.iff2 then flagPV else 0#8)
      tacts := s.tacts + (9 - 8) }

/-- For every state (at the tact constants the rules write): RRD moves A's low nibble to the byte's high nibble, the
high nibble to the low one, and the old low nibble to A; RLD moves them the other way; A's high nibble stays; S, Z,
5, 3, PV come from the new A, H and N are 0, C is preserved; WZ becomes HL plus 1; 18 tacts; every byte of RAM or
ROM but the one at HL reads as before; nothing else changes. (R467, R468) -/
def Obligations.NibbleRotates : Prop :=
  ∀ (s : State) (m a : Byte), s.WrittenTacts → m = s.byteAt s.hl → a = s.regs.a →
    (∀ w a' : Byte, w.toNat = 16 * (a.toNat % 16) + m.toNat / 16 → a'.toNat = 16 * (a.toNat / 16) + m.toNat % 16 →
      ∃ t, exec .rrd s = .next t ∧ Stored s t s.hl w ∧
        { t with mem := s.mem } = { s with
          regs.a := a', regs.f := logicFlags a' ||| (s.regs.f &&& flagC), wz := s.hl + 1#16, tacts := s.tacts + (18 - 8)
          log := memW s.hl w (s.tacts + 7) :: memR s.hl m s.tacts :: s.log }) ∧
    (∀ w a' : Byte, w.toNat = 16 * (m.toNat % 16) + a.toNat % 16 → a'.toNat = 16 * (a.toNat / 16) + m.toNat / 16 →
      ∃ t, exec .rld s = .next t ∧ Stored s t s.hl w ∧
        { t with mem := s.mem } = { s with
          regs.a := a', regs.f := logicFlags a' ||| (s.regs.f &&& flagC), wz := s.hl + 1#16, tacts := s.tacts + (18 - 8)
          log := memW s.hl w (s.tacts + 7) :: memR s.hl m s.tacts :: s.log })

/-- For every state (at the tact constants the rules write): one byte goes from HL to DE, HL and DE move by +1 (LDI,
LDIR) or -1 (LDD, LDDR), BC falls by 1; F as R469; 16 tacts. The repeating forms, when the new BC is not 0, add 5
tacts, move PC back by 2 and set WZ to the new PC plus 1. Every byte of RAM or ROM but the one at the old DE reads
as before; nothing else changes. (R469, R470, R471, R472) -/
def Obligations.BlockTransfers : Prop :=
  ∀ (s : State) (dlt bc : Word) (v : Byte), s.WrittenTacts → v = s.byteAt s.hl → bc = s.bc - 1#16 →
    ∀ (once rep : Instr), (dlt = 1#16 ∧ once = .ldi ∧ rep = .ldir ∨ dlt = 0xFFFF#16 ∧ once = .ldd ∧ rep = .lddr) →
    (∃ t, exec once s = .next t ∧ Stored s t s.de v ∧
      { t with mem := s.mem } = { ((s.setHl (s.hl + dlt)).setDe (s.de + dlt)).setBc bc with
        regs.f := (s.regs.f &&& (flagS ||| flagZ ||| flagC)) ||| ((v + s.regs.a) &&& flag3)
          ||| (if (v + s.regs.a).getLsbD 1 then flag5 else 0#8) ||| (if bc = 0#16 then 0#8 else flagPV)
        tacts := s.tacts + (16 - 8), log := memW s.de v (s.tacts + 3) :: memR s.hl v s.tacts :: s.log } ∧
      exec rep s = .next (if bc = 0#16 then t else
        { t with tacts := t.tacts + (21 - 16), pc := s.pc - 2#16, wz := s.pc - 2#16 + 1#16 }))

/-- For every state (at the tact constants the rules write): A is compared with the byte at HL, A unchanged; HL and WZ
move by +1 or -1, BC falls by 1; F as R473; 16 tacts. The repeating forms, when the new BC is not 0 and the bytes
differ, add 5 tacts, move PC back by 2 and set WZ to the new PC plus 1. Memory and everything else is unchanged. (R473, R474, R475, R476) -/
def Obligations.BlockCompares : Prop :=
  ∀ (s : State) (dlt bc : Word) (v r : Byte) (hf : Bool), s.WrittenTacts → v = s.byteAt s.hl → bc = s.bc - 1#16 → r = s.regs.a - v →
    hf = decide (s.regs.a.toNat % 16 < v.toNat % 16) →
    ∀ (once rep : Instr), (dlt = 1#16 ∧ once = .cpi ∧ rep = .cpir ∨ dlt = 0xFFFF#16 ∧ once = .cpd ∧ rep = .cpdr) →
    ∃ t, exec once s = .next t ∧
      t = { (s.setHl (s.hl + dlt)).setBc bc with
        regs.f := (s.regs.f &&& flagC) ||| flagN ||| (r &&& flagS) ||| (if r = 0#8 then flagZ else 0#8)
          ||| (if hf then flagH else 0#8) ||| ((r - (if hf then 1#8 else 0#8)) &&& flag3)
          ||| (if (r - (if hf then 1#8 else 0#8)).getLsbD 1 then flag5 else 0#8) ||| (if bc = 0#16 then 0#8 else flagPV)
        wz := s.wz + dlt, tacts := s.tacts + (16 - 8), log := memR s.hl v s.tacts :: s.log } ∧
      exec rep s = .next (if bc = 0#16 ∨ r = 0#8 then t else
        { t with tacts := t.tacts + (21 - 16), pc := s.pc - 2#16, wz := s.pc - 2#16 + 1#16 })

/-- For every state (at the tact constants the rules write): after one tact the port at BC (B not yet decremented) is
read and its answer stored at HL; WZ becomes BC plus or minus 1, B falls by 1, HL moves; F as R477; 12 tacts plus
the constant port delay (a platform's own delay is charged when the cycle ends, which is the model's choice:
BusPrimitives, logs 5 and 16). The repeating forms, when the new B is not 0, add 5 tacts and move PC back by 2, WZ
kept. Every byte of RAM or ROM but the one at the old HL reads as before; nothing else changes. The answer is
whatever the environment gives (log 4). (R477, R478, R479, R480) -/
def Obligations.BlockInputs : Prop :=
  ∀ (s : State) (dlt : Word) (v b c' : Byte) (k dl : Nat), s.WrittenTacts → v = s.portAnswer s.bc → b = s.regs.b - 1#8 →
    dl = s.portDelay → k = v.toNat + c'.toNat →
    ∀ (once rep : Instr), (dlt = 1#16 ∧ c' = s.regs.c + 1#8 ∧ once = .ini ∧ rep = .inir ∨
      dlt = 0xFFFF#16 ∧ c' = s.regs.c - 1#8 ∧ once = .ind ∧ rep = .indr) →
    ∃ t, exec once s = .next t ∧ Stored s t s.hl v ∧
      { t with mem := s.mem } = { s.setHl (s.hl + dlt) with
        regs.b := b
        regs.f := sz53 b ||| (if v.getLsbD 7 then flagN else 0#8) ||| (if 0xFF < k then flagH ||| flagC else 0#8)
          ||| (if evenParity (BitVec.ofNat 8 (k % 8) ^^^ b) then flagPV else 0#8)
        wz := s.bc + dlt, tacts := s.tacts + (12 - 8) + dl, portInputs := s.portInputs.tail, portReads := s.portReads + 1
        log := memW s.hl v (s.tacts + 1 + dl) :: portR s.bc v (s.tacts + 1) :: s.log } ∧
      exec rep s = .next (if b = 0#8 then t else { t with tacts := t.tacts + (21 - 16), pc := s.pc - 2#16 })

/-- For every state (at the tact constants the rules write): after one tact the byte at HL is read, B falls by 1, and
the byte is written to the port at the new BC; WZ becomes the new BC plus or minus 1, HL moves; F as R481 with the
new L; 12 tacts plus the constant port delay (a platform's own delay is charged when the cycle ends, which is the
model's choice: BusPrimitives, logs 5 and 16). The repeating forms, when the new B is not 0, add 5 tacts and move
PC back by 2, WZ kept. Memory and everything else is unchanged. (R481, R482, R483, R484) -/
def Obligations.BlockOutputs : Prop :=
  ∀ (s : State) (dlt bc : Word) (v b : Byte) (k dl : Nat), s.WrittenTacts → v = s.byteAt s.hl → b = s.regs.b - 1#8 →
    bc = pairOf b s.regs.c → dl = s.portDelay → k = v.toNat + (lowByte (s.hl + dlt)).toNat →
    ∀ (once rep : Instr), (dlt = 1#16 ∧ once = .outi ∧ rep = .otir ∨ dlt = 0xFFFF#16 ∧ once = .outd ∧ rep = .otdr) →
    ∃ t, exec once s = .next t ∧
      t = { s.setHl (s.hl + dlt) with
        regs.b := b
        regs.f := sz53 b ||| (if v.getLsbD 7 then flagN else 0#8) ||| (if 0xFF < k then flagH ||| flagC else 0#8)
          ||| (if evenParity (BitVec.ofNat 8 (k % 8) ^^^ b) then flagPV else 0#8)
        wz := bc + dlt, tacts := s.tacts + (12 - 8) + dl
        log := portW bc v (s.tacts + 4) :: memR s.hl v (s.tacts + 1) :: s.log } ∧
      exec rep s = .next (if b = 0#8 then t else { t with tacts := t.tacts + (21 - 16), pc := s.pc - 2#16 })

/-- For every state: after a pair is written it reads back, its halves are the high and low byte, and the other pairs
are unchanged; after a half of IX or IY is written that half reads back, the other half and the other index
register keep their values; after a register is written it reads back and every other register keeps its value;
setHalf, setXy and the pair writes change only their own fields. The operand codes read what their tables name: rr
code 3 is SP, qq code 3 is AF, code 2 of an index form is XY itself; IX is IXH over IXL. (R21, R23, R93, R94, R95, R370) -/
def Obligations.PairsAreViewsOfHalves : Prop :=
  ∀ (s : State) (v : Word) (w : Byte),
    ((s.setAf v).af = v ∧ (s.setBc v).bc = v ∧ (s.setDe v).de = v ∧ (s.setHl v).hl = v) ∧
    (s.af = pairOf s.regs.a s.regs.f ∧ s.bc = pairOf s.regs.b s.regs.c ∧ s.de = pairOf s.regs.d s.regs.e ∧
      s.hl = pairOf s.regs.h s.regs.l) ∧
    (s.setPair .bc v = s.setBc v ∧ s.setPair .de v = s.setDe v ∧ s.setPair .hl v = s.setHl v ∧
      s.setPair .sp v = { s with sp := v } ∧ s.setQPair .af v = s.setAf v ∧ s.setQPair .bc v = s.setBc v ∧
      s.setQPair .de v = s.setDe v ∧ s.setQPair .hl v = s.setHl v) ∧
    (∀ (h l : Byte), pairOf h l = (h.setWidth 16 <<< 8) ||| l.setWidth 16 ∧ highByte (pairOf h l) = h ∧
      lowByte (pairOf h l) = l ∧ pairOf (highByte v) (lowByte v) = v) ∧
    (s.pair .bc = s.bc ∧ s.pair .de = s.de ∧ s.pair .hl = s.hl ∧ s.pair .sp = s.sp ∧
      s.qpair .bc = s.bc ∧ s.qpair .de = s.de ∧ s.qpair .hl = s.hl ∧ s.qpair .af = s.af) ∧
    (s.xy .ix = s.ix ∧ s.xy .iy = s.iy ∧ ∀ x : XY,
      s.pairXy x .bc = s.bc ∧ s.pairXy x .de = s.de ∧ s.pairXy x .hl = s.xy x ∧ s.pairXy x .sp = s.sp ∧
      s.half x .high = highByte (s.xy x) ∧ s.half x .low = lowByte (s.xy x) ∧
      s.xy x = pairOf (s.half x .high) (s.half x .low)) ∧
    (s.regs.get .a = s.regs.a ∧ s.regs.get .b = s.regs.b ∧ s.regs.get .c = s.regs.c ∧ s.regs.get .d = s.regs.d ∧
      s.regs.get .e = s.regs.e ∧ s.regs.get .h = s.regs.h ∧ s.regs.get .l = s.regs.l) ∧
    (s.setBc v = { s with regs := { s.regs with b := highByte v, c := lowByte v } } ∧
      s.setDe v = { s with regs := { s.regs with d := highByte v, e := lowByte v } } ∧
      s.setHl v = { s with regs := { s.regs with h := highByte v, l := lowByte v } } ∧
      s.setAf v = { s with regs := { s.regs with a := highByte v, f := lowByte v } }) ∧
    (s.setXy .ix v = { s with ix := v } ∧ s.setXy .iy v = { s with iy := v }) ∧
    (∀ (x : XY) (h k : Half), (s.setHalf x h w).half x k = if k = h then w else s.half x k) ∧
    (∀ (x y : XY) (h : Half), x ≠ y → (s.setHalf x h w).xy y = s.xy y ∧
      { s.setHalf x h w with ix := s.ix, iy := s.iy } = s) ∧
    (∀ r q : Reg8, (s.regs.set r w).get q = if q = r then w else s.regs.get q) ∧
    (∀ r : Reg8, (s.regs.set r w).f = s.regs.f)

/-- For every byte v: INC_FLAGS[v] has S, 5, 3 from v plus 1, Z when that is 0, H when the low nibble of v is F, PV
when v is 7F, N and C clear; DEC_FLAGS[v] has S, 5, 3 from v minus 1, Z when that is 0, H when the low nibble of v
is 0, PV when v is 80, N set, C clear. For every state and operand: ALU writes A and F as the table of R140 says
for each of the eight operations (AND sets H, XOR and OR clear it, C and N are 0 for the three; CP keeps A), reads
F.C only for ADC and SBC, and changes nothing else; LOGIC_FLAGS has S, 5, 3 from the result, Z when it is 0, PV
when it has an even number of 1 bits. (R121, R124, R125, R131, R140) -/
def Obligations.FlagTablesAndAluEngine : Prop :=
  ((∀ v : Byte, ∀ r : Byte, r = v + 1#8 →
    (incFlags v).getLsbD 7 = r.getLsbD 7 ∧ (incFlags v).getLsbD 6 = decide (r = 0#8) ∧
    (incFlags v).getLsbD 5 = r.getLsbD 5 ∧ (incFlags v).getLsbD 4 = decide (v.toNat % 16 = 15) ∧
    (incFlags v).getLsbD 3 = r.getLsbD 3 ∧ (incFlags v).getLsbD 2 = decide (v = 0x7F#8) ∧
    (incFlags v).getLsbD 1 = false ∧ (incFlags v).getLsbD 0 = false) ∧
  (∀ v : Byte, ∀ r : Byte, r = v - 1#8 →
    (decFlags v).getLsbD 7 = r.getLsbD 7 ∧ (decFlags v).getLsbD 6 = decide (r = 0#8) ∧
    (decFlags v).getLsbD 5 = r.getLsbD 5 ∧ (decFlags v).getLsbD 4 = decide (v.toNat % 16 = 0) ∧
    (decFlags v).getLsbD 3 = r.getLsbD 3 ∧ (decFlags v).getLsbD 2 = decide (v = 0x80#8) ∧
    (decFlags v).getLsbD 1 = true ∧ (decFlags v).getLsbD 0 = false)) ∧
  ((∀ r : Byte,
    (logicFlags r).getLsbD 7 = r.getLsbD 7 ∧ (logicFlags r).getLsbD 6 = decide (r = 0#8) ∧
    (logicFlags r).getLsbD 5 = r.getLsbD 5 ∧ (logicFlags r).getLsbD 3 = r.getLsbD 3 ∧
    (logicFlags r).getLsbD 2 = decide ((r.getLsbD 0).toNat + (r.getLsbD 1).toNat + (r.getLsbD 2).toNat + (r.getLsbD 3).toNat
      + (r.getLsbD 4).toNat + (r.getLsbD 5).toNat + (r.getLsbD 6).toNat + (r.getLsbD 7).toNat = 0 ∨
      ((r.getLsbD 0).toNat + (r.getLsbD 1).toNat + (r.getLsbD 2).toNat + (r.getLsbD 3).toNat
      + (r.getLsbD 4).toNat + (r.getLsbD 5).toNat + (r.getLsbD 6).toNat + (r.getLsbD 7).toNat) % 2 = 0) ∧
    (logicFlags r).getLsbD 4 = false ∧ (logicFlags r).getLsbD 1 = false ∧ (logicFlags r).getLsbD 0 = false) ∧
  ∀ (s : State) (v a : Byte) (c : Bool), a = s.regs.a → c = s.regs.f.getLsbD 0 →
    s.alu .add v = { s with regs.a := addResult false a v, regs.f := addFlags false a v } ∧
    s.alu .adc v = { s with regs.a := addResult c a v, regs.f := addFlags c a v } ∧
    s.alu .sub v = { s with regs.a := subResult false a v, regs.f := subFlags false a v } ∧
    s.alu .sbc v = { s with regs.a := subResult c a v, regs.f := subFlags c a v } ∧
    s.alu .and v = { s with regs.a := a &&& v, regs.f := logicFlags (a &&& v) ||| flagH } ∧
    s.alu .xor v = { s with regs.a := a ^^^ v, regs.f := logicFlags (a ^^^ v) } ∧
    s.alu .or v = { s with regs.a := a ||| v, regs.f := logicFlags (a ||| v) } ∧
    s.alu .cp v = { s with regs.f := subFlags false a v })

/-- For every carry and pair of bytes: the results are the sum and the difference modulo 256; C is set when the exact
sum exceeds 255 or the exact difference is negative; H the same on the low nibbles; PV is set exactly when the
signed sum or difference leaves -128 to 127; S, 5, 3 are bits of the result, Z says it is 0; N is 0 for the sum and
1 for the difference. (R127, R128) -/
def Obligations.AddAndSubtractTables : Prop :=
  ∀ (c : Bool) (a b r : Byte),
    (r = addResult c a b →
      r.toNat = (a.toNat + b.toNat + c.toNat) % 256 ∧
      (addFlags c a b).getLsbD 7 = r.getLsbD 7 ∧ (addFlags c a b).getLsbD 6 = decide (r = 0#8) ∧
      (addFlags c a b).getLsbD 5 = r.getLsbD 5 ∧ (addFlags c a b).getLsbD 3 = r.getLsbD 3 ∧
      (addFlags c a b).getLsbD 4 = decide (15 < a.toNat % 16 + b.toNat % 16 + c.toNat) ∧
      (addFlags c a b).getLsbD 2 = decide (a.toInt + b.toInt + (c.toNat : Int) < -128 ∨ 127 < a.toInt + b.toInt + (c.toNat : Int)) ∧
      (addFlags c a b).getLsbD 1 = false ∧
      (addFlags c a b).getLsbD 0 = decide (255 < a.toNat + b.toNat + c.toNat)) ∧
    (r = subResult c a b →
      (r.toNat : Int) = ((a.toNat : Int) - b.toNat - c.toNat) % 256 ∧
      (subFlags c a b).getLsbD 7 = r.getLsbD 7 ∧ (subFlags c a b).getLsbD 6 = decide (r = 0#8) ∧
      (subFlags c a b).getLsbD 5 = r.getLsbD 5 ∧ (subFlags c a b).getLsbD 3 = r.getLsbD 3 ∧
      (subFlags c a b).getLsbD 4 = decide (((a.toNat % 16 : Nat) : Int) - ((b.toNat % 16 : Nat) : Int) - (c.toNat : Int) < 0) ∧
      (subFlags c a b).getLsbD 2 = decide (a.toInt - b.toInt - (c.toNat : Int) < -128 ∨ 127 < a.toInt - b.toInt - (c.toNat : Int)) ∧
      (subFlags c a b).getLsbD 1 = true ∧
      (subFlags c a b).getLsbD 0 = decide ((a.toNat : Int) - b.toNat - c.toNat < 0))

/-- For every carry and pair of bytes: the subtract result is the add result on the complement of b with the carry
inverted; the subtract flags are those add flags with H, N and C inverted; and CP takes its flag byte from the same
entry as SUB, leaving A unchanged. (R129) -/
def Obligations.SubtractionIsComplementAddition : Prop :=
  ∀ (c : Bool) (a b : Byte),
    subResult c a b = addResult (!c) a (b ^^^ 0xFF#8) ∧
    subFlags c a b = addFlags (!c) a (b ^^^ 0xFF#8) ^^^ (flagH ||| flagN ||| flagC) ∧
    (∀ k : Bool, aluFlags .cp k a b = subFlags false a b ∧ aluFlags .sub k a b = subFlags false a b ∧
      aluResult .cp k a b = a ∧ aluResult .sub k a b = subResult false a b)

/-- For every accumulator value a and flags h, n, c: the correction is 6 when h is set or the low nibble exceeds 9,
plus 60 (hex) when c is set or a exceeds 99 (hex); the result is a minus the correction when n is set, else a plus
it, modulo 256; S, 5, 3 are bits of the result, Z says it is 0, PV is its parity, N is n, C is c or a above 99
(hex), H as R134 says for each n. halfOf, subtractOf and carryOf are F.H, F.N and F.C. And for all pairs of two-
digit BCD numbers: after ADD of their bytes, DAA gives the byte of the sum modulo 100 and sets C exactly when the
sum is 100 or more; after SUB, the byte of the difference modulo 100, C saying that the difference is negative; N
is preserved in both. (R134) -/
def Obligations.DecimalAdjust : Prop :=
  (∀ f : Byte, halfOf f = f.getLsbD 4 ∧ subtractOf f = f.getLsbD 1 ∧ carryOf f = f.getLsbD 0) ∧
  (∀ (a r f : Byte) (h n c : Bool) (corr : Nat), r = daaResult a h n c → f = daaFlags a h n c →
    corr = (if h = true ∨ 9 < a.toNat % 16 then 0x06 else 0) + (if c = true ∨ 0x99 < a.toNat then 0x60 else 0) →
    r.toNat = (if n then (a.toNat + 256 - corr) % 256 else (a.toNat + corr) % 256) ∧
    f.getLsbD 7 = r.getLsbD 7 ∧ f.getLsbD 6 = decide (r = 0#8) ∧ f.getLsbD 5 = r.getLsbD 5 ∧
    f.getLsbD 4 = (if n then h && decide (a.toNat % 16 < 6) else decide (9 < a.toNat % 16)) ∧
    f.getLsbD 3 = r.getLsbD 3 ∧
    f.getLsbD 2 = decide (((r.getLsbD 0).toNat + (r.getLsbD 1).toNat + (r.getLsbD 2).toNat + (r.getLsbD 3).toNat
      + (r.getLsbD 4).toNat + (r.getLsbD 5).toNat + (r.getLsbD 6).toNat + (r.getLsbD 7).toNat) % 2 = 0) ∧
    f.getLsbD 1 = n ∧ f.getLsbD 0 = (c || decide (0x99 < a.toNat))) ∧
  ∀ (m n : Fin 100) (a b : Byte), a = BitVec.ofNat 8 (m.val / 10 * 16 + m.val % 10) → b = BitVec.ofNat 8 (n.val / 10 * 16 + n.val % 10) →
    (∀ (r f : Byte), r = addResult false a b → f = addFlags false a b →
      (daaResult r (halfOf f) (subtractOf f) (carryOf f)).toNat = (m.val + n.val) % 100 / 10 * 16 + (m.val + n.val) % 10 ∧
      (daaFlags r (halfOf f) (subtractOf f) (carryOf f)).getLsbD 0 = decide (100 ≤ m.val + n.val) ∧
      (daaFlags r (halfOf f) (subtractOf f) (carryOf f)).getLsbD 1 = false) ∧
    (∀ (r f : Byte), r = subResult false a b → f = subFlags false a b →
      (daaResult r (halfOf f) (subtractOf f) (carryOf f)).toNat =
        (m.val + 100 - n.val) % 100 / 10 * 16 + (m.val + 100 - n.val) % 10 ∧
      (daaFlags r (halfOf f) (subtractOf f) (carryOf f)).getLsbD 0 = decide (m.val < n.val) ∧
      (daaFlags r (halfOf f) (subtractOf f) (carryOf f)).getLsbD 1 = true)

/-- For every carry and pair of words: the results are the sum and the difference modulo 65536; C and H by the exact
sum or difference of the words and of their low twelve bits; PV exactly when the signed result leaves -32768 to
32767; Z when all 16 bits are zero; S, 5, 3 from the high byte; N 0 for the sum, 1 for the difference. (R136) -/
def Obligations.SixteenBitCarryTables : Prop :=
  ∀ (c : Bool) (a b r : Word),
    (r = adc16Result a b c →
      r.toNat = (a.toNat + b.toNat + c.toNat) % 65536 ∧
      (adc16Flags a b c).getLsbD 7 = r.getLsbD 15 ∧ (adc16Flags a b c).getLsbD 6 = decide (r = 0#16) ∧
      (adc16Flags a b c).getLsbD 5 = r.getLsbD 13 ∧ (adc16Flags a b c).getLsbD 3 = r.getLsbD 11 ∧
      (adc16Flags a b c).getLsbD 4 = decide (0x0FFF < a.toNat % 4096 + b.toNat % 4096 + c.toNat) ∧
      (adc16Flags a b c).getLsbD 2 = decide (a.toInt + b.toInt + (c.toNat : Int) < -32768 ∨ 32767 < a.toInt + b.toInt + (c.toNat : Int)) ∧
      (adc16Flags a b c).getLsbD 1 = false ∧
      (adc16Flags a b c).getLsbD 0 = decide (0xFFFF < a.toNat + b.toNat + c.toNat)) ∧
    (r = sbc16Result a b c →
      (r.toNat : Int) = ((a.toNat : Int) - b.toNat - c.toNat) % 65536 ∧
      (sbc16Flags a b c).getLsbD 7 = r.getLsbD 15 ∧ (sbc16Flags a b c).getLsbD 6 = decide (r = 0#16) ∧
      (sbc16Flags a b c).getLsbD 5 = r.getLsbD 13 ∧ (sbc16Flags a b c).getLsbD 3 = r.getLsbD 11 ∧
      (sbc16Flags a b c).getLsbD 4 = decide (((a.toNat % 4096 : Nat) : Int) - ((b.toNat % 4096 : Nat) : Int) - (c.toNat : Int) < 0) ∧
      (sbc16Flags a b c).getLsbD 2 = decide (a.toInt - b.toInt - (c.toNat : Int) < -32768 ∨ 32767 < a.toInt - b.toInt - (c.toNat : Int)) ∧
      (sbc16Flags a b c).getLsbD 1 = true ∧
      (sbc16Flags a b c).getLsbD 0 = decide ((a.toNat : Int) - b.toNat - c.toNat < 0))

/-- For every byte v and carry c: each of RLC, RRC, RL, RR, SLA, SRA, SLL, SRL gives the stated number from v's value,
v's end bits and c; F is LOGIC_FLAGS of the result with C the bit shifted out (bit 7 for the left forms, bit 0 for
the right forms). (R421, R422, R423, R424, R425, R426, R427, R428) -/
def Obligations.RotateTable : Prop :=
  ∀ (v : Byte) (c : Bool),
    (rotResult .rlc c v).toNat = (2 * v.toNat) % 256 + v.toNat / 128 ∧
    (rotResult .rrc c v).toNat = v.toNat / 2 + 128 * (v.toNat % 2) ∧
    (rotResult .rl c v).toNat = (2 * v.toNat) % 256 + c.toNat ∧
    (rotResult .rr c v).toNat = v.toNat / 2 + 128 * c.toNat ∧
    (rotResult .sla c v).toNat = (2 * v.toNat) % 256 ∧
    (rotResult .sra c v).toNat = v.toNat / 2 + 128 * (v.toNat / 128) ∧
    (rotResult .sll c v).toNat = (2 * v.toNat) % 256 + 1 ∧
    (rotResult .srl c v).toNat = v.toNat / 2 ∧
    (∀ k : RotOp, rotFlags k c v = logicFlags (rotResult k c v) |||
      (if (k = .rlc ∨ k = .rl ∨ k = .sla ∨ k = .sll) then v >>> 7 else v &&& 1#8))

/-- For every state, address and byte: after a write of the core every byte of RAM or ROM reads as before, but a RAM
address written to reads the byte written; a byte that the host changes reads back wherever no device stands, and
every other address reads as before; writing twice equals writing the last value for every reader; the canonical
form of memory is kept, and nothing but memory changes in a host change. A device answers each call by itself: its
answer is the free value of that very call, counted from the start of the run, and each read or write moves on to
the next answer. What stands at an address is the first window of the Bus that holds it, else RAM; under the
default Bus every address is RAM. The windows, and a device's answer as a free value of the call, are the model's
form of the parameter Bus (log 19). (R4, R60, R61, R67, R80) -/
def Obligations.MemoryReadAfterWrite : Prop :=
  ∀ (s : State) (a : Word) (v : Byte) (n : Nat),
    (∀ x, kindAt s.cfg.bus.windows x ≠ .device →
      (s.wr a v).byteAt x = if x = a ∧ kindAt s.cfg.bus.windows a = .ram then v else s.byteAt x) ∧
    (kindAt s.cfg.bus.windows a = .device → s.byteAfter n a = Config.deviceByte (s.log.length + n) a) ∧
    (kindAt s.cfg.bus.windows a ≠ .device → s.byteAfter n a = Memory.read s.mem a.toNat ∧ (s.poke a v).byteAt a = v) ∧
    s.byteAt a = s.byteAfter 0 a ∧
    (∀ x, (s.rd x).byteAfter n a = s.byteAfter (n + 1) a ∧
      (kindAt s.cfg.bus.windows a = .device → (s.wr x v).byteAfter n a = s.byteAfter (n + 1) a)) ∧
    (∀ x, x ≠ a → (s.poke a v).byteAfter n x = s.byteAfter n x) ∧
    (∀ w x, ((s.poke a w).poke a v).byteAt x = (s.poke a v).byteAt x ∧
      (kindAt s.cfg.bus.windows x ≠ .device → ((s.wr a w).wr a v).byteAt x = (s.wr a v).byteAt x)) ∧
    (Memory.wf s.mem = true → Memory.wf (s.poke a v).mem = true ∧ Memory.wf (s.wr a v).mem = true) ∧
    { s.poke a v with mem := s.mem } = s ∧
    (∀ (w : Window) (rest : List Window),
      ((∃ n : Nat, n < w.size ∧ n < 65536 ∧ a = w.base + BitVec.ofNat 16 n) → kindAt (w :: rest) a = w.kind) ∧
      ((∀ n : Nat, n < w.size → a ≠ w.base + BitVec.ofNat 16 n) → kindAt (w :: rest) a = kindAt rest a)) ∧
    (s.cfg.bus = Bus.default → kindAt s.cfg.bus.windows a = .ram)

/-- For every state: Tick adds tacts; Rd and Wr make one call and add the access constant, 3 as written; Fetch reads at
PC, adds the fetch constant, 4 as written, moves PC and counts R in its low seven bits; Imm8 reads at PC and moves
it; Imm16 is two of them, low byte first; a port access makes one call and adds the constant delay of the
interface; Push16 writes the high byte at SP minus 1, then the low byte at SP minus 2; Pop16 reads them back in the
other order. Nothing else changes. A write stores where the Bus has RAM (MemoryReadAfterWrite). What a port answers
is the environment's (log 4). When a cycle ends, the Bus' own tacts are added: none on a Bus without memory delay
whose port delay is a constant; n a memory call on a Bus whose memory delay is the constant n; the platform's
answer, from the address and the stamp, for its port and memory calls; the calls keep kind, address and byte, and
the calls of earlier cycles keep all. R66 and R67 say that a platform may add tacts. That they are added at the end
of the cycle by settle and not in the access, and that a memory delay is a constant or a free function of address
and stamp, is the model's choice, not the spec's (log 16 for memory, log 5 for a platform's ports; logs 19 and 20
for the form of the Bus and of the constants). (R5, R6, R7, R8, R9, R10, R11, R66, R67) -/
def Obligations.BusPrimitives : Prop :=
  ∀ (s : State) (a v : Word) (b : Byte) (n : Nat),
    s.tick n = { s with tacts := s.tacts + n } ∧
    s.rd a = { s with tacts := s.tacts + s.cfg.tact.access, log := memR a (s.byteAt a) s.tacts :: s.log } ∧
    (Stored s (s.wr a b) a b ∧
      { s.wr a b with mem := s.mem } = { s with
        tacts := s.tacts + s.cfg.tact.access, log := memW a b s.tacts :: s.log }) ∧
    s.fetch = { s with
      tacts := s.tacts + s.cfg.tact.fetch, log := memR s.pc (s.byteAt s.pc) s.tacts :: s.log, pc := s.pc + 1#16
      rReg := (s.rReg &&& 0x80#8) ||| ((s.rReg + 1#8) &&& 0x7F#8) } ∧
    s.imm8 = { s.rd s.pc with pc := s.pc + 1#16 } ∧
    s.imm16 = s.imm8.imm8 ∧ s.wordAt a = pairOf (s.byteAfter 1 (a + 1#16)) (s.byteAt a) ∧
    s.wordAfter n a = pairOf (s.byteAfter (n + 1) (a + 1#16)) (s.byteAfter n a) ∧
    (s.WrittenTacts → s.cfg.tact.access = 3 ∧ s.cfg.tact.fetch = 4) ∧
    s.portRd a = { s with
      tacts := s.tacts + s.portDelay, log := portR a (s.portAnswer a) s.tacts :: s.log
      portInputs := s.portInputs.tail, portReads := s.portReads + 1 } ∧
    s.portWr a b = { s with tacts := s.tacts + s.portDelay, log := portW a b s.tacts :: s.log } ∧
    (∀ k, s.cfg.bus.portDelay = .constant k → s.portDelay = k) ∧
    (s.cfg.bus.portDelay = .platform → s.portDelay = 0) ∧
    (Pushed s (s.push16 v) v ∧ { s.push16 v with mem := s.mem } = { s with
      sp := s.sp - 2#16, tacts := s.tacts + s.cfg.tact.access + s.cfg.tact.access
      log := pushCalls s v s.tacts ++ s.log }) ∧
    s.pop16 = { s with
      sp := s.sp + 2#16, tacts := s.tacts + s.cfg.tact.access + s.cfg.tact.access, log := readCalls s s.sp s.tacts ++ s.log } ∧
    (kindAt s.cfg.bus.windows (s.sp - 1#16) = .ram → kindAt s.cfg.bus.windows (s.sp - 2#16) = .ram →
      (s.push16 v).wordAt (s.push16 v).sp = v) ∧
    (∀ c old : List BusCall, s.log = c ++ old →
      { s.settle old.length with tacts := s.tacts, log := s.log } = s ∧
      s.tacts ≤ (s.settle old.length).tacts ∧
      (∃ c', (s.settle old.length).log = c' ++ old ∧
        c'.map (fun x => (x.kind, x.address, x.value)) = c.map (fun x => (x.kind, x.address, x.value))) ∧
      (s.cfg.bus.portDelay ≠ .platform →
        (s.cfg.bus.memDelay = .constant 0 → s.settle old.length = s) ∧
        (s.cfg.bus.memDelay = .constant n → (s.settle old.length).tacts =
          s.tacts + n * (c.filter fun x => x.kind == .memRead || x.kind == .memWrite).length)) ∧
      (∀ k d e : Nat, s.cfg.bus.portDelay = .platform → s.cfg.bus.memDelay = .constant 0 →
        d = Config.platformPortDelay a k → e = Config.platformPortDelay v (n + d) →
        (c = [portR a b k] ∨ c = [portW a b k] → (s.settle old.length).tacts = s.tacts + d) ∧
        (c = [portW v b n, portR a b k] → (s.settle old.length).tacts = s.tacts + d + e ∧
          (s.settle old.length).log = portW v b (n + d) :: portR a b k :: old)) ∧
      (∀ k : Nat, s.cfg.bus.memDelay = .platform → c = [memR a b k] ∨ c = [memW a b k] →
        (s.settle old.length).tacts = s.tacts + Config.platformMemDelay a k))

/-- For every well-formed instruction with its operand bytes: decoding its encoding, prefix bytes included, gives
exactly that instruction and those operand bytes and leaves no byte; and for every instruction that is not itself a
prefix byte, bytes that follow the encoding are left over untouched. (30_encoding.md R90 to R105, R99, R100, R101, R102, R103) -/
def Obligations.DecodeOfEncodeIsIdentity : Prop :=
  ∀ d : Decoded, d.wf = true →
    decode (encode d) = .ok (d, []) ∧
    (d.instr ≠ .prefix_cb → d.instr ≠ .prefix_dd → d.instr ≠ .prefix_ed → d.instr ≠ .prefix_fd →
      ∀ rest : List Byte, decode (encode d ++ rest) = .ok (d, rest))

/-- For every pair of latches and every opcode byte the decoder gives one well-formed instruction: no byte sequence is
illegal; and two opcode bytes of one table give the same instruction only if they are the same byte. The index
table, for IX and for IY, gives each of the 85 bytes of R100 the entry R100 names (pair code hl is XY itself).
Every other byte, prefix or not, gives the instruction of the standard table: the 167 inherited ones decode under
one or more redundant index prefixes as without, operand bytes and rest of the list included, and their run does
not read the index latch: with any latch the next state is the same but for that latch, which they leave. The
choices of the model's own are: duplicates keep their varying field (ED 44 and ED 4C are both NEG, log 13), so two
bytes never give one instruction, and the extended latch with an index latch decodes as the extended table (log
14). (R100, R104, R165, R173, R382) -/
def Obligations.DecodedInstructionsAreWellFormed : Prop :=
  (∀ (pm : PrefixMode) (im : IndexMode) (op : Byte),
    (decodeInstr pm im op).wf = true ∧
    ∀ op' : Byte, decodeInstr pm im op = decodeInstr pm im op' → op = op') ∧
  (∀ (x : XY) (im : IndexMode), (x = .ix ∧ im = .ix ∨ x = .iy ∧ im = .iy) →
    [0x09#8, 0x19#8, 0x29#8, 0x39#8].map (decodeInstr .none im) = [Pair.bc, .de, .hl, .sp].map (Instr.addXy x) ∧
    [0x21#8, 0x22#8, 0x2A#8, 0x23#8, 0x2B#8].map (decodeInstr .none im) =
      [Instr.ldXyImm x, Instr.ldAtNnXy x, Instr.ldXyAtNn x, Instr.incXy x, Instr.decXy x] ∧
    [0x24#8, 0x25#8, 0x2C#8, 0x2D#8].map (decodeInstr .none im) =
      [Instr.incHalf x .high, Instr.decHalf x .high, Instr.incHalf x .low, Instr.decHalf x .low] ∧
    [0x26#8, 0x2E#8].map (decodeInstr .none im) = [Instr.ldHalfImm x .high, Instr.ldHalfImm x .low] ∧
    [0x34#8, 0x35#8, 0x36#8].map (decodeInstr .none im) = [Instr.incXyd x, Instr.decXyd x, Instr.ldXydImm x] ∧
    [0x46#8, 0x4E#8, 0x56#8, 0x5E#8, 0x66#8, 0x6E#8, 0x7E#8].map (decodeInstr .none im) =
      [Reg8.b, .c, .d, .e, .h, .l, .a].map (Instr.ldRegXyd x) ∧
    [0x70#8, 0x71#8, 0x72#8, 0x73#8, 0x74#8, 0x75#8, 0x77#8].map (decodeInstr .none im) =
      [Reg8.b, .c, .d, .e, .h, .l, .a].map (Instr.ldXydReg x) ∧
    [0x44#8, 0x4C#8, 0x54#8, 0x5C#8, 0x7C#8].map (decodeInstr .none im) =
      [PlainReg.b, .c, .d, .e, .a].map (fun r => Instr.ldRegHalf x r .high) ∧
    [0x45#8, 0x4D#8, 0x55#8, 0x5D#8, 0x7D#8].map (decodeInstr .none im) =
      [PlainReg.b, .c, .d, .e, .a].map (fun r => Instr.ldRegHalf x r .low) ∧
    [0x60#8, 0x61#8, 0x62#8, 0x63#8, 0x67#8].map (decodeInstr .none im) =
      [PlainReg.b, .c, .d, .e, .a].map (Instr.ldHalfReg x .high) ∧
    [0x68#8, 0x69#8, 0x6A#8, 0x6B#8, 0x6F#8].map (decodeInstr .none im) =
      [PlainReg.b, .c, .d, .e, .a].map (Instr.ldHalfReg x .low) ∧
    [0x64#8, 0x65#8, 0x6C#8, 0x6D#8].map (decodeInstr .none im) =
      [Instr.ldHalfHalf x .high .high, Instr.ldHalfHalf x .high .low, Instr.ldHalfHalf x .low .high,
        Instr.ldHalfHalf x .low .low] ∧
    [0x84#8, 0x8C#8, 0x94#8, 0x9C#8, 0xA4#8, 0xAC#8, 0xB4#8, 0xBC#8].map (decodeInstr .none im) =
      [AluOp.add, .adc, .sub, .sbc, .and, .xor, .or, .cp].map (fun k => Instr.aluHalf x k .high) ∧
    [0x85#8, 0x8D#8, 0x95#8, 0x9D#8, 0xA5#8, 0xAD#8, 0xB5#8, 0xBD#8].map (decodeInstr .none im) =
      [AluOp.add, .adc, .sub, .sbc, .and, .xor, .or, .cp].map (fun k => Instr.aluHalf x k .low) ∧
    [0x86#8, 0x8E#8, 0x96#8, 0x9E#8, 0xA6#8, 0xAE#8, 0xB6#8, 0xBE#8].map (decodeInstr .none im) =
      [AluOp.add, .adc, .sub, .sbc, .and, .xor, .or, .cp].map (Instr.aluXyd x) ∧
    [0xE1#8, 0xE3#8, 0xE5#8, 0xE9#8, 0xF9#8].map (decodeInstr .none im) =
      [Instr.popXy x, Instr.exSpXy x, Instr.pushXy x, Instr.jpXy x, Instr.ldSpXy x]) ∧
  (indexOverrides.length = 85 ∧ indexOverrides.Nodup ∧
    ((List.range 256).filter fun n => !indexOverrides.contains (BitVec.ofNat 8 n) && !isPrefixByte (BitVec.ofNat 8 n)).length
      = 167) ∧
  (∀ (im : IndexMode) (op : Byte), op ∉ indexOverrides →
    decodeInstr .none im op = decodeInstr .none .none op ∧
    (∀ rest : List Byte, decodeCycle .none im (op :: rest) = decodeCycle .none .none (op :: rest)) ∧
    (isPrefixByte op = false →
      (∀ (pre rest : List Byte), (∀ b ∈ pre, b = 0xDD#8 ∨ b = 0xFD#8) →
        decode (pre ++ op :: rest) = decode (op :: rest)) ∧
      ∀ s t : State, exec (decodeInstr .none .none op) s = .next t →
        exec (decodeInstr .none im op) { s with indexMode := im } = .next { t with indexMode := im }))

/-- The bytes the rules give for one instruction of each family decode to that instruction and its operand bytes. (R201, R202, R263, R313, R317, R344, R373, R382, R421, R433, R469) -/
def Obligations.SampleWordsDecode : Prop :=
  decode [0x41#8] = .ok (⟨.ld_b_c, []⟩, []) ∧
  decode [0x06#8, 0x5A#8] = .ok (⟨.ld_b_n, [0x5A#8]⟩, []) ∧
  decode [0x96#8] = .ok (⟨.sub_at_hl, []⟩, []) ∧
  decode [0xCD#8, 0x00#8, 0x80#8] = .ok (⟨.call_nn, [0x00#8, 0x80#8]⟩, []) ∧
  decode [0xDB#8, 0xFE#8] = .ok (⟨.in_a_at_n, [0xFE#8]⟩, []) ∧
  decode [0xDD#8, 0x46#8, 0x05#8] = .ok (⟨.ld_b_at_ixd, [0x05#8]⟩, []) ∧
  decode [0xCB#8, 0x00#8] = .ok (⟨.rlc_b, []⟩, []) ∧
  decode [0xDD#8, 0xCB#8, 0x01#8, 0x00#8] = .ok (⟨.rlc_at_ixd_b, [0x01#8]⟩, []) ∧
  decode [0xED#8, 0xA0#8] = .ok (⟨.ldi, []⟩, []) ∧
  decode [0xDD#8, 0xEB#8] = .ok (⟨.ex_de_hl, []⟩, []) ∧
  decode [0xFD#8, 0x41#8] = .ok (⟨.ld_b_c, []⟩, []) ∧
  decode [0xDD#8, 0x18#8, 0x05#8] = .ok (⟨.jr_e, [0x05#8]⟩, [])

/-- For every state where no signal consumes the cycle and the opcode space exists: if the bytes at PC, as the next
reads give them, decode, under the latches, to a well-formed instruction i, then step is exec of i on the state
after the opcode has been read (enter), followed by Finish unless the byte was a prefix, and by the end of the
cycle (settle: the Bus' own tacts; that they come there is the model's choice, logs 5 and 16, BusPrimitives); a
fault or refusal of exec is the step's. Enter: a fetch at PC (4 tacts as written, PC plus 1, R counted, opCode
set), and blocked cleared before a terminal opcode; in the indexed bit cycle, instead, d and op read as operand
bytes with 2 more tacts as written, R not counted. The displacement is kept in the model's own field disp (log 8). (R160, R164, R166, R169) -/
def Obligations.StepRunsDecodedInstruction : Prop :=
  ∀ (s : State) (d : Decoded) (rest : List Byte),
    s.signalStep = none → s.missingTable = none →
    decodeCycle s.prefixMode s.indexMode
      [s.byteAt s.pc, s.byteAfter 1 (s.pc + 1#16), s.byteAfter 2 (s.pc + 2#16), s.byteAfter 3 (s.pc + 3#16)] = .ok (d, rest) →
    d.instr.wf = true →
    (step s = match exec d.instr s.enter with
      | .next t => .next ((if s.prefixMode = .none ∧ (s.byteAt s.pc = 0xCB#8 ∨ s.byteAt s.pc = 0xDD#8 ∨
          s.byteAt s.pc = 0xED#8 ∨ s.byteAt s.pc = 0xFD#8) then t
          else ({ t with prefixMode := .none, indexMode := .none, inOp := false } : State)).settle s.log.length)
      | .fault r => .fault r
      | .refused r => .refused r) ∧
    (¬ (s.prefixMode = .bit ∧ s.indexMode ≠ .none) → s.enter = { s with
      pc := s.pc + 1#16, rReg := refresh s.rReg, opCode := s.byteAt s.pc, tacts := s.tacts + s.cfg.tact.fetch
      log := memR s.pc (s.byteAt s.pc) s.tacts :: s.log
      blocked := s.blocked && (s.prefixMode == .none) && (s.byteAt s.pc == 0xCB#8 || s.byteAt s.pc == 0xDD#8 ||
        s.byteAt s.pc == 0xED#8 || s.byteAt s.pc == 0xFD#8) }) ∧
    (s.prefixMode = .bit ∧ s.indexMode ≠ .none → s.enter = { s with
      pc := s.pc + 2#16, disp := s.byteAt s.pc, opCode := s.byteAfter 1 (s.pc + 1#16)
      tacts := s.tacts + s.cfg.tact.access + s.cfg.tact.access + s.cfg.tact.indexedBit
      log := readCalls s s.pc s.tacts ++ s.log, blocked := false }) ∧
    (s.WrittenTacts → s.enter.tacts = s.tacts + (if s.prefixMode = .bit ∧ s.indexMode ≠ .none then 8 else 4))

/-- For every state where no signal acts and the opcode space exists: in a state with no prefix latch, DD, FD, CB and
ED set the latches as the table of R161 says and leave an instruction in progress with interrupts held off; every
other byte, and every byte after CB or ED, leaves both latches clear and no instruction in progress; R is counted
once per cycle except in the indexed bit cycle and after LD R,A. (R161, R162, R163, R169) -/
def Obligations.TransitionTable : Prop :=
  ∀ (s : State), s.signalStep = none → s.missingTable = none → ∃ t, step s = .next t ∧
    (s.prefixMode = .none → s.byteAt s.pc = 0xDD#8 → t.prefixMode = .none ∧ t.indexMode = .ix ∧ t.inOp = true ∧ t.blocked = true) ∧
    (s.prefixMode = .none → s.byteAt s.pc = 0xFD#8 → t.prefixMode = .none ∧ t.indexMode = .iy ∧ t.inOp = true ∧ t.blocked = true) ∧
    (s.prefixMode = .none → s.byteAt s.pc = 0xCB#8 → t.prefixMode = .bit ∧ t.indexMode = s.indexMode ∧ t.inOp = true ∧ t.blocked = true) ∧
    (s.prefixMode = .none → s.byteAt s.pc = 0xED#8 → t.prefixMode = .extended ∧ t.indexMode = .none ∧ t.inOp = true ∧ t.blocked = true) ∧
    ((s.prefixMode ≠ .none ∨ (s.byteAt s.pc ≠ 0xDD#8 ∧ s.byteAt s.pc ≠ 0xFD#8 ∧ s.byteAt s.pc ≠ 0xCB#8 ∧ s.byteAt s.pc ≠ 0xED#8)) →
      t.prefixMode = .none ∧ t.indexMode = .none ∧ t.inOp = false) ∧
    (s.nextInstr ≠ .ld_r_a → t.rReg = if s.prefixMode = .bit ∧ s.indexMode ≠ .none then s.rReg
      else (s.rReg &&& 0x80#8) ||| ((s.rReg + 1#8) &&& 0x7F#8))

/-- For every state whose parameter EXT_TABLES is z80_reference the step answers a next state: no instruction traps,
faults or aborts, whatever the registers, memory and latches; and exec answers a next state for every instruction
and every state. (R520) -/
def Obligations.EveryStepCompletes : Prop :=
  (∀ s : State, s.cfg.extTables = .z80Reference → CanStep s) ∧
  ∀ (i : Instr) (s : State), ∃ t, exec i s = .next t

/-- When EXT_TABLES is unimplemented and no signal acts: a step with the bit latch faults naming CB, a step with the
extended latch faults naming ED, and every other step, prefix bytes CB and ED among them, answers a next state. The
address named is PC as the cycle found it (DESIGN CHOICE, log 9). (R168, R12) -/
def Obligations.UnimplementedSpaceFaults : Prop :=
  ∀ s : State, s.cfg.extTables = .unimplemented → s.signalStep = none →
    (s.prefixMode = .bit → step s = .fault (.unimplemented .cb s.pc)) ∧
    (s.prefixMode = .extended → step s = .fault (.unimplemented .ed s.pc)) ∧
    (s.prefixMode = .none → CanStep s)

/-- For every state that meets the invariant and every next state a step answers, the next state meets it: memory in
canonical form; the extended latch with no index latch; inOp exactly while a latch is set; interrupts held off
while a prefix is pending; a halted core between instructions. (R37, R38, R170, 60_exceptions.md R527, R530, 70_reset_and_hazards.md R572) -/
def Obligations.StepKeepsInvariant : Prop :=
  ∀ s t : State, Inv s → step s = .next t → Inv t

/-- State.reset meets the invariant that every step keeps, and so does the result of Reset() on any state whose memory
is in canonical form. (R560) -/
def Obligations.ResetStateMeetsInvariant : Prop :=
  Inv State.reset ∧ ∀ s : State, Memory.wf s.mem = true → Inv s.resetOp

/-- For every state that meets the invariant and every action of the host interface (reset, the signal setters,
contentionDelay, a change of memory, an answer for a port), the state after the action meets it. (R540, R541, R542, R543, R544) -/
def Obligations.HostActionsKeepInvariant : Prop :=
  ∀ (s : State) (a : HostAction), Inv s → Inv (s.act a)

/-- For every state: the maskable interrupt is taken exactly when sig.Int is set, blocked is false and IFF1 is true,
before everything else; then a halted cycle, then the reset signal, then the NMI, which read neither blocked nor
IFF1; when none applies the cycle fetches. The acknowledge clears only sig.Halted, a halted cycle clears no signal,
NMI entry clears only sig.Nmi (and sig.Halted): a signal that lost stays set; reset clears all four. What the end
of the cycle adds (settle) is the model's choice of where the Bus' own tacts come (logs 5 and 16, BusPrimitives). (R521) -/
def Obligations.SignalPriority : Prop :=
  ∀ s : State,
    (s.sig.int = true ∧ s.blocked = false ∧ s.iff1 = true → step s = .next (s.interruptAck.settle s.log.length)) ∧
    (¬ (s.sig.int = true ∧ s.blocked = false ∧ s.iff1 = true) →
      (s.sig.halted = true → step s = .next s.haltedCycle) ∧
      (s.sig.halted = false → s.sig.reset = true → step s = .next s.resetOp) ∧
      (s.sig.halted = false → s.sig.reset = false → s.sig.nmi = true → step s = .next (s.nmiEntry.settle s.log.length)) ∧
      (s.sig.halted = false → s.sig.reset = false → s.sig.nmi = false → s.signalStep = none ∧ step s = runCycle s)) ∧
    s.interruptAck.sig = { s.sig with halted := false } ∧ s.haltedCycle.sig = s.sig ∧
    s.resetOp.sig = { int := false, halted := false, reset := false, nmi := false } ∧
    s.nmiEntry.sig = { s.sig with halted := false, nmi := false }

/-- For every state (at the tact constants the rules write): the acknowledge steps PC past a halt and clears
sig.Halted, clears IFF1 and IFF2, pushes PC, and jumps to VEC_INT in modes 0 and 1 (13 tacts) or to the word read,
after the pushes, at I over INT_VECTOR_BYTE in mode 2 (19 tacts), the second address modulo 65536; WZ is the
target; every byte of RAM or ROM but the two pushed reads as before; sig.Int, R, F, blocked, the latches and
everything else are unchanged. (R527) -/
def Obligations.InterruptAcknowledge : Prop :=
  ∀ (s t : State) (ret : Word), s.WrittenTacts → t = s.interruptAck → ret = (if s.sig.halted then s.pc + 1#16 else s.pc) →
    Pushed s t ret ∧
    (s.im ≠ .im2 → { t with mem := s.mem } = { s with
      pc := s.cfg.vecInt, wz := s.cfg.vecInt, sp := s.sp - 2#16, iff1 := false, iff2 := false, sig.halted := false
      tacts := s.tacts + 13, log := pushCalls s ret (s.tacts + 1) ++ s.log }) ∧
    (s.im = .im2 → ∀ (a target : Word), a = pairOf s.iReg s.cfg.intVectorByte →
      target = (s.push16 ret).wordAt a →
      { t with mem := s.mem } = { s with
        pc := target, wz := target, sp := s.sp - 2#16, iff1 := false, iff2 := false, sig.halted := false
        tacts := s.tacts + 19
        log := readCalls (s.push16 ret) a (s.tacts + 13) ++ (pushCalls s ret (s.tacts + 1) ++ s.log) })

/-- For every state that is not halted (at the tact constants the rules write): NMI entry copies IFF1 into IFF2, clears
IFF1, pushes PC, jumps to VEC_NMI with WZ the same, clears sig.Nmi, 11 tacts; every byte of RAM or ROM but the two
pushed reads as before; blocked, the latches, inOp, IM, sig.Int, F and everything else are unchanged. In a halted
state, which the signal step never brings here, PC is stepped past the halt first. (R530) -/
def Obligations.NmiEntrySequence : Prop :=
  ∀ (s t : State) (ret : Word), s.WrittenTacts → t = s.nmiEntry → ret = (if s.sig.halted then s.pc + 1#16 else s.pc) →
    Pushed s t ret ∧
    { t with mem := s.mem } = { s with
      pc := s.cfg.vecNmi, wz := s.cfg.vecNmi, sp := s.sp - 2#16, iff2 := s.iff1, iff1 := false
      sig := { s.sig with halted := false, nmi := false }
      tacts := s.tacts + 11, log := pushCalls s ret (s.tacts + 1) ++ s.log }

/-- For every halted state in which no maskable interrupt is acknowledged: the step adds the halted constant (4 tacts
as written), counts R, makes no bus call and changes nothing else; so sig.Reset and sig.Nmi stay pending for ever:
after any number of such steps the core is still halted with PC and both requests unchanged. (R523, R524) -/
def Obligations.HaltedCore : Prop :=
  (∀ s : State, s.sig.halted = true → s.takesInt = false →
    step s = .next { s with
      tacts := s.tacts + s.cfg.tact.halted, rReg := (s.rReg &&& 0x80#8) ||| ((s.rReg + 1#8) &&& 0x7F#8) }) ∧
  TactConstants.written.halted = 4 ∧
  ∀ (n : Nat) (s : State), s.sig.halted = true → s.takesInt = false →
    ∃ t : State, Sys2Proof.core.run n s = .next t ∧ t.sig = s.sig ∧ t.pc = s.pc ∧
      t.tacts = s.tacts + s.cfg.tact.halted * n ∧ t.log = s.log

/-- For every state where no signal acts and every next state of its step: blocked is true exactly when the cycle
fetched a prefix byte or ran EI; and in every state where blocked is true the step is not the interrupt
acknowledge, whatever sig.Int and IFF1 are: a maskable interrupt never splits a prefixed instruction nor follows EI
at once. Signal cycles other than reset leave blocked unchanged. (R36, R170, R570, R571) -/
def Obligations.InterruptHoldOff : Prop :=
  ∀ s t : State, step s = .next t →
    (s.signalStep = none → (t.blocked = true ↔
      s.nextInstr = .ei ∨ s.nextInstr = .prefix_cb ∨ s.nextInstr = .prefix_dd ∨ s.nextInstr = .prefix_ed ∨ s.nextInstr = .prefix_fd)) ∧
    (s.blocked = true → s.takesInt = false) ∧
    (s.signalStep ≠ none → (s.takesInt = true ∨ s.sig.halted = true ∨ s.sig.reset = false) → t.blocked = s.blocked)

/-- For every state: Reset() clears IFF1, IFF2, IM, all four signal bits, both latches, blocked, inOp, I and R, sets PC
to 0 and tacts to 0, and keeps the general registers, the shadows, IX, IY, SP, WZ and opCode (and memory, which is
no part of the core, and the model's own fields); when the reset signal wins the cycle, that is the whole step. For
every state: the signal setters change one signal bit, contentionDelay(n) adds n to tacts, reset() performs Reset()
at once whatever the signals, and nothing else changes; getState changes nothing. A change of memory behind the Bus
puts one byte where no device stands, leaves every other byte and everything else, and keeps the canonical form
(R540); an answer for a port joins the end of the held inputs, so it is answered after them, and changes nothing
else (log 4). These two actions have the model's own form (logs 4 and 10). (R525, R560, R540, R541, R542, R543, R544, R545) -/
def Obligations.ResetAndHostActions : Prop :=
  (∀ s : State,
    s.resetOp = { s with
      iff1 := false, iff2 := false, im := .im0
      sig := { int := false, halted := false, reset := false, nmi := false }
      prefixMode := .none, indexMode := .none, blocked := false, inOp := false
      iReg := 0x00#8, rReg := 0x00#8, pc := 0x0000#16, tacts := 0 } ∧
    (s.sig.reset = true → s.sig.halted = false → s.takesInt = false → step s = .next s.resetOp ∧
      s.resetOp.signalStep = none) ∧
    State.reset.resetOp = State.reset) ∧
  (∀ (s : State) (n : BitVec 32),
    s.act .setResetSignal = { s with sig.reset := true } ∧ s.act .clearResetSignal = { s with sig.reset := false } ∧
    s.act .setInt = { s with sig.int := true } ∧ s.act .clearInt = { s with sig.int := false } ∧
    s.act .setNmi = { s with sig.nmi := true } ∧ s.act (.contentionDelay n) = { s with tacts := s.tacts + n.toNat } ∧
    s.act .reset = s.resetOp ∧ s.getState = s ∧
    (∀ (a : Word) (v : Byte),
      (kindAt s.cfg.bus.windows a ≠ .device → (s.act (.changeMemory a v)).byteAt a = v) ∧
      (∀ x, x ≠ a → (s.act (.changeMemory a v)).byteAt x = s.byteAt x) ∧
      { s.act (.changeMemory a v) with mem := s.mem } = s ∧
      (Memory.wf s.mem = true → Memory.wf (s.act (.changeMemory a v)).mem = true)) ∧
    (∀ v : Byte, s.act (.answerPort v) = { s with portInputs := s.portInputs ++ [v] } ∧
      ∀ a : Word, (s.portInputs = [] → (s.act (.answerPort v)).portAnswer a = v) ∧
        (∀ u rest, s.portInputs = u :: rest → (s.act (.answerPort v)).portAnswer a = u)))

/-- For every step in which no signal acts: I changes only by LD I,A; IM only by IM m; bit 7 of R only by LD R,A; IFF1
and IFF2 only by DI, EI, RETN and RETI; the signal bits only by HALT, which sets sig.Halted and no other bit; no
step at all changes the parameters. (R28, R29, R33, R34, R35) -/
def Obligations.SystemRegisterWriters : Prop :=
  ∀ s t : State, step s = .next t →
    t.cfg = s.cfg ∧
    (s.signalStep = none →
      (s.nextInstr ≠ .ld_i_a → t.iReg = s.iReg) ∧
      ((∀ m y, s.nextInstr ≠ Instr.im m y) → t.im = s.im) ∧
      (s.nextInstr ≠ .ld_r_a → t.rReg.getLsbD 7 = s.rReg.getLsbD 7) ∧
      (s.nextInstr ≠ .di → s.nextInstr ≠ .ei → (∀ y, s.nextInstr ≠ .retn y) → s.nextInstr ≠ .reti →
        t.iff1 = s.iff1 ∧ t.iff2 = s.iff2) ∧
      t.sig = { s.sig with halted := s.sig.halted || decide (s.nextInstr = .halt) })

/-- For every instruction but the two exchanges, every state and any other shadow values: running it with the other
values gives the same next state with those other values still in place. So it neither reads nor writes a shadow
register. (R22) -/
def Obligations.ShadowsReachedByExchangesOnly : Prop :=
  ∀ (i : Instr) (s : State) (w x y z : Word), i ≠ .ex_af_af → i ≠ .exx →
    ∃ t, exec i s = .next t ∧
      exec i { s with afAlt := w, bcAlt := x, deAlt := y, hlAlt := z } =
        .next { t with afAlt := w, bcAlt := x, deAlt := y, hlAlt := z }

/-- For every state and delay: after contentionDelay(n) the step has the same outcome, and its next state differs at
most in tacts and in the tact stamps of the call log: the two logs hold the same calls, in the same order, with the
same kinds, addresses and bytes. So no register, flag, memory byte or bus call depends on a tact value. On a Bus
without platform delays, tacts are just n more, unless the step is the reset signal, which clears them (that they
come at the end of the cycle is the model's choice, log 16). The same holds under any other tact constants (R4, log
20): the step has the same outcome, and its next state differs only in those constants, in tacts and in the stamps. (R4, R32, R544, R580) -/
def Obligations.TactsAreNeverRead : Prop :=
  ∀ (s : State) (n : BitVec 32),
    (∀ t, step s = .next t → ∃ u, step (s.act (.contentionDelay n)) = .next u ∧
      { u with tacts := t.tacts, log := t.log } = t ∧
      u.log.map (fun c => (c.kind, c.address, c.value)) = t.log.map (fun c => (c.kind, c.address, c.value)) ∧
      (s.cfg.bus.memDelay ≠ .platform → s.cfg.bus.portDelay ≠ .platform →
        u.tacts = t.tacts + n.toNat ∨ (s.sig.reset = true ∧ u.tacts = 0 ∧ t.tacts = 0))) ∧
    (∀ r, step s = .fault r → step (s.act (.contentionDelay n)) = .fault r) ∧
    ∀ k : TactConstants,
      (∀ t, step s = .next t → ∃ u, step { s with cfg.tact := k } = .next u ∧
        u.cfg = { t.cfg with tact := k } ∧ { u with cfg := t.cfg, tacts := t.tacts, log := t.log } = t ∧
        u.log.map (fun c => (c.kind, c.address, c.value)) = t.log.map (fun c => (c.kind, c.address, c.value))) ∧
      (∀ r, step s = .fault r → step { s with cfg.tact := k } = .fault r)

/-- For every state and both values of the flag: the step's outcome is the same, and unless the step is a taken JR, JR
cc or DJNZ its next state is the same but for the flag itself: parameters, bus calls, tacts and all. In a taken
relative jump the next states differ only in the flag and in the call log; tacts in particular are equal at the
tact constants written, on every Bus that adds no tacts to memory calls, as the default does not. (R322, R578) -/
def Obligations.ContentionModeChangesOnlyTheCalls : Prop :=
  ∀ (s : State) (g : Bool),
    (∀ t, step s = .next t → ∃ u, step { s with cfg.useGateArrayContention := g } = .next u ∧
      u.cfg = { t.cfg with useGateArrayContention := g } ∧
      (¬ (s.signalStep = none ∧ TakenRelativeJump s s.nextInstr) → u = { t with cfg.useGateArrayContention := g }) ∧
      (s.WrittenTacts → s.cfg.bus.memDelay = .constant 0 → u.tacts = t.tacts) ∧
      { u with cfg := t.cfg, log := t.log, tacts := t.tacts } = t) ∧
    (∀ r, step s = .fault r → step { s with cfg.useGateArrayContention := g } = .fault r)

/-- For every step: either it is the reset signal, which does Reset() and nothing else, after which tacts is 0 and no
call was made, or tacts do not fall, and grow by at least 4 at the tact constants written; the call log keeps every
earlier call and every step's calls come on top. (R32, R73) -/
def Obligations.TactsAndCallsOnlyGrow : Prop :=
  ∀ s t : State, step s = .next t →
    (∃ calls : List BusCall, t.log = calls ++ s.log) ∧
    ((s.tacts ≤ t.tacts ∧ (s.WrittenTacts → s.tacts + 4 ≤ t.tacts)) ∨
      (t = s.resetOp ∧ s.sig.reset = true ∧ t.tacts = 0 ∧ t.log = s.log))

/-- For every flag byte: NZ, Z, NC, C, PO, PE, P, M hold exactly when F.Z is 0, F.Z is 1, F.C is 0, F.C is 1, F.PV is
0, F.PV is 1, F.S is 0, F.S is 1 (so says R310 too); the four relative conditions are the first four; and the
opcode bytes of JP cc (8 times the code plus C2 hex) and JR cc (20, 28, 30, 38 hex) decode to those conditions in
this order. (R96) -/
def Obligations.ConditionCodes : Prop :=
  (∀ f : Byte,
    condHolds f .nz = !f.getLsbD 6 ∧ condHolds f .z = f.getLsbD 6 ∧ condHolds f .nc = !f.getLsbD 0 ∧
    condHolds f .c = f.getLsbD 0 ∧ condHolds f .po = !f.getLsbD 2 ∧ condHolds f .pe = f.getLsbD 2 ∧
    condHolds f .p = !f.getLsbD 7 ∧ condHolds f .m = f.getLsbD 7 ∧
    relHolds f .nz = !f.getLsbD 6 ∧ relHolds f .z = f.getLsbD 6 ∧ relHolds f .nc = !f.getLsbD 0 ∧
    relHolds f .c = f.getLsbD 0) ∧
  [0xC2#8, 0xCA#8, 0xD2#8, 0xDA#8, 0xE2#8, 0xEA#8, 0xF2#8, 0xFA#8].map (decodeInstr .none .none) =
    [Instr.jpCc .nz, Instr.jpCc .z, Instr.jpCc .nc, Instr.jpCc .c, Instr.jpCc .po, Instr.jpCc .pe, Instr.jpCc .p,
      Instr.jpCc .m] ∧
  [0x20#8, 0x28#8, 0x30#8, 0x38#8].map (decodeInstr .none .none) =
    [Instr.jrCc .nz, Instr.jrCc .z, Instr.jrCc .nc, Instr.jrCc .c]
end

