-- ==== Sys2Proof/Laws/Words.lean ====
section
/-! SUPPORT. The laws of words and their bytes (R21). -/

namespace Sys2Proof

theorem getLsbD_pairOf (h l : Byte) (i : Nat) :
    (pairOf h l).getLsbD i = if i < 8 then l.getLsbD i else h.getLsbD (i - 8) := by
  unfold pairOf
  exact BitVec.getLsbD_append

@[simp] theorem highByte_pairOf (h l : Byte) : highByte (pairOf h l) = h := by
  unfold highByte
  apply BitVec.eq_of_getLsbD_eq
  intro i hi
  simp [getLsbD_pairOf, hi]

@[simp] theorem lowByte_pairOf (h l : Byte) : lowByte (pairOf h l) = l := by
  unfold lowByte
  apply BitVec.eq_of_getLsbD_eq
  intro i hi
  simp [getLsbD_pairOf, hi]

@[simp] theorem pairOf_high_low (v : Word) : pairOf (highByte v) (lowByte v) = v := by
  apply BitVec.eq_of_getLsbD_eq
  intro i hi
  rw [getLsbD_pairOf]
  unfold highByte lowByte
  by_cases h : i < 8
  · simp [h]
  · have h1 : 8 + (i - 8) = i := by omega
    have h2 : i - 8 < 8 := by omega
    simp [h, h1, h2]

end Sys2Proof
end

