-- ==== Sys2Proof/Laws/Encoding.lean ====
section
/-! SUPPORT. The rows of the encoder against the decoder: the latches and the opcode byte a row's bytes lead to, and that the
table entry there is the row. The round trip of byte lists rests on these. -/

namespace Sys2Proof

/-- The latches and the opcode byte that a row's fixed bytes lead to. -/
def rowEntry (c : RowCode) : PrefixMode × IndexMode × Byte :=
  match c.before, c.after with
  | [op], _ => (.none, .none, op)
  | [p, op], [] =>
    if p = 0xDD#8 then (.none, .ix, op) else if p = 0xFD#8 then (.none, .iy, op)
    else if p = 0xCB#8 then (.bit, .none, op) else (.extended, .none, op)
  | p :: _, op :: _ => if p = 0xDD#8 then (.bit, .ix, op) else (.bit, .iy, op)
  | _, _ => (.none, .none, 0x00#8)

/-- The fixed bytes of an entry, before and after its operand bytes (R90, R166). -/
def entryBytes : PrefixMode × IndexMode × Byte → List Byte × List Byte
  | (.none, .none, op) => ([op], [])
  | (.none, .ix, op) => ([0xDD#8, op], [])
  | (.none, .iy, op) => ([0xFD#8, op], [])
  | (.bit, .none, op) => ([0xCB#8, op], [])
  | (.bit, .ix, op) => ([0xDD#8, 0xCB#8], [op])
  | (.bit, .iy, op) => ([0xFD#8, 0xCB#8], [op])
  | (.extended, _, op) => ([0xED#8, op], [])

/-- The `ED` positions no rule assigns are the NOP rows (R485). -/
theorem decodeExtended_undefined : ∀ op : Byte, edUndefined op = true → decodeExtended op = .nopEd op := by decide

/-- A row's bytes are those of its entry. -/
theorem rowCode_bytes (i : Instr) :
    ((rowCode i).before, (rowCode i).after) = entryBytes (rowEntry (rowCode i)) := by
  cases i <;> rfl

/-- The decoder finds the row at its entry. -/
theorem rowEntry_decodes (i : Instr) (h : i.wf = true) :
    decodeInstr (rowEntry (rowCode i)).1 (rowEntry (rowCode i)).2.1 (rowEntry (rowCode i)).2.2 = i := by
  cases i with
  | bit_0_at_ixd z => cases z <;> rfl
  | bit_1_at_ixd z => cases z <;> rfl
  | bit_2_at_ixd z => cases z <;> rfl
  | bit_3_at_ixd z => cases z <;> rfl
  | bit_4_at_ixd z => cases z <;> rfl
  | bit_5_at_ixd z => cases z <;> rfl
  | bit_6_at_ixd z => cases z <;> rfl
  | bit_7_at_ixd z => cases z <;> rfl
  | bit_0_at_iyd z => cases z <;> rfl
  | bit_1_at_iyd z => cases z <;> rfl
  | bit_2_at_iyd z => cases z <;> rfl
  | bit_3_at_iyd z => cases z <;> rfl
  | bit_4_at_iyd z => cases z <;> rfl
  | bit_5_at_iyd z => cases z <;> rfl
  | bit_6_at_iyd z => cases z <;> rfl
  | bit_7_at_iyd z => cases z <;> rfl
  | neg y => cases y <;> rfl
  | retn y => cases y <;> first | rfl | cases h
  | im_0 y => cases y <;> first | rfl | cases h
  | im_1 y => cases y <;> first | rfl | cases h
  | im_2 y => cases y <;> first | rfl | cases h
  | nop_ed op => exact congrArg Form.instr (decodeExtended_undefined op h)
  | _ => rfl

/-- The decoder gives the row its operand bytes. -/
theorem rowEntry_operands (i : Instr) (h : i.wf = true) :
    (decodeForm (rowEntry (rowCode i)).1 (rowEntry (rowCode i)).2.1 (rowEntry (rowCode i)).2.2).operandBytes =
      (rowCode i).operands := by
  cases i with
  | bit_0_at_ixd z => cases z <;> rfl
  | bit_1_at_ixd z => cases z <;> rfl
  | bit_2_at_ixd z => cases z <;> rfl
  | bit_3_at_ixd z => cases z <;> rfl
  | bit_4_at_ixd z => cases z <;> rfl
  | bit_5_at_ixd z => cases z <;> rfl
  | bit_6_at_ixd z => cases z <;> rfl
  | bit_7_at_ixd z => cases z <;> rfl
  | bit_0_at_iyd z => cases z <;> rfl
  | bit_1_at_iyd z => cases z <;> rfl
  | bit_2_at_iyd z => cases z <;> rfl
  | bit_3_at_iyd z => cases z <;> rfl
  | bit_4_at_iyd z => cases z <;> rfl
  | bit_5_at_iyd z => cases z <;> rfl
  | bit_6_at_iyd z => cases z <;> rfl
  | bit_7_at_iyd z => cases z <;> rfl
  | neg y => cases y <;> rfl
  | retn y => cases y <;> rfl
  | im_0 y => cases y <;> rfl
  | im_1 y => cases y <;> rfl
  | im_2 y => cases y <;> rfl
  | nop_ed op => exact congrArg Form.operandBytes (decodeExtended_undefined op h)
  | _ => rfl

/-- The bytes of a row with its operands, by its entry. -/
theorem encode_eq (d : Decoded) : encode d =
    (entryBytes (rowEntry (rowCode d.instr))).1 ++ d.operands ++ (entryBytes (rowEntry (rowCode d.instr))).2 := by
  unfold encode
  rw [← rowCode_bytes]

end Sys2Proof
end

