-- ==== Sys2Proof/Laws/Exec.lean ====
section
/-! SUPPORT. What `exec` does by `Form`: the shared operation of each form, one lemma that every table row of a form runs
it, and that every instruction is a form's row. Provers cite these instead of unfolding `exec`. -/

namespace Sys2Proof.Machine

/-- The shared operation a form runs. -/
def formRun : Form → State → State
  | .ldRegReg r q => ldRegReg r q
  | .ldRegImm r => ldRegImm r
  | .ldRegAtHl r => ldRegAtHl r
  | .ldAtHlReg r => ldAtHlReg r
  | .ldAtHlImm => ldAtHlImm
  | .ldAAtBc => ldAAtBc
  | .ldAAtDe => ldAAtDe
  | .ldAAtNn => ldAAtNn
  | .ldAtBcA => ldAtBcA
  | .ldAtDeA => ldAtDeA
  | .ldAtNnA => ldAtNnA
  | .ldPairImm p => ldPairImm p
  | .ldHlAtNn => ldHlAtNn
  | .ldAtNnHl => ldAtNnHl
  | .ldSpHl => ldSpHl
  | .push p => push p
  | .pop p => pop p
  | .exDeHl => exDeHl
  | .exAf => exAf
  | .exx => exx
  | .exSpHl => exSpHl
  | .aluReg op r => aluReg op r
  | .aluAtHl op => aluAtHl op
  | .aluImm op => aluImm op
  | .incReg r => incReg r
  | .incAtHl => incAtHl
  | .decReg r => decReg r
  | .decAtHl => decAtHl
  | .daa => daa
  | .cpl => cpl
  | .scf => scf
  | .ccf => ccf
  | .rlca => rlca
  | .rrca => rrca
  | .rla => rla
  | .rra => rra
  | .addHl p => addHl p
  | .incPair p => incPair p
  | .decPair p => decPair p
  | .jp => jp
  | .jpCc cc => jpCc cc
  | .jpHl => jpHl
  | .jr => jr
  | .jrCc cc => jrCc cc
  | .djnz => djnz
  | .call => call
  | .callCc cc => callCc cc
  | .ret => ret
  | .retCc cc => retCc cc
  | .rst y => rst y
  | .nop => nop
  | .halt => halt
  | .di => di
  | .ei => ei
  | .inA => inA
  | .outA => outA
  | .prefixCb => prefixCb
  | .prefixDd => prefixDd
  | .prefixEd => prefixEd
  | .prefixFd => prefixFd
  | .ldXyImm x => ldXyImm x
  | .ldAtNnXy x => ldAtNnXy x
  | .ldXyAtNn x => ldXyAtNn x
  | .ldSpXy x => ldSpXy x
  | .pushXy x => pushXy x
  | .popXy x => popXy x
  | .exSpXy x => exSpXy x
  | .jpXy x => jpXy x
  | .addXy x p => addXy x p
  | .incXy x => incXy x
  | .decXy x => decXy x
  | .ldRegXyd x r => ldRegXyd x r
  | .ldXydReg x r => ldXydReg x r
  | .ldXydImm x => ldXydImm x
  | .incXyd x => incXyd x
  | .decXyd x => decXyd x
  | .aluXyd x op => aluXyd x op
  | .ldHalfImm x h => ldHalfImm x h
  | .ldRegHalf x r h => ldRegHalf x r h
  | .ldHalfReg x h r => ldHalfReg x h r
  | .ldHalfHalf x h k => ldHalfHalf x h k
  | .incHalf x h => incHalf x h
  | .decHalf x h => decHalf x h
  | .aluHalf x op h => aluHalf x op h
  | .rotReg k r => rotReg k r
  | .rotAtHl k => rotAtHl k
  | .bitReg b r => bitReg b r
  | .bitAtHl b => bitAtHl b
  | .resReg b r => resReg b r
  | .resAtHl b => resAtHl b
  | .setReg b r => setBitReg b r
  | .setAtHl b => setAtHl b
  | .rotXyd x k => rotXyd x k
  | .rotXydCopy x k r => rotXydCopy x k r
  | .bitXyd x b _ => bitXyd x b
  | .resXyd x b => resXyd x b
  | .resXydCopy x b r => resXydCopy x b r
  | .setXyd x b => setXyd x b
  | .setXydCopy x b r => setXydCopy x b r
  | .inReg r => inReg r
  | .inFlags => inFlags
  | .outReg r => outReg r
  | .outZero => outZero
  | .sbcHl p => sbcHl p
  | .adcHl p => adcHl p
  | .ldAtNnPair p => ldAtNnPair p
  | .ldPairAtNn p => ldPairAtNn p
  | .neg _ => neg
  | .retn _ => retn
  | .reti => reti
  | .im m _ => im m
  | .ldIA => ldIA
  | .ldRA => ldRA
  | .ldAI => ldAI
  | .ldAR => ldAR
  | .rrd => rrd
  | .rld => rld
  | .ldi => ldi
  | .ldd => ldd
  | .ldir => ldir
  | .lddr => lddr
  | .cpi => cpi
  | .cpd => cpd
  | .cpir => cpir
  | .cpdr => cpdr
  | .ini => ini
  | .ind => ind
  | .inir => inir
  | .indr => indr
  | .outi => outi
  | .outd => outd
  | .otir => otir
  | .otdr => otdr
  | .nopEd _ => nopEd

theorem exec_instr (f : Form) (s : State) : exec f.instr s = .next (formRun f s) := by
  cases f with
  | ldRegReg r q => cases r <;> cases q <;> rfl
  | ldRegImm r => cases r <;> rfl
  | ldRegAtHl r => cases r <;> rfl
  | ldAtHlReg r => cases r <;> rfl
  | ldAtHlImm => rfl
  | ldAAtBc => rfl
  | ldAAtDe => rfl
  | ldAAtNn => rfl
  | ldAtBcA => rfl
  | ldAtDeA => rfl
  | ldAtNnA => rfl
  | ldPairImm p => cases p <;> rfl
  | ldHlAtNn => rfl
  | ldAtNnHl => rfl
  | ldSpHl => rfl
  | push p => cases p <;> rfl
  | pop p => cases p <;> rfl
  | exDeHl => rfl
  | exAf => rfl
  | exx => rfl
  | exSpHl => rfl
  | aluReg op r => cases op <;> cases r <;> rfl
  | aluAtHl op => cases op <;> rfl
  | aluImm op => cases op <;> rfl
  | incReg r => cases r <;> rfl
  | incAtHl => rfl
  | decReg r => cases r <;> rfl
  | decAtHl => rfl
  | daa => rfl
  | cpl => rfl
  | scf => rfl
  | ccf => rfl
  | rlca => rfl
  | rrca => rfl
  | rla => rfl
  | rra => rfl
  | addHl p => cases p <;> rfl
  | incPair p => cases p <;> rfl
  | decPair p => cases p <;> rfl
  | jp => rfl
  | jpCc cc => cases cc <;> rfl
  | jpHl => rfl
  | jr => rfl
  | jrCc cc => cases cc <;> rfl
  | djnz => rfl
  | call => rfl
  | callCc cc => cases cc <;> rfl
  | ret => rfl
  | retCc cc => cases cc <;> rfl
  | rst y => cases y <;> rfl
  | nop => rfl
  | halt => rfl
  | di => rfl
  | ei => rfl
  | inA => rfl
  | outA => rfl
  | prefixCb => rfl
  | prefixDd => rfl
  | prefixEd => rfl
  | prefixFd => rfl
  | ldXyImm x => cases x <;> rfl
  | ldAtNnXy x => cases x <;> rfl
  | ldXyAtNn x => cases x <;> rfl
  | ldSpXy x => cases x <;> rfl
  | pushXy x => cases x <;> rfl
  | popXy x => cases x <;> rfl
  | exSpXy x => cases x <;> rfl
  | jpXy x => cases x <;> rfl
  | addXy x p => cases x <;> cases p <;> rfl
  | incXy x => cases x <;> rfl
  | decXy x => cases x <;> rfl
  | ldRegXyd x r => cases x <;> cases r <;> rfl
  | ldXydReg x r => cases x <;> cases r <;> rfl
  | ldXydImm x => cases x <;> rfl
  | incXyd x => cases x <;> rfl
  | decXyd x => cases x <;> rfl
  | aluXyd x op => cases x <;> cases op <;> rfl
  | ldHalfImm x h => cases x <;> cases h <;> rfl
  | ldRegHalf x r h => cases x <;> cases r <;> cases h <;> rfl
  | ldHalfReg x h r => cases x <;> cases h <;> cases r <;> rfl
  | ldHalfHalf x h k => cases x <;> cases h <;> cases k <;> rfl
  | incHalf x h => cases x <;> cases h <;> rfl
  | decHalf x h => cases x <;> cases h <;> rfl
  | aluHalf x op h => cases x <;> cases op <;> cases h <;> rfl
  | rotReg k r => cases k <;> cases r <;> rfl
  | rotAtHl k => cases k <;> rfl
  | bitReg b r => cases b <;> cases r <;> rfl
  | bitAtHl b => cases b <;> rfl
  | resReg b r => cases b <;> cases r <;> rfl
  | resAtHl b => cases b <;> rfl
  | setReg b r => cases b <;> cases r <;> rfl
  | setAtHl b => cases b <;> rfl
  | rotXyd x k => cases x <;> cases k <;> rfl
  | rotXydCopy x k r => cases x <;> cases k <;> cases r <;> rfl
  | bitXyd x b z => cases x <;> cases b <;> rfl
  | resXyd x b => cases x <;> cases b <;> rfl
  | resXydCopy x b r => cases x <;> cases b <;> cases r <;> rfl
  | setXyd x b => cases x <;> cases b <;> rfl
  | setXydCopy x b r => cases x <;> cases b <;> cases r <;> rfl
  | inReg r => cases r <;> rfl
  | inFlags => rfl
  | outReg r => cases r <;> rfl
  | outZero => rfl
  | sbcHl p => cases p <;> rfl
  | adcHl p => cases p <;> rfl
  | ldAtNnPair p => cases p <;> rfl
  | ldPairAtNn p => cases p <;> rfl
  | neg y => rfl
  | retn y => rfl
  | reti => rfl
  | im m y => cases m <;> rfl
  | ldIA => rfl
  | ldRA => rfl
  | ldAI => rfl
  | ldAR => rfl
  | rrd => rfl
  | rld => rfl
  | ldi => rfl
  | ldd => rfl
  | ldir => rfl
  | lddr => rfl
  | cpi => rfl
  | cpd => rfl
  | cpir => rfl
  | cpdr => rfl
  | ini => rfl
  | ind => rfl
  | inir => rfl
  | indr => rfl
  | outi => rfl
  | outd => rfl
  | otir => rfl
  | otdr => rfl
  | nopEd op => rfl

/-! ## What `exec` answers for the rows of each form -/

theorem run_ldRegReg (r : Reg8) (q : Reg8) (s : State) :
    exec (Instr.ldRegReg r q) s = .next (ldRegReg r q s) := exec_instr (.ldRegReg r q) s

theorem run_ldRegImm (r : Reg8) (s : State) :
    exec (Instr.ldRegImm r) s = .next (ldRegImm r s) := exec_instr (.ldRegImm r) s

theorem run_ldRegAtHl (r : Reg8) (s : State) :
    exec (Instr.ldRegAtHl r) s = .next (ldRegAtHl r s) := exec_instr (.ldRegAtHl r) s

theorem run_ldAtHlReg (r : Reg8) (s : State) :
    exec (Instr.ldAtHlReg r) s = .next (ldAtHlReg r s) := exec_instr (.ldAtHlReg r) s

theorem run_ldAtHlImm (s : State) :
    exec Instr.ld_at_hl_n s = .next (ldAtHlImm s) := exec_instr .ldAtHlImm s

theorem run_ldAAtBc (s : State) :
    exec Instr.ld_a_at_bc s = .next (ldAAtBc s) := exec_instr .ldAAtBc s

theorem run_ldAAtDe (s : State) :
    exec Instr.ld_a_at_de s = .next (ldAAtDe s) := exec_instr .ldAAtDe s

theorem run_ldAAtNn (s : State) :
    exec Instr.ld_a_at_nn s = .next (ldAAtNn s) := exec_instr .ldAAtNn s

theorem run_ldAtBcA (s : State) :
    exec Instr.ld_at_bc_a s = .next (ldAtBcA s) := exec_instr .ldAtBcA s

theorem run_ldAtDeA (s : State) :
    exec Instr.ld_at_de_a s = .next (ldAtDeA s) := exec_instr .ldAtDeA s

theorem run_ldAtNnA (s : State) :
    exec Instr.ld_at_nn_a s = .next (ldAtNnA s) := exec_instr .ldAtNnA s

theorem run_ldPairImm (p : Pair) (s : State) :
    exec (Instr.ldPairImm p) s = .next (ldPairImm p s) := exec_instr (.ldPairImm p) s

theorem run_ldHlAtNn (s : State) :
    exec Instr.ld_hl_at_nn s = .next (ldHlAtNn s) := exec_instr .ldHlAtNn s

theorem run_ldAtNnHl (s : State) :
    exec Instr.ld_at_nn_hl s = .next (ldAtNnHl s) := exec_instr .ldAtNnHl s

theorem run_ldSpHl (s : State) :
    exec Instr.ld_sp_hl s = .next (ldSpHl s) := exec_instr .ldSpHl s

theorem run_push (p : QPair) (s : State) :
    exec (Instr.push p) s = .next (push p s) := exec_instr (.push p) s

theorem run_pop (p : QPair) (s : State) :
    exec (Instr.pop p) s = .next (pop p s) := exec_instr (.pop p) s

theorem run_exDeHl (s : State) :
    exec Instr.ex_de_hl s = .next (exDeHl s) := exec_instr .exDeHl s

theorem run_exAf (s : State) :
    exec Instr.ex_af_af s = .next (exAf s) := exec_instr .exAf s

theorem run_exx (s : State) :
    exec Instr.exx s = .next (exx s) := exec_instr .exx s

theorem run_exSpHl (s : State) :
    exec Instr.ex_at_sp_hl s = .next (exSpHl s) := exec_instr .exSpHl s

theorem run_aluReg (op : AluOp) (r : Reg8) (s : State) :
    exec (Instr.aluReg op r) s = .next (aluReg op r s) := exec_instr (.aluReg op r) s

theorem run_aluAtHl (op : AluOp) (s : State) :
    exec (Instr.aluAtHl op) s = .next (aluAtHl op s) := exec_instr (.aluAtHl op) s

theorem run_aluImm (op : AluOp) (s : State) :
    exec (Instr.aluImm op) s = .next (aluImm op s) := exec_instr (.aluImm op) s

theorem run_incReg (r : Reg8) (s : State) :
    exec (Instr.incReg r) s = .next (incReg r s) := exec_instr (.incReg r) s

theorem run_incAtHl (s : State) :
    exec Instr.inc_at_hl s = .next (incAtHl s) := exec_instr .incAtHl s

theorem run_decReg (r : Reg8) (s : State) :
    exec (Instr.decReg r) s = .next (decReg r s) := exec_instr (.decReg r) s

theorem run_decAtHl (s : State) :
    exec Instr.dec_at_hl s = .next (decAtHl s) := exec_instr .decAtHl s

theorem run_daa (s : State) :
    exec Instr.daa s = .next (daa s) := exec_instr .daa s

theorem run_cpl (s : State) :
    exec Instr.cpl s = .next (cpl s) := exec_instr .cpl s

theorem run_scf (s : State) :
    exec Instr.scf s = .next (scf s) := exec_instr .scf s

theorem run_ccf (s : State) :
    exec Instr.ccf s = .next (ccf s) := exec_instr .ccf s

theorem run_rlca (s : State) :
    exec Instr.rlca s = .next (rlca s) := exec_instr .rlca s

theorem run_rrca (s : State) :
    exec Instr.rrca s = .next (rrca s) := exec_instr .rrca s

theorem run_rla (s : State) :
    exec Instr.rla s = .next (rla s) := exec_instr .rla s

theorem run_rra (s : State) :
    exec Instr.rra s = .next (rra s) := exec_instr .rra s

theorem run_addHl (p : Pair) (s : State) :
    exec (Instr.addHl p) s = .next (addHl p s) := exec_instr (.addHl p) s

theorem run_incPair (p : Pair) (s : State) :
    exec (Instr.incPair p) s = .next (incPair p s) := exec_instr (.incPair p) s

theorem run_decPair (p : Pair) (s : State) :
    exec (Instr.decPair p) s = .next (decPair p s) := exec_instr (.decPair p) s

theorem run_jp (s : State) :
    exec Instr.jp_nn s = .next (jp s) := exec_instr .jp s

theorem run_jpCc (cc : Cond) (s : State) :
    exec (Instr.jpCc cc) s = .next (jpCc cc s) := exec_instr (.jpCc cc) s

theorem run_jpHl (s : State) :
    exec Instr.jp_at_hl s = .next (jpHl s) := exec_instr .jpHl s

theorem run_jr (s : State) :
    exec Instr.jr_e s = .next (jr s) := exec_instr .jr s

theorem run_jrCc (cc : RelCond) (s : State) :
    exec (Instr.jrCc cc) s = .next (jrCc cc s) := exec_instr (.jrCc cc) s

theorem run_djnz (s : State) :
    exec Instr.djnz_e s = .next (djnz s) := exec_instr .djnz s

theorem run_call (s : State) :
    exec Instr.call_nn s = .next (call s) := exec_instr .call s

theorem run_callCc (cc : Cond) (s : State) :
    exec (Instr.callCc cc) s = .next (callCc cc s) := exec_instr (.callCc cc) s

theorem run_ret (s : State) :
    exec Instr.ret s = .next (ret s) := exec_instr .ret s

theorem run_retCc (cc : Cond) (s : State) :
    exec (Instr.retCc cc) s = .next (retCc cc s) := exec_instr (.retCc cc) s

theorem run_rst (y : BitNo) (s : State) :
    exec (Instr.rst y) s = .next (rst y s) := exec_instr (.rst y) s

theorem run_nop (s : State) :
    exec Instr.nop s = .next (nop s) := exec_instr .nop s

theorem run_halt (s : State) :
    exec Instr.halt s = .next (halt s) := exec_instr .halt s

theorem run_di (s : State) :
    exec Instr.di s = .next (di s) := exec_instr .di s

theorem run_ei (s : State) :
    exec Instr.ei s = .next (ei s) := exec_instr .ei s

theorem run_inA (s : State) :
    exec Instr.in_a_at_n s = .next (inA s) := exec_instr .inA s

theorem run_outA (s : State) :
    exec Instr.out_at_n_a s = .next (outA s) := exec_instr .outA s

theorem run_prefixCb (s : State) :
    exec Instr.prefix_cb s = .next (prefixCb s) := exec_instr .prefixCb s

theorem run_prefixDd (s : State) :
    exec Instr.prefix_dd s = .next (prefixDd s) := exec_instr .prefixDd s

theorem run_prefixEd (s : State) :
    exec Instr.prefix_ed s = .next (prefixEd s) := exec_instr .prefixEd s

theorem run_prefixFd (s : State) :
    exec Instr.prefix_fd s = .next (prefixFd s) := exec_instr .prefixFd s

theorem run_ldXyImm (x : XY) (s : State) :
    exec (Instr.ldXyImm x) s = .next (ldXyImm x s) := exec_instr (.ldXyImm x) s

theorem run_ldAtNnXy (x : XY) (s : State) :
    exec (Instr.ldAtNnXy x) s = .next (ldAtNnXy x s) := exec_instr (.ldAtNnXy x) s

theorem run_ldXyAtNn (x : XY) (s : State) :
    exec (Instr.ldXyAtNn x) s = .next (ldXyAtNn x s) := exec_instr (.ldXyAtNn x) s

theorem run_ldSpXy (x : XY) (s : State) :
    exec (Instr.ldSpXy x) s = .next (ldSpXy x s) := exec_instr (.ldSpXy x) s

theorem run_pushXy (x : XY) (s : State) :
    exec (Instr.pushXy x) s = .next (pushXy x s) := exec_instr (.pushXy x) s

theorem run_popXy (x : XY) (s : State) :
    exec (Instr.popXy x) s = .next (popXy x s) := exec_instr (.popXy x) s

theorem run_exSpXy (x : XY) (s : State) :
    exec (Instr.exSpXy x) s = .next (exSpXy x s) := exec_instr (.exSpXy x) s

theorem run_jpXy (x : XY) (s : State) :
    exec (Instr.jpXy x) s = .next (jpXy x s) := exec_instr (.jpXy x) s

theorem run_addXy (x : XY) (p : Pair) (s : State) :
    exec (Instr.addXy x p) s = .next (addXy x p s) := exec_instr (.addXy x p) s

theorem run_incXy (x : XY) (s : State) :
    exec (Instr.incXy x) s = .next (incXy x s) := exec_instr (.incXy x) s

theorem run_decXy (x : XY) (s : State) :
    exec (Instr.decXy x) s = .next (decXy x s) := exec_instr (.decXy x) s

theorem run_ldRegXyd (x : XY) (r : Reg8) (s : State) :
    exec (Instr.ldRegXyd x r) s = .next (ldRegXyd x r s) := exec_instr (.ldRegXyd x r) s

theorem run_ldXydReg (x : XY) (r : Reg8) (s : State) :
    exec (Instr.ldXydReg x r) s = .next (ldXydReg x r s) := exec_instr (.ldXydReg x r) s

theorem run_ldXydImm (x : XY) (s : State) :
    exec (Instr.ldXydImm x) s = .next (ldXydImm x s) := exec_instr (.ldXydImm x) s

theorem run_incXyd (x : XY) (s : State) :
    exec (Instr.incXyd x) s = .next (incXyd x s) := exec_instr (.incXyd x) s

theorem run_decXyd (x : XY) (s : State) :
    exec (Instr.decXyd x) s = .next (decXyd x s) := exec_instr (.decXyd x) s

theorem run_aluXyd (x : XY) (op : AluOp) (s : State) :
    exec (Instr.aluXyd x op) s = .next (aluXyd x op s) := exec_instr (.aluXyd x op) s

theorem run_ldHalfImm (x : XY) (h : Half) (s : State) :
    exec (Instr.ldHalfImm x h) s = .next (ldHalfImm x h s) := exec_instr (.ldHalfImm x h) s

theorem run_ldRegHalf (x : XY) (r : PlainReg) (h : Half) (s : State) :
    exec (Instr.ldRegHalf x r h) s = .next (ldRegHalf x r h s) := exec_instr (.ldRegHalf x r h) s

theorem run_ldHalfReg (x : XY) (h : Half) (r : PlainReg) (s : State) :
    exec (Instr.ldHalfReg x h r) s = .next (ldHalfReg x h r s) := exec_instr (.ldHalfReg x h r) s

theorem run_ldHalfHalf (x : XY) (h : Half) (k : Half) (s : State) :
    exec (Instr.ldHalfHalf x h k) s = .next (ldHalfHalf x h k s) := exec_instr (.ldHalfHalf x h k) s

theorem run_incHalf (x : XY) (h : Half) (s : State) :
    exec (Instr.incHalf x h) s = .next (incHalf x h s) := exec_instr (.incHalf x h) s

theorem run_decHalf (x : XY) (h : Half) (s : State) :
    exec (Instr.decHalf x h) s = .next (decHalf x h s) := exec_instr (.decHalf x h) s

theorem run_aluHalf (x : XY) (op : AluOp) (h : Half) (s : State) :
    exec (Instr.aluHalf x op h) s = .next (aluHalf x op h s) := exec_instr (.aluHalf x op h) s

theorem run_rotReg (k : RotOp) (r : Reg8) (s : State) :
    exec (Instr.rotReg k r) s = .next (rotReg k r s) := exec_instr (.rotReg k r) s

theorem run_rotAtHl (k : RotOp) (s : State) :
    exec (Instr.rotAtHl k) s = .next (rotAtHl k s) := exec_instr (.rotAtHl k) s

theorem run_bitReg (b : BitNo) (r : Reg8) (s : State) :
    exec (Instr.bitReg b r) s = .next (bitReg b r s) := exec_instr (.bitReg b r) s

theorem run_bitAtHl (b : BitNo) (s : State) :
    exec (Instr.bitAtHl b) s = .next (bitAtHl b s) := exec_instr (.bitAtHl b) s

theorem run_resReg (b : BitNo) (r : Reg8) (s : State) :
    exec (Instr.resReg b r) s = .next (resReg b r s) := exec_instr (.resReg b r) s

theorem run_resAtHl (b : BitNo) (s : State) :
    exec (Instr.resAtHl b) s = .next (resAtHl b s) := exec_instr (.resAtHl b) s

theorem run_setReg (b : BitNo) (r : Reg8) (s : State) :
    exec (Instr.setReg b r) s = .next (setBitReg b r s) := exec_instr (.setReg b r) s

theorem run_setAtHl (b : BitNo) (s : State) :
    exec (Instr.setAtHl b) s = .next (setAtHl b s) := exec_instr (.setAtHl b) s

theorem run_rotXyd (x : XY) (k : RotOp) (s : State) :
    exec (Instr.rotXyd x k) s = .next (rotXyd x k s) := exec_instr (.rotXyd x k) s

theorem run_rotXydCopy (x : XY) (k : RotOp) (r : Reg8) (s : State) :
    exec (Instr.rotXydCopy x k r) s = .next (rotXydCopy x k r s) := exec_instr (.rotXydCopy x k r) s

theorem run_bitXyd (x : XY) (b : BitNo) (z : BitNo) (s : State) :
    exec (Instr.bitXyd x b z) s = .next (bitXyd x b s) := exec_instr (.bitXyd x b z) s

theorem run_resXyd (x : XY) (b : BitNo) (s : State) :
    exec (Instr.resXyd x b) s = .next (resXyd x b s) := exec_instr (.resXyd x b) s

theorem run_resXydCopy (x : XY) (b : BitNo) (r : Reg8) (s : State) :
    exec (Instr.resXydCopy x b r) s = .next (resXydCopy x b r s) := exec_instr (.resXydCopy x b r) s

theorem run_setXyd (x : XY) (b : BitNo) (s : State) :
    exec (Instr.setXyd x b) s = .next (setXyd x b s) := exec_instr (.setXyd x b) s

theorem run_setXydCopy (x : XY) (b : BitNo) (r : Reg8) (s : State) :
    exec (Instr.setXydCopy x b r) s = .next (setXydCopy x b r s) := exec_instr (.setXydCopy x b r) s

theorem run_inReg (r : Reg8) (s : State) :
    exec (Instr.inReg r) s = .next (inReg r s) := exec_instr (.inReg r) s

theorem run_inFlags (s : State) :
    exec Instr.in_at_c s = .next (inFlags s) := exec_instr .inFlags s

theorem run_outReg (r : Reg8) (s : State) :
    exec (Instr.outReg r) s = .next (outReg r s) := exec_instr (.outReg r) s

theorem run_outZero (s : State) :
    exec Instr.out_at_c_0 s = .next (outZero s) := exec_instr .outZero s

theorem run_sbcHl (p : Pair) (s : State) :
    exec (Instr.sbcHl p) s = .next (sbcHl p s) := exec_instr (.sbcHl p) s

theorem run_adcHl (p : Pair) (s : State) :
    exec (Instr.adcHl p) s = .next (adcHl p s) := exec_instr (.adcHl p) s

theorem run_ldAtNnPair (p : Pair) (s : State) :
    exec (Instr.ldAtNnPair p) s = .next (ldAtNnPair p s) := exec_instr (.ldAtNnPair p) s

theorem run_ldPairAtNn (p : Pair) (s : State) :
    exec (Instr.ldPairAtNn p) s = .next (ldPairAtNn p s) := exec_instr (.ldPairAtNn p) s

theorem run_neg (y : BitNo) (s : State) :
    exec (Instr.neg y) s = .next (neg s) := exec_instr (.neg y) s

theorem run_retn (y : BitNo) (s : State) :
    exec (Instr.retn y) s = .next (retn s) := exec_instr (.retn y) s

theorem run_reti (s : State) :
    exec Instr.reti s = .next (reti s) := exec_instr .reti s

theorem run_im (m : IntMode) (y : BitNo) (s : State) :
    exec (Instr.im m y) s = .next (im m s) := exec_instr (.im m y) s

theorem run_ldIA (s : State) :
    exec Instr.ld_i_a s = .next (ldIA s) := exec_instr .ldIA s

theorem run_ldRA (s : State) :
    exec Instr.ld_r_a s = .next (ldRA s) := exec_instr .ldRA s

theorem run_ldAI (s : State) :
    exec Instr.ld_a_i s = .next (ldAI s) := exec_instr .ldAI s

theorem run_ldAR (s : State) :
    exec Instr.ld_a_r s = .next (ldAR s) := exec_instr .ldAR s

theorem run_rrd (s : State) :
    exec Instr.rrd s = .next (rrd s) := exec_instr .rrd s

theorem run_rld (s : State) :
    exec Instr.rld s = .next (rld s) := exec_instr .rld s

theorem run_ldi (s : State) :
    exec Instr.ldi s = .next (ldi s) := exec_instr .ldi s

theorem run_ldd (s : State) :
    exec Instr.ldd s = .next (ldd s) := exec_instr .ldd s

theorem run_ldir (s : State) :
    exec Instr.ldir s = .next (ldir s) := exec_instr .ldir s

theorem run_lddr (s : State) :
    exec Instr.lddr s = .next (lddr s) := exec_instr .lddr s

theorem run_cpi (s : State) :
    exec Instr.cpi s = .next (cpi s) := exec_instr .cpi s

theorem run_cpd (s : State) :
    exec Instr.cpd s = .next (cpd s) := exec_instr .cpd s

theorem run_cpir (s : State) :
    exec Instr.cpir s = .next (cpir s) := exec_instr .cpir s

theorem run_cpdr (s : State) :
    exec Instr.cpdr s = .next (cpdr s) := exec_instr .cpdr s

theorem run_ini (s : State) :
    exec Instr.ini s = .next (ini s) := exec_instr .ini s

theorem run_ind (s : State) :
    exec Instr.ind s = .next (ind s) := exec_instr .ind s

theorem run_inir (s : State) :
    exec Instr.inir s = .next (inir s) := exec_instr .inir s

theorem run_indr (s : State) :
    exec Instr.indr s = .next (indr s) := exec_instr .indr s

theorem run_outi (s : State) :
    exec Instr.outi s = .next (outi s) := exec_instr .outi s

theorem run_outd (s : State) :
    exec Instr.outd s = .next (outd s) := exec_instr .outd s

theorem run_otir (s : State) :
    exec Instr.otir s = .next (otir s) := exec_instr .otir s

theorem run_otdr (s : State) :
    exec Instr.otdr s = .next (otdr s) := exec_instr .otdr s

theorem run_nopEd (op : Byte) (s : State) :
    exec (Instr.nop_ed op) s = .next (nopEd s) := exec_instr (.nopEd op) s

/-- The form of a table row. -/
def formOf : Instr → Form
  | .bit_0_at_ixd z => .bitXyd .ix .b0 z
  | .bit_1_at_ixd z => .bitXyd .ix .b1 z
  | .bit_2_at_ixd z => .bitXyd .ix .b2 z
  | .bit_3_at_ixd z => .bitXyd .ix .b3 z
  | .bit_4_at_ixd z => .bitXyd .ix .b4 z
  | .bit_5_at_ixd z => .bitXyd .ix .b5 z
  | .bit_6_at_ixd z => .bitXyd .ix .b6 z
  | .bit_7_at_ixd z => .bitXyd .ix .b7 z
  | .bit_0_at_iyd z => .bitXyd .iy .b0 z
  | .bit_1_at_iyd z => .bitXyd .iy .b1 z
  | .bit_2_at_iyd z => .bitXyd .iy .b2 z
  | .bit_3_at_iyd z => .bitXyd .iy .b3 z
  | .bit_4_at_iyd z => .bitXyd .iy .b4 z
  | .bit_5_at_iyd z => .bitXyd .iy .b5 z
  | .bit_6_at_iyd z => .bitXyd .iy .b6 z
  | .bit_7_at_iyd z => .bitXyd .iy .b7 z
  | .nop_ed op => .nopEd op
  | .neg y => .neg y
  | .retn y => .retn y
  | .im_0 y => .im .im0 y
  | .im_1 y => .im .im1 y
  | .im_2 y => .im .im2 y
  | .nop => .nop
  | .ld_bc_nn => .ldPairImm .bc
  | .ld_at_bc_a => .ldAtBcA
  | .inc_bc => .incPair .bc
  | .inc_b => .incReg .b
  | .dec_b => .decReg .b
  | .ld_b_n => .ldRegImm .b
  | .rlca => .rlca
  | .ex_af_af => .exAf
  | .add_hl_bc => .addHl .bc
  | .ld_a_at_bc => .ldAAtBc
  | .dec_bc => .decPair .bc
  | .inc_c => .incReg .c
  | .dec_c => .decReg .c
  | .ld_c_n => .ldRegImm .c
  | .rrca => .rrca
  | .djnz_e => .djnz
  | .ld_de_nn => .ldPairImm .de
  | .ld_at_de_a => .ldAtDeA
  | .inc_de => .incPair .de
  | .inc_d => .incReg .d
  | .dec_d => .decReg .d
  | .ld_d_n => .ldRegImm .d
  | .rla => .rla
  | .jr_e => .jr
  | .add_hl_de => .addHl .de
  | .ld_a_at_de => .ldAAtDe
  | .dec_de => .decPair .de
  | .inc_e => .incReg .e
  | .dec_e => .decReg .e
  | .ld_e_n => .ldRegImm .e
  | .rra => .rra
  | .jr_nz_e => .jrCc .nz
  | .ld_hl_nn => .ldPairImm .hl
  | .ld_at_nn_hl => .ldAtNnHl
  | .inc_hl => .incPair .hl
  | .inc_h => .incReg .h
  | .dec_h => .decReg .h
  | .ld_h_n => .ldRegImm .h
  | .daa => .daa
  | .jr_z_e => .jrCc .z
  | .add_hl_hl => .addHl .hl
  | .ld_hl_at_nn => .ldHlAtNn
  | .dec_hl => .decPair .hl
  | .inc_l => .incReg .l
  | .dec_l => .decReg .l
  | .ld_l_n => .ldRegImm .l
  | .cpl => .cpl
  | .jr_nc_e => .jrCc .nc
  | .ld_sp_nn => .ldPairImm .sp
  | .ld_at_nn_a => .ldAtNnA
  | .inc_sp => .incPair .sp
  | .inc_at_hl => .incAtHl
  | .dec_at_hl => .decAtHl
  | .ld_at_hl_n => .ldAtHlImm
  | .scf => .scf
  | .jr_c_e => .jrCc .c
  | .add_hl_sp => .addHl .sp
  | .ld_a_at_nn => .ldAAtNn
  | .dec_sp => .decPair .sp
  | .inc_a => .incReg .a
  | .dec_a => .decReg .a
  | .ld_a_n => .ldRegImm .a
  | .ccf => .ccf
  | .ld_b_b => .ldRegReg .b .b
  | .ld_b_c => .ldRegReg .b .c
  | .ld_b_d => .ldRegReg .b .d
  | .ld_b_e => .ldRegReg .b .e
  | .ld_b_h => .ldRegReg .b .h
  | .ld_b_l => .ldRegReg .b .l
  | .ld_b_at_hl => .ldRegAtHl .b
  | .ld_b_a => .ldRegReg .b .a
  | .ld_c_b => .ldRegReg .c .b
  | .ld_c_c => .ldRegReg .c .c
  | .ld_c_d => .ldRegReg .c .d
  | .ld_c_e => .ldRegReg .c .e
  | .ld_c_h => .ldRegReg .c .h
  | .ld_c_l => .ldRegReg .c .l
  | .ld_c_at_hl => .ldRegAtHl .c
  | .ld_c_a => .ldRegReg .c .a
  | .ld_d_b => .ldRegReg .d .b
  | .ld_d_c => .ldRegReg .d .c
  | .ld_d_d => .ldRegReg .d .d
  | .ld_d_e => .ldRegReg .d .e
  | .ld_d_h => .ldRegReg .d .h
  | .ld_d_l => .ldRegReg .d .l
  | .ld_d_at_hl => .ldRegAtHl .d
  | .ld_d_a => .ldRegReg .d .a
  | .ld_e_b => .ldRegReg .e .b
  | .ld_e_c => .ldRegReg .e .c
  | .ld_e_d => .ldRegReg .e .d
  | .ld_e_e => .ldRegReg .e .e
  | .ld_e_h => .ldRegReg .e .h
  | .ld_e_l => .ldRegReg .e .l
  | .ld_e_at_hl => .ldRegAtHl .e
  | .ld_e_a => .ldRegReg .e .a
  | .ld_h_b => .ldRegReg .h .b
  | .ld_h_c => .ldRegReg .h .c
  | .ld_h_d => .ldRegReg .h .d
  | .ld_h_e => .ldRegReg .h .e
  | .ld_h_h => .ldRegReg .h .h
  | .ld_h_l => .ldRegReg .h .l
  | .ld_h_at_hl => .ldRegAtHl .h
  | .ld_h_a => .ldRegReg .h .a
  | .ld_l_b => .ldRegReg .l .b
  | .ld_l_c => .ldRegReg .l .c
  | .ld_l_d => .ldRegReg .l .d
  | .ld_l_e => .ldRegReg .l .e
  | .ld_l_h => .ldRegReg .l .h
  | .ld_l_l => .ldRegReg .l .l
  | .ld_l_at_hl => .ldRegAtHl .l
  | .ld_l_a => .ldRegReg .l .a
  | .ld_at_hl_b => .ldAtHlReg .b
  | .ld_at_hl_c => .ldAtHlReg .c
  | .ld_at_hl_d => .ldAtHlReg .d
  | .ld_at_hl_e => .ldAtHlReg .e
  | .ld_at_hl_h => .ldAtHlReg .h
  | .ld_at_hl_l => .ldAtHlReg .l
  | .halt => .halt
  | .ld_at_hl_a => .ldAtHlReg .a
  | .ld_a_b => .ldRegReg .a .b
  | .ld_a_c => .ldRegReg .a .c
  | .ld_a_d => .ldRegReg .a .d
  | .ld_a_e => .ldRegReg .a .e
  | .ld_a_h => .ldRegReg .a .h
  | .ld_a_l => .ldRegReg .a .l
  | .ld_a_at_hl => .ldRegAtHl .a
  | .ld_a_a => .ldRegReg .a .a
  | .add_a_b => .aluReg .add .b
  | .add_a_c => .aluReg .add .c
  | .add_a_d => .aluReg .add .d
  | .add_a_e => .aluReg .add .e
  | .add_a_h => .aluReg .add .h
  | .add_a_l => .aluReg .add .l
  | .add_a_at_hl => .aluAtHl .add
  | .add_a_a => .aluReg .add .a
  | .adc_a_b => .aluReg .adc .b
  | .adc_a_c => .aluReg .adc .c
  | .adc_a_d => .aluReg .adc .d
  | .adc_a_e => .aluReg .adc .e
  | .adc_a_h => .aluReg .adc .h
  | .adc_a_l => .aluReg .adc .l
  | .adc_a_at_hl => .aluAtHl .adc
  | .adc_a_a => .aluReg .adc .a
  | .sub_b => .aluReg .sub .b
  | .sub_c => .aluReg .sub .c
  | .sub_d => .aluReg .sub .d
  | .sub_e => .aluReg .sub .e
  | .sub_h => .aluReg .sub .h
  | .sub_l => .aluReg .sub .l
  | .sub_at_hl => .aluAtHl .sub
  | .sub_a => .aluReg .sub .a
  | .sbc_a_b => .aluReg .sbc .b
  | .sbc_a_c => .aluReg .sbc .c
  | .sbc_a_d => .aluReg .sbc .d
  | .sbc_a_e => .aluReg .sbc .e
  | .sbc_a_h => .aluReg .sbc .h
  | .sbc_a_l => .aluReg .sbc .l
  | .sbc_a_at_hl => .aluAtHl .sbc
  | .sbc_a_a => .aluReg .sbc .a
  | .and_b => .aluReg .and .b
  | .and_c => .aluReg .and .c
  | .and_d => .aluReg .and .d
  | .and_e => .aluReg .and .e
  | .and_h => .aluReg .and .h
  | .and_l => .aluReg .and .l
  | .and_at_hl => .aluAtHl .and
  | .and_a => .aluReg .and .a
  | .xor_b => .aluReg .xor .b
  | .xor_c => .aluReg .xor .c
  | .xor_d => .aluReg .xor .d
  | .xor_e => .aluReg .xor .e
  | .xor_h => .aluReg .xor .h
  | .xor_l => .aluReg .xor .l
  | .xor_at_hl => .aluAtHl .xor
  | .xor_a => .aluReg .xor .a
  | .or_b => .aluReg .or .b
  | .or_c => .aluReg .or .c
  | .or_d => .aluReg .or .d
  | .or_e => .aluReg .or .e
  | .or_h => .aluReg .or .h
  | .or_l => .aluReg .or .l
  | .or_at_hl => .aluAtHl .or
  | .or_a => .aluReg .or .a
  | .cp_b => .aluReg .cp .b
  | .cp_c => .aluReg .cp .c
  | .cp_d => .aluReg .cp .d
  | .cp_e => .aluReg .cp .e
  | .cp_h => .aluReg .cp .h
  | .cp_l => .aluReg .cp .l
  | .cp_at_hl => .aluAtHl .cp
  | .cp_a => .aluReg .cp .a
  | .ret_nz => .retCc .nz
  | .pop_bc => .pop .bc
  | .jp_nz_nn => .jpCc .nz
  | .jp_nn => .jp
  | .call_nz_nn => .callCc .nz
  | .push_bc => .push .bc
  | .add_a_n => .aluImm .add
  | .rst_00h => .rst .b0
  | .ret_z => .retCc .z
  | .ret => .ret
  | .jp_z_nn => .jpCc .z
  | .prefix_cb => .prefixCb
  | .call_z_nn => .callCc .z
  | .call_nn => .call
  | .adc_a_n => .aluImm .adc
  | .rst_08h => .rst .b1
  | .ret_nc => .retCc .nc
  | .pop_de => .pop .de
  | .jp_nc_nn => .jpCc .nc
  | .out_at_n_a => .outA
  | .call_nc_nn => .callCc .nc
  | .push_de => .push .de
  | .sub_n => .aluImm .sub
  | .rst_10h => .rst .b2
  | .ret_c => .retCc .c
  | .exx => .exx
  | .jp_c_nn => .jpCc .c
  | .in_a_at_n => .inA
  | .call_c_nn => .callCc .c
  | .prefix_dd => .prefixDd
  | .sbc_a_n => .aluImm .sbc
  | .rst_18h => .rst .b3
  | .ret_po => .retCc .po
  | .pop_hl => .pop .hl
  | .jp_po_nn => .jpCc .po
  | .ex_at_sp_hl => .exSpHl
  | .call_po_nn => .callCc .po
  | .push_hl => .push .hl
  | .and_n => .aluImm .and
  | .rst_20h => .rst .b4
  | .ret_pe => .retCc .pe
  | .jp_at_hl => .jpHl
  | .jp_pe_nn => .jpCc .pe
  | .ex_de_hl => .exDeHl
  | .call_pe_nn => .callCc .pe
  | .prefix_ed => .prefixEd
  | .xor_n => .aluImm .xor
  | .rst_28h => .rst .b5
  | .ret_p => .retCc .p
  | .pop_af => .pop .af
  | .jp_p_nn => .jpCc .p
  | .di => .di
  | .call_p_nn => .callCc .p
  | .push_af => .push .af
  | .or_n => .aluImm .or
  | .rst_30h => .rst .b6
  | .ret_m => .retCc .m
  | .ld_sp_hl => .ldSpHl
  | .jp_m_nn => .jpCc .m
  | .ei => .ei
  | .call_m_nn => .callCc .m
  | .prefix_fd => .prefixFd
  | .cp_n => .aluImm .cp
  | .rst_38h => .rst .b7
  | .add_ix_bc => .addXy .ix .bc
  | .add_ix_de => .addXy .ix .de
  | .ld_ix_nn => .ldXyImm .ix
  | .ld_at_nn_ix => .ldAtNnXy .ix
  | .inc_ix => .incXy .ix
  | .inc_ixh => .incHalf .ix .high
  | .dec_ixh => .decHalf .ix .high
  | .ld_ixh_n => .ldHalfImm .ix .high
  | .add_ix_ix => .addXy .ix .hl
  | .ld_ix_at_nn => .ldXyAtNn .ix
  | .dec_ix => .decXy .ix
  | .inc_ixl => .incHalf .ix .low
  | .dec_ixl => .decHalf .ix .low
  | .ld_ixl_n => .ldHalfImm .ix .low
  | .inc_at_ixd => .incXyd .ix
  | .dec_at_ixd => .decXyd .ix
  | .ld_at_ixd_n => .ldXydImm .ix
  | .add_ix_sp => .addXy .ix .sp
  | .ld_b_ixh => .ldRegHalf .ix .b .high
  | .ld_b_ixl => .ldRegHalf .ix .b .low
  | .ld_b_at_ixd => .ldRegXyd .ix .b
  | .ld_c_ixh => .ldRegHalf .ix .c .high
  | .ld_c_ixl => .ldRegHalf .ix .c .low
  | .ld_c_at_ixd => .ldRegXyd .ix .c
  | .ld_d_ixh => .ldRegHalf .ix .d .high
  | .ld_d_ixl => .ldRegHalf .ix .d .low
  | .ld_d_at_ixd => .ldRegXyd .ix .d
  | .ld_e_ixh => .ldRegHalf .ix .e .high
  | .ld_e_ixl => .ldRegHalf .ix .e .low
  | .ld_e_at_ixd => .ldRegXyd .ix .e
  | .ld_ixh_b => .ldHalfReg .ix .high .b
  | .ld_ixh_c => .ldHalfReg .ix .high .c
  | .ld_ixh_d => .ldHalfReg .ix .high .d
  | .ld_ixh_e => .ldHalfReg .ix .high .e
  | .ld_ixh_ixh => .ldHalfHalf .ix .high .high
  | .ld_ixh_ixl => .ldHalfHalf .ix .high .low
  | .ld_h_at_ixd => .ldRegXyd .ix .h
  | .ld_ixh_a => .ldHalfReg .ix .high .a
  | .ld_ixl_b => .ldHalfReg .ix .low .b
  | .ld_ixl_c => .ldHalfReg .ix .low .c
  | .ld_ixl_d => .ldHalfReg .ix .low .d
  | .ld_ixl_e => .ldHalfReg .ix .low .e
  | .ld_ixl_ixh => .ldHalfHalf .ix .low .high
  | .ld_ixl_ixl => .ldHalfHalf .ix .low .low
  | .ld_l_at_ixd => .ldRegXyd .ix .l
  | .ld_ixl_a => .ldHalfReg .ix .low .a
  | .ld_at_ixd_b => .ldXydReg .ix .b
  | .ld_at_ixd_c => .ldXydReg .ix .c
  | .ld_at_ixd_d => .ldXydReg .ix .d
  | .ld_at_ixd_e => .ldXydReg .ix .e
  | .ld_at_ixd_h => .ldXydReg .ix .h
  | .ld_at_ixd_l => .ldXydReg .ix .l
  | .ld_at_ixd_a => .ldXydReg .ix .a
  | .ld_a_ixh => .ldRegHalf .ix .a .high
  | .ld_a_ixl => .ldRegHalf .ix .a .low
  | .ld_a_at_ixd => .ldRegXyd .ix .a
  | .add_a_ixh => .aluHalf .ix .add .high
  | .add_a_ixl => .aluHalf .ix .add .low
  | .add_a_at_ixd => .aluXyd .ix .add
  | .adc_a_ixh => .aluHalf .ix .adc .high
  | .adc_a_ixl => .aluHalf .ix .adc .low
  | .adc_a_at_ixd => .aluXyd .ix .adc
  | .sub_ixh => .aluHalf .ix .sub .high
  | .sub_ixl => .aluHalf .ix .sub .low
  | .sub_at_ixd => .aluXyd .ix .sub
  | .sbc_a_ixh => .aluHalf .ix .sbc .high
  | .sbc_a_ixl => .aluHalf .ix .sbc .low
  | .sbc_a_at_ixd => .aluXyd .ix .sbc
  | .and_ixh => .aluHalf .ix .and .high
  | .and_ixl => .aluHalf .ix .and .low
  | .and_at_ixd => .aluXyd .ix .and
  | .xor_ixh => .aluHalf .ix .xor .high
  | .xor_ixl => .aluHalf .ix .xor .low
  | .xor_at_ixd => .aluXyd .ix .xor
  | .or_ixh => .aluHalf .ix .or .high
  | .or_ixl => .aluHalf .ix .or .low
  | .or_at_ixd => .aluXyd .ix .or
  | .cp_ixh => .aluHalf .ix .cp .high
  | .cp_ixl => .aluHalf .ix .cp .low
  | .cp_at_ixd => .aluXyd .ix .cp
  | .pop_ix => .popXy .ix
  | .ex_at_sp_ix => .exSpXy .ix
  | .push_ix => .pushXy .ix
  | .jp_at_ix => .jpXy .ix
  | .ld_sp_ix => .ldSpXy .ix
  | .add_iy_bc => .addXy .iy .bc
  | .add_iy_de => .addXy .iy .de
  | .ld_iy_nn => .ldXyImm .iy
  | .ld_at_nn_iy => .ldAtNnXy .iy
  | .inc_iy => .incXy .iy
  | .inc_iyh => .incHalf .iy .high
  | .dec_iyh => .decHalf .iy .high
  | .ld_iyh_n => .ldHalfImm .iy .high
  | .add_iy_iy => .addXy .iy .hl
  | .ld_iy_at_nn => .ldXyAtNn .iy
  | .dec_iy => .decXy .iy
  | .inc_iyl => .incHalf .iy .low
  | .dec_iyl => .decHalf .iy .low
  | .ld_iyl_n => .ldHalfImm .iy .low
  | .inc_at_iyd => .incXyd .iy
  | .dec_at_iyd => .decXyd .iy
  | .ld_at_iyd_n => .ldXydImm .iy
  | .add_iy_sp => .addXy .iy .sp
  | .ld_b_iyh => .ldRegHalf .iy .b .high
  | .ld_b_iyl => .ldRegHalf .iy .b .low
  | .ld_b_at_iyd => .ldRegXyd .iy .b
  | .ld_c_iyh => .ldRegHalf .iy .c .high
  | .ld_c_iyl => .ldRegHalf .iy .c .low
  | .ld_c_at_iyd => .ldRegXyd .iy .c
  | .ld_d_iyh => .ldRegHalf .iy .d .high
  | .ld_d_iyl => .ldRegHalf .iy .d .low
  | .ld_d_at_iyd => .ldRegXyd .iy .d
  | .ld_e_iyh => .ldRegHalf .iy .e .high
  | .ld_e_iyl => .ldRegHalf .iy .e .low
  | .ld_e_at_iyd => .ldRegXyd .iy .e
  | .ld_iyh_b => .ldHalfReg .iy .high .b
  | .ld_iyh_c => .ldHalfReg .iy .high .c
  | .ld_iyh_d => .ldHalfReg .iy .high .d
  | .ld_iyh_e => .ldHalfReg .iy .high .e
  | .ld_iyh_iyh => .ldHalfHalf .iy .high .high
  | .ld_iyh_iyl => .ldHalfHalf .iy .high .low
  | .ld_h_at_iyd => .ldRegXyd .iy .h
  | .ld_iyh_a => .ldHalfReg .iy .high .a
  | .ld_iyl_b => .ldHalfReg .iy .low .b
  | .ld_iyl_c => .ldHalfReg .iy .low .c
  | .ld_iyl_d => .ldHalfReg .iy .low .d
  | .ld_iyl_e => .ldHalfReg .iy .low .e
  | .ld_iyl_iyh => .ldHalfHalf .iy .low .high
  | .ld_iyl_iyl => .ldHalfHalf .iy .low .low
  | .ld_l_at_iyd => .ldRegXyd .iy .l
  | .ld_iyl_a => .ldHalfReg .iy .low .a
  | .ld_at_iyd_b => .ldXydReg .iy .b
  | .ld_at_iyd_c => .ldXydReg .iy .c
  | .ld_at_iyd_d => .ldXydReg .iy .d
  | .ld_at_iyd_e => .ldXydReg .iy .e
  | .ld_at_iyd_h => .ldXydReg .iy .h
  | .ld_at_iyd_l => .ldXydReg .iy .l
  | .ld_at_iyd_a => .ldXydReg .iy .a
  | .ld_a_iyh => .ldRegHalf .iy .a .high
  | .ld_a_iyl => .ldRegHalf .iy .a .low
  | .ld_a_at_iyd => .ldRegXyd .iy .a
  | .add_a_iyh => .aluHalf .iy .add .high
  | .add_a_iyl => .aluHalf .iy .add .low
  | .add_a_at_iyd => .aluXyd .iy .add
  | .adc_a_iyh => .aluHalf .iy .adc .high
  | .adc_a_iyl => .aluHalf .iy .adc .low
  | .adc_a_at_iyd => .aluXyd .iy .adc
  | .sub_iyh => .aluHalf .iy .sub .high
  | .sub_iyl => .aluHalf .iy .sub .low
  | .sub_at_iyd => .aluXyd .iy .sub
  | .sbc_a_iyh => .aluHalf .iy .sbc .high
  | .sbc_a_iyl => .aluHalf .iy .sbc .low
  | .sbc_a_at_iyd => .aluXyd .iy .sbc
  | .and_iyh => .aluHalf .iy .and .high
  | .and_iyl => .aluHalf .iy .and .low
  | .and_at_iyd => .aluXyd .iy .and
  | .xor_iyh => .aluHalf .iy .xor .high
  | .xor_iyl => .aluHalf .iy .xor .low
  | .xor_at_iyd => .aluXyd .iy .xor
  | .or_iyh => .aluHalf .iy .or .high
  | .or_iyl => .aluHalf .iy .or .low
  | .or_at_iyd => .aluXyd .iy .or
  | .cp_iyh => .aluHalf .iy .cp .high
  | .cp_iyl => .aluHalf .iy .cp .low
  | .cp_at_iyd => .aluXyd .iy .cp
  | .pop_iy => .popXy .iy
  | .ex_at_sp_iy => .exSpXy .iy
  | .push_iy => .pushXy .iy
  | .jp_at_iy => .jpXy .iy
  | .ld_sp_iy => .ldSpXy .iy
  | .rlc_b => .rotReg .rlc .b
  | .rlc_c => .rotReg .rlc .c
  | .rlc_d => .rotReg .rlc .d
  | .rlc_e => .rotReg .rlc .e
  | .rlc_h => .rotReg .rlc .h
  | .rlc_l => .rotReg .rlc .l
  | .rlc_at_hl => .rotAtHl .rlc
  | .rlc_a => .rotReg .rlc .a
  | .rrc_b => .rotReg .rrc .b
  | .rrc_c => .rotReg .rrc .c
  | .rrc_d => .rotReg .rrc .d
  | .rrc_e => .rotReg .rrc .e
  | .rrc_h => .rotReg .rrc .h
  | .rrc_l => .rotReg .rrc .l
  | .rrc_at_hl => .rotAtHl .rrc
  | .rrc_a => .rotReg .rrc .a
  | .rl_b => .rotReg .rl .b
  | .rl_c => .rotReg .rl .c
  | .rl_d => .rotReg .rl .d
  | .rl_e => .rotReg .rl .e
  | .rl_h => .rotReg .rl .h
  | .rl_l => .rotReg .rl .l
  | .rl_at_hl => .rotAtHl .rl
  | .rl_a => .rotReg .rl .a
  | .rr_b => .rotReg .rr .b
  | .rr_c => .rotReg .rr .c
  | .rr_d => .rotReg .rr .d
  | .rr_e => .rotReg .rr .e
  | .rr_h => .rotReg .rr .h
  | .rr_l => .rotReg .rr .l
  | .rr_at_hl => .rotAtHl .rr
  | .rr_a => .rotReg .rr .a
  | .sla_b => .rotReg .sla .b
  | .sla_c => .rotReg .sla .c
  | .sla_d => .rotReg .sla .d
  | .sla_e => .rotReg .sla .e
  | .sla_h => .rotReg .sla .h
  | .sla_l => .rotReg .sla .l
  | .sla_at_hl => .rotAtHl .sla
  | .sla_a => .rotReg .sla .a
  | .sra_b => .rotReg .sra .b
  | .sra_c => .rotReg .sra .c
  | .sra_d => .rotReg .sra .d
  | .sra_e => .rotReg .sra .e
  | .sra_h => .rotReg .sra .h
  | .sra_l => .rotReg .sra .l
  | .sra_at_hl => .rotAtHl .sra
  | .sra_a => .rotReg .sra .a
  | .sll_b => .rotReg .sll .b
  | .sll_c => .rotReg .sll .c
  | .sll_d => .rotReg .sll .d
  | .sll_e => .rotReg .sll .e
  | .sll_h => .rotReg .sll .h
  | .sll_l => .rotReg .sll .l
  | .sll_at_hl => .rotAtHl .sll
  | .sll_a => .rotReg .sll .a
  | .srl_b => .rotReg .srl .b
  | .srl_c => .rotReg .srl .c
  | .srl_d => .rotReg .srl .d
  | .srl_e => .rotReg .srl .e
  | .srl_h => .rotReg .srl .h
  | .srl_l => .rotReg .srl .l
  | .srl_at_hl => .rotAtHl .srl
  | .srl_a => .rotReg .srl .a
  | .bit_0_b => .bitReg .b0 .b
  | .bit_0_c => .bitReg .b0 .c
  | .bit_0_d => .bitReg .b0 .d
  | .bit_0_e => .bitReg .b0 .e
  | .bit_0_h => .bitReg .b0 .h
  | .bit_0_l => .bitReg .b0 .l
  | .bit_0_at_hl => .bitAtHl .b0
  | .bit_0_a => .bitReg .b0 .a
  | .bit_1_b => .bitReg .b1 .b
  | .bit_1_c => .bitReg .b1 .c
  | .bit_1_d => .bitReg .b1 .d
  | .bit_1_e => .bitReg .b1 .e
  | .bit_1_h => .bitReg .b1 .h
  | .bit_1_l => .bitReg .b1 .l
  | .bit_1_at_hl => .bitAtHl .b1
  | .bit_1_a => .bitReg .b1 .a
  | .bit_2_b => .bitReg .b2 .b
  | .bit_2_c => .bitReg .b2 .c
  | .bit_2_d => .bitReg .b2 .d
  | .bit_2_e => .bitReg .b2 .e
  | .bit_2_h => .bitReg .b2 .h
  | .bit_2_l => .bitReg .b2 .l
  | .bit_2_at_hl => .bitAtHl .b2
  | .bit_2_a => .bitReg .b2 .a
  | .bit_3_b => .bitReg .b3 .b
  | .bit_3_c => .bitReg .b3 .c
  | .bit_3_d => .bitReg .b3 .d
  | .bit_3_e => .bitReg .b3 .e
  | .bit_3_h => .bitReg .b3 .h
  | .bit_3_l => .bitReg .b3 .l
  | .bit_3_at_hl => .bitAtHl .b3
  | .bit_3_a => .bitReg .b3 .a
  | .bit_4_b => .bitReg .b4 .b
  | .bit_4_c => .bitReg .b4 .c
  | .bit_4_d => .bitReg .b4 .d
  | .bit_4_e => .bitReg .b4 .e
  | .bit_4_h => .bitReg .b4 .h
  | .bit_4_l => .bitReg .b4 .l
  | .bit_4_at_hl => .bitAtHl .b4
  | .bit_4_a => .bitReg .b4 .a
  | .bit_5_b => .bitReg .b5 .b
  | .bit_5_c => .bitReg .b5 .c
  | .bit_5_d => .bitReg .b5 .d
  | .bit_5_e => .bitReg .b5 .e
  | .bit_5_h => .bitReg .b5 .h
  | .bit_5_l => .bitReg .b5 .l
  | .bit_5_at_hl => .bitAtHl .b5
  | .bit_5_a => .bitReg .b5 .a
  | .bit_6_b => .bitReg .b6 .b
  | .bit_6_c => .bitReg .b6 .c
  | .bit_6_d => .bitReg .b6 .d
  | .bit_6_e => .bitReg .b6 .e
  | .bit_6_h => .bitReg .b6 .h
  | .bit_6_l => .bitReg .b6 .l
  | .bit_6_at_hl => .bitAtHl .b6
  | .bit_6_a => .bitReg .b6 .a
  | .bit_7_b => .bitReg .b7 .b
  | .bit_7_c => .bitReg .b7 .c
  | .bit_7_d => .bitReg .b7 .d
  | .bit_7_e => .bitReg .b7 .e
  | .bit_7_h => .bitReg .b7 .h
  | .bit_7_l => .bitReg .b7 .l
  | .bit_7_at_hl => .bitAtHl .b7
  | .bit_7_a => .bitReg .b7 .a
  | .res_0_b => .resReg .b0 .b
  | .res_0_c => .resReg .b0 .c
  | .res_0_d => .resReg .b0 .d
  | .res_0_e => .resReg .b0 .e
  | .res_0_h => .resReg .b0 .h
  | .res_0_l => .resReg .b0 .l
  | .res_0_at_hl => .resAtHl .b0
  | .res_0_a => .resReg .b0 .a
  | .res_1_b => .resReg .b1 .b
  | .res_1_c => .resReg .b1 .c
  | .res_1_d => .resReg .b1 .d
  | .res_1_e => .resReg .b1 .e
  | .res_1_h => .resReg .b1 .h
  | .res_1_l => .resReg .b1 .l
  | .res_1_at_hl => .resAtHl .b1
  | .res_1_a => .resReg .b1 .a
  | .res_2_b => .resReg .b2 .b
  | .res_2_c => .resReg .b2 .c
  | .res_2_d => .resReg .b2 .d
  | .res_2_e => .resReg .b2 .e
  | .res_2_h => .resReg .b2 .h
  | .res_2_l => .resReg .b2 .l
  | .res_2_at_hl => .resAtHl .b2
  | .res_2_a => .resReg .b2 .a
  | .res_3_b => .resReg .b3 .b
  | .res_3_c => .resReg .b3 .c
  | .res_3_d => .resReg .b3 .d
  | .res_3_e => .resReg .b3 .e
  | .res_3_h => .resReg .b3 .h
  | .res_3_l => .resReg .b3 .l
  | .res_3_at_hl => .resAtHl .b3
  | .res_3_a => .resReg .b3 .a
  | .res_4_b => .resReg .b4 .b
  | .res_4_c => .resReg .b4 .c
  | .res_4_d => .resReg .b4 .d
  | .res_4_e => .resReg .b4 .e
  | .res_4_h => .resReg .b4 .h
  | .res_4_l => .resReg .b4 .l
  | .res_4_at_hl => .resAtHl .b4
  | .res_4_a => .resReg .b4 .a
  | .res_5_b => .resReg .b5 .b
  | .res_5_c => .resReg .b5 .c
  | .res_5_d => .resReg .b5 .d
  | .res_5_e => .resReg .b5 .e
  | .res_5_h => .resReg .b5 .h
  | .res_5_l => .resReg .b5 .l
  | .res_5_at_hl => .resAtHl .b5
  | .res_5_a => .resReg .b5 .a
  | .res_6_b => .resReg .b6 .b
  | .res_6_c => .resReg .b6 .c
  | .res_6_d => .resReg .b6 .d
  | .res_6_e => .resReg .b6 .e
  | .res_6_h => .resReg .b6 .h
  | .res_6_l => .resReg .b6 .l
  | .res_6_at_hl => .resAtHl .b6
  | .res_6_a => .resReg .b6 .a
  | .res_7_b => .resReg .b7 .b
  | .res_7_c => .resReg .b7 .c
  | .res_7_d => .resReg .b7 .d
  | .res_7_e => .resReg .b7 .e
  | .res_7_h => .resReg .b7 .h
  | .res_7_l => .resReg .b7 .l
  | .res_7_at_hl => .resAtHl .b7
  | .res_7_a => .resReg .b7 .a
  | .set_0_b => .setReg .b0 .b
  | .set_0_c => .setReg .b0 .c
  | .set_0_d => .setReg .b0 .d
  | .set_0_e => .setReg .b0 .e
  | .set_0_h => .setReg .b0 .h
  | .set_0_l => .setReg .b0 .l
  | .set_0_at_hl => .setAtHl .b0
  | .set_0_a => .setReg .b0 .a
  | .set_1_b => .setReg .b1 .b
  | .set_1_c => .setReg .b1 .c
  | .set_1_d => .setReg .b1 .d
  | .set_1_e => .setReg .b1 .e
  | .set_1_h => .setReg .b1 .h
  | .set_1_l => .setReg .b1 .l
  | .set_1_at_hl => .setAtHl .b1
  | .set_1_a => .setReg .b1 .a
  | .set_2_b => .setReg .b2 .b
  | .set_2_c => .setReg .b2 .c
  | .set_2_d => .setReg .b2 .d
  | .set_2_e => .setReg .b2 .e
  | .set_2_h => .setReg .b2 .h
  | .set_2_l => .setReg .b2 .l
  | .set_2_at_hl => .setAtHl .b2
  | .set_2_a => .setReg .b2 .a
  | .set_3_b => .setReg .b3 .b
  | .set_3_c => .setReg .b3 .c
  | .set_3_d => .setReg .b3 .d
  | .set_3_e => .setReg .b3 .e
  | .set_3_h => .setReg .b3 .h
  | .set_3_l => .setReg .b3 .l
  | .set_3_at_hl => .setAtHl .b3
  | .set_3_a => .setReg .b3 .a
  | .set_4_b => .setReg .b4 .b
  | .set_4_c => .setReg .b4 .c
  | .set_4_d => .setReg .b4 .d
  | .set_4_e => .setReg .b4 .e
  | .set_4_h => .setReg .b4 .h
  | .set_4_l => .setReg .b4 .l
  | .set_4_at_hl => .setAtHl .b4
  | .set_4_a => .setReg .b4 .a
  | .set_5_b => .setReg .b5 .b
  | .set_5_c => .setReg .b5 .c
  | .set_5_d => .setReg .b5 .d
  | .set_5_e => .setReg .b5 .e
  | .set_5_h => .setReg .b5 .h
  | .set_5_l => .setReg .b5 .l
  | .set_5_at_hl => .setAtHl .b5
  | .set_5_a => .setReg .b5 .a
  | .set_6_b => .setReg .b6 .b
  | .set_6_c => .setReg .b6 .c
  | .set_6_d => .setReg .b6 .d
  | .set_6_e => .setReg .b6 .e
  | .set_6_h => .setReg .b6 .h
  | .set_6_l => .setReg .b6 .l
  | .set_6_at_hl => .setAtHl .b6
  | .set_6_a => .setReg .b6 .a
  | .set_7_b => .setReg .b7 .b
  | .set_7_c => .setReg .b7 .c
  | .set_7_d => .setReg .b7 .d
  | .set_7_e => .setReg .b7 .e
  | .set_7_h => .setReg .b7 .h
  | .set_7_l => .setReg .b7 .l
  | .set_7_at_hl => .setAtHl .b7
  | .set_7_a => .setReg .b7 .a
  | .rlc_at_ixd_b => .rotXydCopy .ix .rlc .b
  | .rlc_at_ixd_c => .rotXydCopy .ix .rlc .c
  | .rlc_at_ixd_d => .rotXydCopy .ix .rlc .d
  | .rlc_at_ixd_e => .rotXydCopy .ix .rlc .e
  | .rlc_at_ixd_h => .rotXydCopy .ix .rlc .h
  | .rlc_at_ixd_l => .rotXydCopy .ix .rlc .l
  | .rlc_at_ixd => .rotXyd .ix .rlc
  | .rlc_at_ixd_a => .rotXydCopy .ix .rlc .a
  | .rrc_at_ixd_b => .rotXydCopy .ix .rrc .b
  | .rrc_at_ixd_c => .rotXydCopy .ix .rrc .c
  | .rrc_at_ixd_d => .rotXydCopy .ix .rrc .d
  | .rrc_at_ixd_e => .rotXydCopy .ix .rrc .e
  | .rrc_at_ixd_h => .rotXydCopy .ix .rrc .h
  | .rrc_at_ixd_l => .rotXydCopy .ix .rrc .l
  | .rrc_at_ixd => .rotXyd .ix .rrc
  | .rrc_at_ixd_a => .rotXydCopy .ix .rrc .a
  | .rl_at_ixd_b => .rotXydCopy .ix .rl .b
  | .rl_at_ixd_c => .rotXydCopy .ix .rl .c
  | .rl_at_ixd_d => .rotXydCopy .ix .rl .d
  | .rl_at_ixd_e => .rotXydCopy .ix .rl .e
  | .rl_at_ixd_h => .rotXydCopy .ix .rl .h
  | .rl_at_ixd_l => .rotXydCopy .ix .rl .l
  | .rl_at_ixd => .rotXyd .ix .rl
  | .rl_at_ixd_a => .rotXydCopy .ix .rl .a
  | .rr_at_ixd_b => .rotXydCopy .ix .rr .b
  | .rr_at_ixd_c => .rotXydCopy .ix .rr .c
  | .rr_at_ixd_d => .rotXydCopy .ix .rr .d
  | .rr_at_ixd_e => .rotXydCopy .ix .rr .e
  | .rr_at_ixd_h => .rotXydCopy .ix .rr .h
  | .rr_at_ixd_l => .rotXydCopy .ix .rr .l
  | .rr_at_ixd => .rotXyd .ix .rr
  | .rr_at_ixd_a => .rotXydCopy .ix .rr .a
  | .sla_at_ixd_b => .rotXydCopy .ix .sla .b
  | .sla_at_ixd_c => .rotXydCopy .ix .sla .c
  | .sla_at_ixd_d => .rotXydCopy .ix .sla .d
  | .sla_at_ixd_e => .rotXydCopy .ix .sla .e
  | .sla_at_ixd_h => .rotXydCopy .ix .sla .h
  | .sla_at_ixd_l => .rotXydCopy .ix .sla .l
  | .sla_at_ixd => .rotXyd .ix .sla
  | .sla_at_ixd_a => .rotXydCopy .ix .sla .a
  | .sra_at_ixd_b => .rotXydCopy .ix .sra .b
  | .sra_at_ixd_c => .rotXydCopy .ix .sra .c
  | .sra_at_ixd_d => .rotXydCopy .ix .sra .d
  | .sra_at_ixd_e => .rotXydCopy .ix .sra .e
  | .sra_at_ixd_h => .rotXydCopy .ix .sra .h
  | .sra_at_ixd_l => .rotXydCopy .ix .sra .l
  | .sra_at_ixd => .rotXyd .ix .sra
  | .sra_at_ixd_a => .rotXydCopy .ix .sra .a
  | .sll_at_ixd_b => .rotXydCopy .ix .sll .b
  | .sll_at_ixd_c => .rotXydCopy .ix .sll .c
  | .sll_at_ixd_d => .rotXydCopy .ix .sll .d
  | .sll_at_ixd_e => .rotXydCopy .ix .sll .e
  | .sll_at_ixd_h => .rotXydCopy .ix .sll .h
  | .sll_at_ixd_l => .rotXydCopy .ix .sll .l
  | .sll_at_ixd => .rotXyd .ix .sll
  | .sll_at_ixd_a => .rotXydCopy .ix .sll .a
  | .srl_at_ixd_b => .rotXydCopy .ix .srl .b
  | .srl_at_ixd_c => .rotXydCopy .ix .srl .c
  | .srl_at_ixd_d => .rotXydCopy .ix .srl .d
  | .srl_at_ixd_e => .rotXydCopy .ix .srl .e
  | .srl_at_ixd_h => .rotXydCopy .ix .srl .h
  | .srl_at_ixd_l => .rotXydCopy .ix .srl .l
  | .srl_at_ixd => .rotXyd .ix .srl
  | .srl_at_ixd_a => .rotXydCopy .ix .srl .a
  | .res_0_at_ixd_b => .resXydCopy .ix .b0 .b
  | .res_0_at_ixd_c => .resXydCopy .ix .b0 .c
  | .res_0_at_ixd_d => .resXydCopy .ix .b0 .d
  | .res_0_at_ixd_e => .resXydCopy .ix .b0 .e
  | .res_0_at_ixd_h => .resXydCopy .ix .b0 .h
  | .res_0_at_ixd_l => .resXydCopy .ix .b0 .l
  | .res_0_at_ixd => .resXyd .ix .b0
  | .res_0_at_ixd_a => .resXydCopy .ix .b0 .a
  | .res_1_at_ixd_b => .resXydCopy .ix .b1 .b
  | .res_1_at_ixd_c => .resXydCopy .ix .b1 .c
  | .res_1_at_ixd_d => .resXydCopy .ix .b1 .d
  | .res_1_at_ixd_e => .resXydCopy .ix .b1 .e
  | .res_1_at_ixd_h => .resXydCopy .ix .b1 .h
  | .res_1_at_ixd_l => .resXydCopy .ix .b1 .l
  | .res_1_at_ixd => .resXyd .ix .b1
  | .res_1_at_ixd_a => .resXydCopy .ix .b1 .a
  | .res_2_at_ixd_b => .resXydCopy .ix .b2 .b
  | .res_2_at_ixd_c => .resXydCopy .ix .b2 .c
  | .res_2_at_ixd_d => .resXydCopy .ix .b2 .d
  | .res_2_at_ixd_e => .resXydCopy .ix .b2 .e
  | .res_2_at_ixd_h => .resXydCopy .ix .b2 .h
  | .res_2_at_ixd_l => .resXydCopy .ix .b2 .l
  | .res_2_at_ixd => .resXyd .ix .b2
  | .res_2_at_ixd_a => .resXydCopy .ix .b2 .a
  | .res_3_at_ixd_b => .resXydCopy .ix .b3 .b
  | .res_3_at_ixd_c => .resXydCopy .ix .b3 .c
  | .res_3_at_ixd_d => .resXydCopy .ix .b3 .d
  | .res_3_at_ixd_e => .resXydCopy .ix .b3 .e
  | .res_3_at_ixd_h => .resXydCopy .ix .b3 .h
  | .res_3_at_ixd_l => .resXydCopy .ix .b3 .l
  | .res_3_at_ixd => .resXyd .ix .b3
  | .res_3_at_ixd_a => .resXydCopy .ix .b3 .a
  | .res_4_at_ixd_b => .resXydCopy .ix .b4 .b
  | .res_4_at_ixd_c => .resXydCopy .ix .b4 .c
  | .res_4_at_ixd_d => .resXydCopy .ix .b4 .d
  | .res_4_at_ixd_e => .resXydCopy .ix .b4 .e
  | .res_4_at_ixd_h => .resXydCopy .ix .b4 .h
  | .res_4_at_ixd_l => .resXydCopy .ix .b4 .l
  | .res_4_at_ixd => .resXyd .ix .b4
  | .res_4_at_ixd_a => .resXydCopy .ix .b4 .a
  | .res_5_at_ixd_b => .resXydCopy .ix .b5 .b
  | .res_5_at_ixd_c => .resXydCopy .ix .b5 .c
  | .res_5_at_ixd_d => .resXydCopy .ix .b5 .d
  | .res_5_at_ixd_e => .resXydCopy .ix .b5 .e
  | .res_5_at_ixd_h => .resXydCopy .ix .b5 .h
  | .res_5_at_ixd_l => .resXydCopy .ix .b5 .l
  | .res_5_at_ixd => .resXyd .ix .b5
  | .res_5_at_ixd_a => .resXydCopy .ix .b5 .a
  | .res_6_at_ixd_b => .resXydCopy .ix .b6 .b
  | .res_6_at_ixd_c => .resXydCopy .ix .b6 .c
  | .res_6_at_ixd_d => .resXydCopy .ix .b6 .d
  | .res_6_at_ixd_e => .resXydCopy .ix .b6 .e
  | .res_6_at_ixd_h => .resXydCopy .ix .b6 .h
  | .res_6_at_ixd_l => .resXydCopy .ix .b6 .l
  | .res_6_at_ixd => .resXyd .ix .b6
  | .res_6_at_ixd_a => .resXydCopy .ix .b6 .a
  | .res_7_at_ixd_b => .resXydCopy .ix .b7 .b
  | .res_7_at_ixd_c => .resXydCopy .ix .b7 .c
  | .res_7_at_ixd_d => .resXydCopy .ix .b7 .d
  | .res_7_at_ixd_e => .resXydCopy .ix .b7 .e
  | .res_7_at_ixd_h => .resXydCopy .ix .b7 .h
  | .res_7_at_ixd_l => .resXydCopy .ix .b7 .l
  | .res_7_at_ixd => .resXyd .ix .b7
  | .res_7_at_ixd_a => .resXydCopy .ix .b7 .a
  | .set_0_at_ixd_b => .setXydCopy .ix .b0 .b
  | .set_0_at_ixd_c => .setXydCopy .ix .b0 .c
  | .set_0_at_ixd_d => .setXydCopy .ix .b0 .d
  | .set_0_at_ixd_e => .setXydCopy .ix .b0 .e
  | .set_0_at_ixd_h => .setXydCopy .ix .b0 .h
  | .set_0_at_ixd_l => .setXydCopy .ix .b0 .l
  | .set_0_at_ixd => .setXyd .ix .b0
  | .set_0_at_ixd_a => .setXydCopy .ix .b0 .a
  | .set_1_at_ixd_b => .setXydCopy .ix .b1 .b
  | .set_1_at_ixd_c => .setXydCopy .ix .b1 .c
  | .set_1_at_ixd_d => .setXydCopy .ix .b1 .d
  | .set_1_at_ixd_e => .setXydCopy .ix .b1 .e
  | .set_1_at_ixd_h => .setXydCopy .ix .b1 .h
  | .set_1_at_ixd_l => .setXydCopy .ix .b1 .l
  | .set_1_at_ixd => .setXyd .ix .b1
  | .set_1_at_ixd_a => .setXydCopy .ix .b1 .a
  | .set_2_at_ixd_b => .setXydCopy .ix .b2 .b
  | .set_2_at_ixd_c => .setXydCopy .ix .b2 .c
  | .set_2_at_ixd_d => .setXydCopy .ix .b2 .d
  | .set_2_at_ixd_e => .setXydCopy .ix .b2 .e
  | .set_2_at_ixd_h => .setXydCopy .ix .b2 .h
  | .set_2_at_ixd_l => .setXydCopy .ix .b2 .l
  | .set_2_at_ixd => .setXyd .ix .b2
  | .set_2_at_ixd_a => .setXydCopy .ix .b2 .a
  | .set_3_at_ixd_b => .setXydCopy .ix .b3 .b
  | .set_3_at_ixd_c => .setXydCopy .ix .b3 .c
  | .set_3_at_ixd_d => .setXydCopy .ix .b3 .d
  | .set_3_at_ixd_e => .setXydCopy .ix .b3 .e
  | .set_3_at_ixd_h => .setXydCopy .ix .b3 .h
  | .set_3_at_ixd_l => .setXydCopy .ix .b3 .l
  | .set_3_at_ixd => .setXyd .ix .b3
  | .set_3_at_ixd_a => .setXydCopy .ix .b3 .a
  | .set_4_at_ixd_b => .setXydCopy .ix .b4 .b
  | .set_4_at_ixd_c => .setXydCopy .ix .b4 .c
  | .set_4_at_ixd_d => .setXydCopy .ix .b4 .d
  | .set_4_at_ixd_e => .setXydCopy .ix .b4 .e
  | .set_4_at_ixd_h => .setXydCopy .ix .b4 .h
  | .set_4_at_ixd_l => .setXydCopy .ix .b4 .l
  | .set_4_at_ixd => .setXyd .ix .b4
  | .set_4_at_ixd_a => .setXydCopy .ix .b4 .a
  | .set_5_at_ixd_b => .setXydCopy .ix .b5 .b
  | .set_5_at_ixd_c => .setXydCopy .ix .b5 .c
  | .set_5_at_ixd_d => .setXydCopy .ix .b5 .d
  | .set_5_at_ixd_e => .setXydCopy .ix .b5 .e
  | .set_5_at_ixd_h => .setXydCopy .ix .b5 .h
  | .set_5_at_ixd_l => .setXydCopy .ix .b5 .l
  | .set_5_at_ixd => .setXyd .ix .b5
  | .set_5_at_ixd_a => .setXydCopy .ix .b5 .a
  | .set_6_at_ixd_b => .setXydCopy .ix .b6 .b
  | .set_6_at_ixd_c => .setXydCopy .ix .b6 .c
  | .set_6_at_ixd_d => .setXydCopy .ix .b6 .d
  | .set_6_at_ixd_e => .setXydCopy .ix .b6 .e
  | .set_6_at_ixd_h => .setXydCopy .ix .b6 .h
  | .set_6_at_ixd_l => .setXydCopy .ix .b6 .l
  | .set_6_at_ixd => .setXyd .ix .b6
  | .set_6_at_ixd_a => .setXydCopy .ix .b6 .a
  | .set_7_at_ixd_b => .setXydCopy .ix .b7 .b
  | .set_7_at_ixd_c => .setXydCopy .ix .b7 .c
  | .set_7_at_ixd_d => .setXydCopy .ix .b7 .d
  | .set_7_at_ixd_e => .setXydCopy .ix .b7 .e
  | .set_7_at_ixd_h => .setXydCopy .ix .b7 .h
  | .set_7_at_ixd_l => .setXydCopy .ix .b7 .l
  | .set_7_at_ixd => .setXyd .ix .b7
  | .set_7_at_ixd_a => .setXydCopy .ix .b7 .a
  | .rlc_at_iyd_b => .rotXydCopy .iy .rlc .b
  | .rlc_at_iyd_c => .rotXydCopy .iy .rlc .c
  | .rlc_at_iyd_d => .rotXydCopy .iy .rlc .d
  | .rlc_at_iyd_e => .rotXydCopy .iy .rlc .e
  | .rlc_at_iyd_h => .rotXydCopy .iy .rlc .h
  | .rlc_at_iyd_l => .rotXydCopy .iy .rlc .l
  | .rlc_at_iyd => .rotXyd .iy .rlc
  | .rlc_at_iyd_a => .rotXydCopy .iy .rlc .a
  | .rrc_at_iyd_b => .rotXydCopy .iy .rrc .b
  | .rrc_at_iyd_c => .rotXydCopy .iy .rrc .c
  | .rrc_at_iyd_d => .rotXydCopy .iy .rrc .d
  | .rrc_at_iyd_e => .rotXydCopy .iy .rrc .e
  | .rrc_at_iyd_h => .rotXydCopy .iy .rrc .h
  | .rrc_at_iyd_l => .rotXydCopy .iy .rrc .l
  | .rrc_at_iyd => .rotXyd .iy .rrc
  | .rrc_at_iyd_a => .rotXydCopy .iy .rrc .a
  | .rl_at_iyd_b => .rotXydCopy .iy .rl .b
  | .rl_at_iyd_c => .rotXydCopy .iy .rl .c
  | .rl_at_iyd_d => .rotXydCopy .iy .rl .d
  | .rl_at_iyd_e => .rotXydCopy .iy .rl .e
  | .rl_at_iyd_h => .rotXydCopy .iy .rl .h
  | .rl_at_iyd_l => .rotXydCopy .iy .rl .l
  | .rl_at_iyd => .rotXyd .iy .rl
  | .rl_at_iyd_a => .rotXydCopy .iy .rl .a
  | .rr_at_iyd_b => .rotXydCopy .iy .rr .b
  | .rr_at_iyd_c => .rotXydCopy .iy .rr .c
  | .rr_at_iyd_d => .rotXydCopy .iy .rr .d
  | .rr_at_iyd_e => .rotXydCopy .iy .rr .e
  | .rr_at_iyd_h => .rotXydCopy .iy .rr .h
  | .rr_at_iyd_l => .rotXydCopy .iy .rr .l
  | .rr_at_iyd => .rotXyd .iy .rr
  | .rr_at_iyd_a => .rotXydCopy .iy .rr .a
  | .sla_at_iyd_b => .rotXydCopy .iy .sla .b
  | .sla_at_iyd_c => .rotXydCopy .iy .sla .c
  | .sla_at_iyd_d => .rotXydCopy .iy .sla .d
  | .sla_at_iyd_e => .rotXydCopy .iy .sla .e
  | .sla_at_iyd_h => .rotXydCopy .iy .sla .h
  | .sla_at_iyd_l => .rotXydCopy .iy .sla .l
  | .sla_at_iyd => .rotXyd .iy .sla
  | .sla_at_iyd_a => .rotXydCopy .iy .sla .a
  | .sra_at_iyd_b => .rotXydCopy .iy .sra .b
  | .sra_at_iyd_c => .rotXydCopy .iy .sra .c
  | .sra_at_iyd_d => .rotXydCopy .iy .sra .d
  | .sra_at_iyd_e => .rotXydCopy .iy .sra .e
  | .sra_at_iyd_h => .rotXydCopy .iy .sra .h
  | .sra_at_iyd_l => .rotXydCopy .iy .sra .l
  | .sra_at_iyd => .rotXyd .iy .sra
  | .sra_at_iyd_a => .rotXydCopy .iy .sra .a
  | .sll_at_iyd_b => .rotXydCopy .iy .sll .b
  | .sll_at_iyd_c => .rotXydCopy .iy .sll .c
  | .sll_at_iyd_d => .rotXydCopy .iy .sll .d
  | .sll_at_iyd_e => .rotXydCopy .iy .sll .e
  | .sll_at_iyd_h => .rotXydCopy .iy .sll .h
  | .sll_at_iyd_l => .rotXydCopy .iy .sll .l
  | .sll_at_iyd => .rotXyd .iy .sll
  | .sll_at_iyd_a => .rotXydCopy .iy .sll .a
  | .srl_at_iyd_b => .rotXydCopy .iy .srl .b
  | .srl_at_iyd_c => .rotXydCopy .iy .srl .c
  | .srl_at_iyd_d => .rotXydCopy .iy .srl .d
  | .srl_at_iyd_e => .rotXydCopy .iy .srl .e
  | .srl_at_iyd_h => .rotXydCopy .iy .srl .h
  | .srl_at_iyd_l => .rotXydCopy .iy .srl .l
  | .srl_at_iyd => .rotXyd .iy .srl
  | .srl_at_iyd_a => .rotXydCopy .iy .srl .a
  | .res_0_at_iyd_b => .resXydCopy .iy .b0 .b
  | .res_0_at_iyd_c => .resXydCopy .iy .b0 .c
  | .res_0_at_iyd_d => .resXydCopy .iy .b0 .d
  | .res_0_at_iyd_e => .resXydCopy .iy .b0 .e
  | .res_0_at_iyd_h => .resXydCopy .iy .b0 .h
  | .res_0_at_iyd_l => .resXydCopy .iy .b0 .l
  | .res_0_at_iyd => .resXyd .iy .b0
  | .res_0_at_iyd_a => .resXydCopy .iy .b0 .a
  | .res_1_at_iyd_b => .resXydCopy .iy .b1 .b
  | .res_1_at_iyd_c => .resXydCopy .iy .b1 .c
  | .res_1_at_iyd_d => .resXydCopy .iy .b1 .d
  | .res_1_at_iyd_e => .resXydCopy .iy .b1 .e
  | .res_1_at_iyd_h => .resXydCopy .iy .b1 .h
  | .res_1_at_iyd_l => .resXydCopy .iy .b1 .l
  | .res_1_at_iyd => .resXyd .iy .b1
  | .res_1_at_iyd_a => .resXydCopy .iy .b1 .a
  | .res_2_at_iyd_b => .resXydCopy .iy .b2 .b
  | .res_2_at_iyd_c => .resXydCopy .iy .b2 .c
  | .res_2_at_iyd_d => .resXydCopy .iy .b2 .d
  | .res_2_at_iyd_e => .resXydCopy .iy .b2 .e
  | .res_2_at_iyd_h => .resXydCopy .iy .b2 .h
  | .res_2_at_iyd_l => .resXydCopy .iy .b2 .l
  | .res_2_at_iyd => .resXyd .iy .b2
  | .res_2_at_iyd_a => .resXydCopy .iy .b2 .a
  | .res_3_at_iyd_b => .resXydCopy .iy .b3 .b
  | .res_3_at_iyd_c => .resXydCopy .iy .b3 .c
  | .res_3_at_iyd_d => .resXydCopy .iy .b3 .d
  | .res_3_at_iyd_e => .resXydCopy .iy .b3 .e
  | .res_3_at_iyd_h => .resXydCopy .iy .b3 .h
  | .res_3_at_iyd_l => .resXydCopy .iy .b3 .l
  | .res_3_at_iyd => .resXyd .iy .b3
  | .res_3_at_iyd_a => .resXydCopy .iy .b3 .a
  | .res_4_at_iyd_b => .resXydCopy .iy .b4 .b
  | .res_4_at_iyd_c => .resXydCopy .iy .b4 .c
  | .res_4_at_iyd_d => .resXydCopy .iy .b4 .d
  | .res_4_at_iyd_e => .resXydCopy .iy .b4 .e
  | .res_4_at_iyd_h => .resXydCopy .iy .b4 .h
  | .res_4_at_iyd_l => .resXydCopy .iy .b4 .l
  | .res_4_at_iyd => .resXyd .iy .b4
  | .res_4_at_iyd_a => .resXydCopy .iy .b4 .a
  | .res_5_at_iyd_b => .resXydCopy .iy .b5 .b
  | .res_5_at_iyd_c => .resXydCopy .iy .b5 .c
  | .res_5_at_iyd_d => .resXydCopy .iy .b5 .d
  | .res_5_at_iyd_e => .resXydCopy .iy .b5 .e
  | .res_5_at_iyd_h => .resXydCopy .iy .b5 .h
  | .res_5_at_iyd_l => .resXydCopy .iy .b5 .l
  | .res_5_at_iyd => .resXyd .iy .b5
  | .res_5_at_iyd_a => .resXydCopy .iy .b5 .a
  | .res_6_at_iyd_b => .resXydCopy .iy .b6 .b
  | .res_6_at_iyd_c => .resXydCopy .iy .b6 .c
  | .res_6_at_iyd_d => .resXydCopy .iy .b6 .d
  | .res_6_at_iyd_e => .resXydCopy .iy .b6 .e
  | .res_6_at_iyd_h => .resXydCopy .iy .b6 .h
  | .res_6_at_iyd_l => .resXydCopy .iy .b6 .l
  | .res_6_at_iyd => .resXyd .iy .b6
  | .res_6_at_iyd_a => .resXydCopy .iy .b6 .a
  | .res_7_at_iyd_b => .resXydCopy .iy .b7 .b
  | .res_7_at_iyd_c => .resXydCopy .iy .b7 .c
  | .res_7_at_iyd_d => .resXydCopy .iy .b7 .d
  | .res_7_at_iyd_e => .resXydCopy .iy .b7 .e
  | .res_7_at_iyd_h => .resXydCopy .iy .b7 .h
  | .res_7_at_iyd_l => .resXydCopy .iy .b7 .l
  | .res_7_at_iyd => .resXyd .iy .b7
  | .res_7_at_iyd_a => .resXydCopy .iy .b7 .a
  | .set_0_at_iyd_b => .setXydCopy .iy .b0 .b
  | .set_0_at_iyd_c => .setXydCopy .iy .b0 .c
  | .set_0_at_iyd_d => .setXydCopy .iy .b0 .d
  | .set_0_at_iyd_e => .setXydCopy .iy .b0 .e
  | .set_0_at_iyd_h => .setXydCopy .iy .b0 .h
  | .set_0_at_iyd_l => .setXydCopy .iy .b0 .l
  | .set_0_at_iyd => .setXyd .iy .b0
  | .set_0_at_iyd_a => .setXydCopy .iy .b0 .a
  | .set_1_at_iyd_b => .setXydCopy .iy .b1 .b
  | .set_1_at_iyd_c => .setXydCopy .iy .b1 .c
  | .set_1_at_iyd_d => .setXydCopy .iy .b1 .d
  | .set_1_at_iyd_e => .setXydCopy .iy .b1 .e
  | .set_1_at_iyd_h => .setXydCopy .iy .b1 .h
  | .set_1_at_iyd_l => .setXydCopy .iy .b1 .l
  | .set_1_at_iyd => .setXyd .iy .b1
  | .set_1_at_iyd_a => .setXydCopy .iy .b1 .a
  | .set_2_at_iyd_b => .setXydCopy .iy .b2 .b
  | .set_2_at_iyd_c => .setXydCopy .iy .b2 .c
  | .set_2_at_iyd_d => .setXydCopy .iy .b2 .d
  | .set_2_at_iyd_e => .setXydCopy .iy .b2 .e
  | .set_2_at_iyd_h => .setXydCopy .iy .b2 .h
  | .set_2_at_iyd_l => .setXydCopy .iy .b2 .l
  | .set_2_at_iyd => .setXyd .iy .b2
  | .set_2_at_iyd_a => .setXydCopy .iy .b2 .a
  | .set_3_at_iyd_b => .setXydCopy .iy .b3 .b
  | .set_3_at_iyd_c => .setXydCopy .iy .b3 .c
  | .set_3_at_iyd_d => .setXydCopy .iy .b3 .d
  | .set_3_at_iyd_e => .setXydCopy .iy .b3 .e
  | .set_3_at_iyd_h => .setXydCopy .iy .b3 .h
  | .set_3_at_iyd_l => .setXydCopy .iy .b3 .l
  | .set_3_at_iyd => .setXyd .iy .b3
  | .set_3_at_iyd_a => .setXydCopy .iy .b3 .a
  | .set_4_at_iyd_b => .setXydCopy .iy .b4 .b
  | .set_4_at_iyd_c => .setXydCopy .iy .b4 .c
  | .set_4_at_iyd_d => .setXydCopy .iy .b4 .d
  | .set_4_at_iyd_e => .setXydCopy .iy .b4 .e
  | .set_4_at_iyd_h => .setXydCopy .iy .b4 .h
  | .set_4_at_iyd_l => .setXydCopy .iy .b4 .l
  | .set_4_at_iyd => .setXyd .iy .b4
  | .set_4_at_iyd_a => .setXydCopy .iy .b4 .a
  | .set_5_at_iyd_b => .setXydCopy .iy .b5 .b
  | .set_5_at_iyd_c => .setXydCopy .iy .b5 .c
  | .set_5_at_iyd_d => .setXydCopy .iy .b5 .d
  | .set_5_at_iyd_e => .setXydCopy .iy .b5 .e
  | .set_5_at_iyd_h => .setXydCopy .iy .b5 .h
  | .set_5_at_iyd_l => .setXydCopy .iy .b5 .l
  | .set_5_at_iyd => .setXyd .iy .b5
  | .set_5_at_iyd_a => .setXydCopy .iy .b5 .a
  | .set_6_at_iyd_b => .setXydCopy .iy .b6 .b
  | .set_6_at_iyd_c => .setXydCopy .iy .b6 .c
  | .set_6_at_iyd_d => .setXydCopy .iy .b6 .d
  | .set_6_at_iyd_e => .setXydCopy .iy .b6 .e
  | .set_6_at_iyd_h => .setXydCopy .iy .b6 .h
  | .set_6_at_iyd_l => .setXydCopy .iy .b6 .l
  | .set_6_at_iyd => .setXyd .iy .b6
  | .set_6_at_iyd_a => .setXydCopy .iy .b6 .a
  | .set_7_at_iyd_b => .setXydCopy .iy .b7 .b
  | .set_7_at_iyd_c => .setXydCopy .iy .b7 .c
  | .set_7_at_iyd_d => .setXydCopy .iy .b7 .d
  | .set_7_at_iyd_e => .setXydCopy .iy .b7 .e
  | .set_7_at_iyd_h => .setXydCopy .iy .b7 .h
  | .set_7_at_iyd_l => .setXydCopy .iy .b7 .l
  | .set_7_at_iyd => .setXyd .iy .b7
  | .set_7_at_iyd_a => .setXydCopy .iy .b7 .a
  | .in_b_at_c => .inReg .b
  | .out_at_c_b => .outReg .b
  | .sbc_hl_bc => .sbcHl .bc
  | .ld_at_nn_bc => .ldAtNnPair .bc
  | .ld_i_a => .ldIA
  | .in_c_at_c => .inReg .c
  | .out_at_c_c => .outReg .c
  | .adc_hl_bc => .adcHl .bc
  | .ld_bc_at_nn => .ldPairAtNn .bc
  | .reti => .reti
  | .ld_r_a => .ldRA
  | .in_d_at_c => .inReg .d
  | .out_at_c_d => .outReg .d
  | .sbc_hl_de => .sbcHl .de
  | .ld_at_nn_de => .ldAtNnPair .de
  | .ld_a_i => .ldAI
  | .in_e_at_c => .inReg .e
  | .out_at_c_e => .outReg .e
  | .adc_hl_de => .adcHl .de
  | .ld_de_at_nn => .ldPairAtNn .de
  | .ld_a_r => .ldAR
  | .in_h_at_c => .inReg .h
  | .out_at_c_h => .outReg .h
  | .sbc_hl_hl => .sbcHl .hl
  | .ld_at_nn_hl_ed => .ldAtNnPair .hl
  | .rrd => .rrd
  | .in_l_at_c => .inReg .l
  | .out_at_c_l => .outReg .l
  | .adc_hl_hl => .adcHl .hl
  | .ld_hl_at_nn_ed => .ldPairAtNn .hl
  | .rld => .rld
  | .in_at_c => .inFlags
  | .out_at_c_0 => .outZero
  | .sbc_hl_sp => .sbcHl .sp
  | .ld_at_nn_sp => .ldAtNnPair .sp
  | .in_a_at_c => .inReg .a
  | .out_at_c_a => .outReg .a
  | .adc_hl_sp => .adcHl .sp
  | .ld_sp_at_nn => .ldPairAtNn .sp
  | .ldi => .ldi
  | .cpi => .cpi
  | .ini => .ini
  | .outi => .outi
  | .ldd => .ldd
  | .cpd => .cpd
  | .ind => .ind
  | .outd => .outd
  | .ldir => .ldir
  | .cpir => .cpir
  | .inir => .inir
  | .otir => .otir
  | .lddr => .lddr
  | .cpdr => .cpdr
  | .indr => .indr
  | .otdr => .otdr

/-- Every instruction is the row of its form. -/
theorem formOf_instr (i : Instr) : (formOf i).instr = i := by
  cases i <;> rfl

/-- Every instruction answers a next state: that of its form's operation. -/
theorem exec_formOf (i : Instr) (s : State) : exec i s = .next (formRun (formOf i) s) := by
  rw [← exec_instr, formOf_instr]

/-- A form is its row's form: no two forms share a row. -/
theorem formOf_form (f : Form) : formOf f.instr = f := by
  cases f with
  | ldRegReg r q => cases r <;> cases q <;> rfl
  | ldRegImm r => cases r <;> rfl
  | ldRegAtHl r => cases r <;> rfl
  | ldAtHlReg r => cases r <;> rfl
  | ldAtHlImm => rfl
  | ldAAtBc => rfl
  | ldAAtDe => rfl
  | ldAAtNn => rfl
  | ldAtBcA => rfl
  | ldAtDeA => rfl
  | ldAtNnA => rfl
  | ldPairImm p => cases p <;> rfl
  | ldHlAtNn => rfl
  | ldAtNnHl => rfl
  | ldSpHl => rfl
  | push p => cases p <;> rfl
  | pop p => cases p <;> rfl
  | exDeHl => rfl
  | exAf => rfl
  | exx => rfl
  | exSpHl => rfl
  | aluReg op r => cases op <;> cases r <;> rfl
  | aluAtHl op => cases op <;> rfl
  | aluImm op => cases op <;> rfl
  | incReg r => cases r <;> rfl
  | incAtHl => rfl
  | decReg r => cases r <;> rfl
  | decAtHl => rfl
  | daa => rfl
  | cpl => rfl
  | scf => rfl
  | ccf => rfl
  | rlca => rfl
  | rrca => rfl
  | rla => rfl
  | rra => rfl
  | addHl p => cases p <;> rfl
  | incPair p => cases p <;> rfl
  | decPair p => cases p <;> rfl
  | jp => rfl
  | jpCc cc => cases cc <;> rfl
  | jpHl => rfl
  | jr => rfl
  | jrCc cc => cases cc <;> rfl
  | djnz => rfl
  | call => rfl
  | callCc cc => cases cc <;> rfl
  | ret => rfl
  | retCc cc => cases cc <;> rfl
  | rst y => cases y <;> rfl
  | nop => rfl
  | halt => rfl
  | di => rfl
  | ei => rfl
  | inA => rfl
  | outA => rfl
  | prefixCb => rfl
  | prefixDd => rfl
  | prefixEd => rfl
  | prefixFd => rfl
  | ldXyImm x => cases x <;> rfl
  | ldAtNnXy x => cases x <;> rfl
  | ldXyAtNn x => cases x <;> rfl
  | ldSpXy x => cases x <;> rfl
  | pushXy x => cases x <;> rfl
  | popXy x => cases x <;> rfl
  | exSpXy x => cases x <;> rfl
  | jpXy x => cases x <;> rfl
  | addXy x p => cases x <;> cases p <;> rfl
  | incXy x => cases x <;> rfl
  | decXy x => cases x <;> rfl
  | ldRegXyd x r => cases x <;> cases r <;> rfl
  | ldXydReg x r => cases x <;> cases r <;> rfl
  | ldXydImm x => cases x <;> rfl
  | incXyd x => cases x <;> rfl
  | decXyd x => cases x <;> rfl
  | aluXyd x op => cases x <;> cases op <;> rfl
  | ldHalfImm x h => cases x <;> cases h <;> rfl
  | ldRegHalf x r h => cases x <;> cases r <;> cases h <;> rfl
  | ldHalfReg x h r => cases x <;> cases h <;> cases r <;> rfl
  | ldHalfHalf x h k => cases x <;> cases h <;> cases k <;> rfl
  | incHalf x h => cases x <;> cases h <;> rfl
  | decHalf x h => cases x <;> cases h <;> rfl
  | aluHalf x op h => cases x <;> cases op <;> cases h <;> rfl
  | rotReg k r => cases k <;> cases r <;> rfl
  | rotAtHl k => cases k <;> rfl
  | bitReg b r => cases b <;> cases r <;> rfl
  | bitAtHl b => cases b <;> rfl
  | resReg b r => cases b <;> cases r <;> rfl
  | resAtHl b => cases b <;> rfl
  | setReg b r => cases b <;> cases r <;> rfl
  | setAtHl b => cases b <;> rfl
  | rotXyd x k => cases x <;> cases k <;> rfl
  | rotXydCopy x k r => cases x <;> cases k <;> cases r <;> rfl
  | bitXyd x b z => cases x <;> cases b <;> rfl
  | resXyd x b => cases x <;> cases b <;> rfl
  | resXydCopy x b r => cases x <;> cases b <;> cases r <;> rfl
  | setXyd x b => cases x <;> cases b <;> rfl
  | setXydCopy x b r => cases x <;> cases b <;> cases r <;> rfl
  | inReg r => cases r <;> rfl
  | inFlags => rfl
  | outReg r => cases r <;> rfl
  | outZero => rfl
  | sbcHl p => cases p <;> rfl
  | adcHl p => cases p <;> rfl
  | ldAtNnPair p => cases p <;> rfl
  | ldPairAtNn p => cases p <;> rfl
  | neg y => rfl
  | retn y => rfl
  | reti => rfl
  | im m y => cases m <;> rfl
  | ldIA => rfl
  | ldRA => rfl
  | ldAI => rfl
  | ldAR => rfl
  | rrd => rfl
  | rld => rfl
  | ldi => rfl
  | ldd => rfl
  | ldir => rfl
  | lddr => rfl
  | cpi => rfl
  | cpd => rfl
  | cpir => rfl
  | cpdr => rfl
  | ini => rfl
  | ind => rfl
  | inir => rfl
  | indr => rfl
  | outi => rfl
  | outd => rfl
  | otir => rfl
  | otdr => rfl
  | nopEd op => rfl

/-- A form is known from its row. -/
theorem form_of_instr {f g : Form} (h : f.instr = g.instr) : f = g := by
  rw [← formOf_form f, h, formOf_form]

end Sys2Proof.Machine
end

