-- ==== Sys2Proof/Laws/State.lean ====
section
/-! SUPPORT. One lemma for each field and each update (generated), so that no proof unfolds a record update. -/

namespace Sys2Proof.Machine

variable (s : State)

theorem word_add_one_one (a : Word) : a + 1#16 + 1#16 = a + 2#16 := by
  rw [BitVec.add_assoc]; rfl

@[ext] theorem State.eq_of_fields {s t : State} (regs : s.regs = t.regs) (afAlt : s.afAlt = t.afAlt) (bcAlt : s.bcAlt = t.bcAlt) (deAlt : s.deAlt = t.deAlt) (hlAlt : s.hlAlt = t.hlAlt) (ix : s.ix = t.ix) (iy : s.iy = t.iy) (sp : s.sp = t.sp) (pc : s.pc = t.pc) (wz : s.wz = t.wz) (iReg : s.iReg = t.iReg) (rReg : s.rReg = t.rReg) (iff1 : s.iff1 = t.iff1) (iff2 : s.iff2 = t.iff2) (im : s.im = t.im) (sig : s.sig = t.sig) (blocked : s.blocked = t.blocked) (inOp : s.inOp = t.inOp) (prefixMode : s.prefixMode = t.prefixMode) (indexMode : s.indexMode = t.indexMode) (opCode : s.opCode = t.opCode) (tacts : s.tacts = t.tacts) (mem : s.mem = t.mem) (cfg : s.cfg = t.cfg) (disp : s.disp = t.disp) (log : s.log = t.log) (portInputs : s.portInputs = t.portInputs) (portReads : s.portReads = t.portReads) : s = t := by
  cases s; cases t; simp_all

/-! ### `tick` -/

@[simp] theorem State.tick_regs (n : Nat) : (s.tick n).regs = s.regs := rfl
@[simp] theorem State.tick_afAlt (n : Nat) : (s.tick n).afAlt = s.afAlt := rfl
@[simp] theorem State.tick_bcAlt (n : Nat) : (s.tick n).bcAlt = s.bcAlt := rfl
@[simp] theorem State.tick_deAlt (n : Nat) : (s.tick n).deAlt = s.deAlt := rfl
@[simp] theorem State.tick_hlAlt (n : Nat) : (s.tick n).hlAlt = s.hlAlt := rfl
@[simp] theorem State.tick_ix (n : Nat) : (s.tick n).ix = s.ix := rfl
@[simp] theorem State.tick_iy (n : Nat) : (s.tick n).iy = s.iy := rfl
@[simp] theorem State.tick_sp (n : Nat) : (s.tick n).sp = s.sp := rfl
@[simp] theorem State.tick_pc (n : Nat) : (s.tick n).pc = s.pc := rfl
@[simp] theorem State.tick_wz (n : Nat) : (s.tick n).wz = s.wz := rfl
@[simp] theorem State.tick_iReg (n : Nat) : (s.tick n).iReg = s.iReg := rfl
@[simp] theorem State.tick_rReg (n : Nat) : (s.tick n).rReg = s.rReg := rfl
@[simp] theorem State.tick_iff1 (n : Nat) : (s.tick n).iff1 = s.iff1 := rfl
@[simp] theorem State.tick_iff2 (n : Nat) : (s.tick n).iff2 = s.iff2 := rfl
@[simp] theorem State.tick_im (n : Nat) : (s.tick n).im = s.im := rfl
@[simp] theorem State.tick_sig (n : Nat) : (s.tick n).sig = s.sig := rfl
@[simp] theorem State.tick_blocked (n : Nat) : (s.tick n).blocked = s.blocked := rfl
@[simp] theorem State.tick_inOp (n : Nat) : (s.tick n).inOp = s.inOp := rfl
@[simp] theorem State.tick_prefixMode (n : Nat) : (s.tick n).prefixMode = s.prefixMode := rfl
@[simp] theorem State.tick_indexMode (n : Nat) : (s.tick n).indexMode = s.indexMode := rfl
@[simp] theorem State.tick_opCode (n : Nat) : (s.tick n).opCode = s.opCode := rfl
@[simp] theorem State.tick_tacts (n : Nat) : (s.tick n).tacts = s.tacts + n := rfl
@[simp] theorem State.tick_mem (n : Nat) : (s.tick n).mem = s.mem := rfl
@[simp] theorem State.tick_cfg (n : Nat) : (s.tick n).cfg = s.cfg := rfl
@[simp] theorem State.tick_disp (n : Nat) : (s.tick n).disp = s.disp := rfl
@[simp] theorem State.tick_log (n : Nat) : (s.tick n).log = s.log := rfl
@[simp] theorem State.tick_portInputs (n : Nat) : (s.tick n).portInputs = s.portInputs := rfl
@[simp] theorem State.tick_portReads (n : Nat) : (s.tick n).portReads = s.portReads := rfl

/-! ### `note` -/

@[simp] theorem State.note_regs (k : BusKind) (a : Word) (v : Byte) : (s.note k a v).regs = s.regs := rfl
@[simp] theorem State.note_afAlt (k : BusKind) (a : Word) (v : Byte) : (s.note k a v).afAlt = s.afAlt := rfl
@[simp] theorem State.note_bcAlt (k : BusKind) (a : Word) (v : Byte) : (s.note k a v).bcAlt = s.bcAlt := rfl
@[simp] theorem State.note_deAlt (k : BusKind) (a : Word) (v : Byte) : (s.note k a v).deAlt = s.deAlt := rfl
@[simp] theorem State.note_hlAlt (k : BusKind) (a : Word) (v : Byte) : (s.note k a v).hlAlt = s.hlAlt := rfl
@[simp] theorem State.note_ix (k : BusKind) (a : Word) (v : Byte) : (s.note k a v).ix = s.ix := rfl
@[simp] theorem State.note_iy (k : BusKind) (a : Word) (v : Byte) : (s.note k a v).iy = s.iy := rfl
@[simp] theorem State.note_sp (k : BusKind) (a : Word) (v : Byte) : (s.note k a v).sp = s.sp := rfl
@[simp] theorem State.note_pc (k : BusKind) (a : Word) (v : Byte) : (s.note k a v).pc = s.pc := rfl
@[simp] theorem State.note_wz (k : BusKind) (a : Word) (v : Byte) : (s.note k a v).wz = s.wz := rfl
@[simp] theorem State.note_iReg (k : BusKind) (a : Word) (v : Byte) : (s.note k a v).iReg = s.iReg := rfl
@[simp] theorem State.note_rReg (k : BusKind) (a : Word) (v : Byte) : (s.note k a v).rReg = s.rReg := rfl
@[simp] theorem State.note_iff1 (k : BusKind) (a : Word) (v : Byte) : (s.note k a v).iff1 = s.iff1 := rfl
@[simp] theorem State.note_iff2 (k : BusKind) (a : Word) (v : Byte) : (s.note k a v).iff2 = s.iff2 := rfl
@[simp] theorem State.note_im (k : BusKind) (a : Word) (v : Byte) : (s.note k a v).im = s.im := rfl
@[simp] theorem State.note_sig (k : BusKind) (a : Word) (v : Byte) : (s.note k a v).sig = s.sig := rfl
@[simp] theorem State.note_blocked (k : BusKind) (a : Word) (v : Byte) : (s.note k a v).blocked = s.blocked := rfl
@[simp] theorem State.note_inOp (k : BusKind) (a : Word) (v : Byte) : (s.note k a v).inOp = s.inOp := rfl
@[simp] theorem State.note_prefixMode (k : BusKind) (a : Word) (v : Byte) : (s.note k a v).prefixMode = s.prefixMode := rfl
@[simp] theorem State.note_indexMode (k : BusKind) (a : Word) (v : Byte) : (s.note k a v).indexMode = s.indexMode := rfl
@[simp] theorem State.note_opCode (k : BusKind) (a : Word) (v : Byte) : (s.note k a v).opCode = s.opCode := rfl
@[simp] theorem State.note_tacts (k : BusKind) (a : Word) (v : Byte) : (s.note k a v).tacts = s.tacts := rfl
@[simp] theorem State.note_mem (k : BusKind) (a : Word) (v : Byte) : (s.note k a v).mem = s.mem := rfl
@[simp] theorem State.note_cfg (k : BusKind) (a : Word) (v : Byte) : (s.note k a v).cfg = s.cfg := rfl
@[simp] theorem State.note_disp (k : BusKind) (a : Word) (v : Byte) : (s.note k a v).disp = s.disp := rfl
@[simp] theorem State.note_log (k : BusKind) (a : Word) (v : Byte) : (s.note k a v).log = ⟨k, a, v, s.tacts⟩ :: s.log := rfl
@[simp] theorem State.note_portInputs (k : BusKind) (a : Word) (v : Byte) : (s.note k a v).portInputs = s.portInputs := rfl
@[simp] theorem State.note_portReads (k : BusKind) (a : Word) (v : Byte) : (s.note k a v).portReads = s.portReads := rfl

/-! ### `setPc` -/

@[simp] theorem State.setPc_regs (v : Word) : (s.setPc v).regs = s.regs := rfl
@[simp] theorem State.setPc_afAlt (v : Word) : (s.setPc v).afAlt = s.afAlt := rfl
@[simp] theorem State.setPc_bcAlt (v : Word) : (s.setPc v).bcAlt = s.bcAlt := rfl
@[simp] theorem State.setPc_deAlt (v : Word) : (s.setPc v).deAlt = s.deAlt := rfl
@[simp] theorem State.setPc_hlAlt (v : Word) : (s.setPc v).hlAlt = s.hlAlt := rfl
@[simp] theorem State.setPc_ix (v : Word) : (s.setPc v).ix = s.ix := rfl
@[simp] theorem State.setPc_iy (v : Word) : (s.setPc v).iy = s.iy := rfl
@[simp] theorem State.setPc_sp (v : Word) : (s.setPc v).sp = s.sp := rfl
@[simp] theorem State.setPc_pc (v : Word) : (s.setPc v).pc = v := rfl
@[simp] theorem State.setPc_wz (v : Word) : (s.setPc v).wz = s.wz := rfl
@[simp] theorem State.setPc_iReg (v : Word) : (s.setPc v).iReg = s.iReg := rfl
@[simp] theorem State.setPc_rReg (v : Word) : (s.setPc v).rReg = s.rReg := rfl
@[simp] theorem State.setPc_iff1 (v : Word) : (s.setPc v).iff1 = s.iff1 := rfl
@[simp] theorem State.setPc_iff2 (v : Word) : (s.setPc v).iff2 = s.iff2 := rfl
@[simp] theorem State.setPc_im (v : Word) : (s.setPc v).im = s.im := rfl
@[simp] theorem State.setPc_sig (v : Word) : (s.setPc v).sig = s.sig := rfl
@[simp] theorem State.setPc_blocked (v : Word) : (s.setPc v).blocked = s.blocked := rfl
@[simp] theorem State.setPc_inOp (v : Word) : (s.setPc v).inOp = s.inOp := rfl
@[simp] theorem State.setPc_prefixMode (v : Word) : (s.setPc v).prefixMode = s.prefixMode := rfl
@[simp] theorem State.setPc_indexMode (v : Word) : (s.setPc v).indexMode = s.indexMode := rfl
@[simp] theorem State.setPc_opCode (v : Word) : (s.setPc v).opCode = s.opCode := rfl
@[simp] theorem State.setPc_tacts (v : Word) : (s.setPc v).tacts = s.tacts := rfl
@[simp] theorem State.setPc_mem (v : Word) : (s.setPc v).mem = s.mem := rfl
@[simp] theorem State.setPc_cfg (v : Word) : (s.setPc v).cfg = s.cfg := rfl
@[simp] theorem State.setPc_disp (v : Word) : (s.setPc v).disp = s.disp := rfl
@[simp] theorem State.setPc_log (v : Word) : (s.setPc v).log = s.log := rfl
@[simp] theorem State.setPc_portInputs (v : Word) : (s.setPc v).portInputs = s.portInputs := rfl
@[simp] theorem State.setPc_portReads (v : Word) : (s.setPc v).portReads = s.portReads := rfl

/-! ### `setWz` -/

@[simp] theorem State.setWz_regs (v : Word) : (s.setWz v).regs = s.regs := rfl
@[simp] theorem State.setWz_afAlt (v : Word) : (s.setWz v).afAlt = s.afAlt := rfl
@[simp] theorem State.setWz_bcAlt (v : Word) : (s.setWz v).bcAlt = s.bcAlt := rfl
@[simp] theorem State.setWz_deAlt (v : Word) : (s.setWz v).deAlt = s.deAlt := rfl
@[simp] theorem State.setWz_hlAlt (v : Word) : (s.setWz v).hlAlt = s.hlAlt := rfl
@[simp] theorem State.setWz_ix (v : Word) : (s.setWz v).ix = s.ix := rfl
@[simp] theorem State.setWz_iy (v : Word) : (s.setWz v).iy = s.iy := rfl
@[simp] theorem State.setWz_sp (v : Word) : (s.setWz v).sp = s.sp := rfl
@[simp] theorem State.setWz_pc (v : Word) : (s.setWz v).pc = s.pc := rfl
@[simp] theorem State.setWz_wz (v : Word) : (s.setWz v).wz = v := rfl
@[simp] theorem State.setWz_iReg (v : Word) : (s.setWz v).iReg = s.iReg := rfl
@[simp] theorem State.setWz_rReg (v : Word) : (s.setWz v).rReg = s.rReg := rfl
@[simp] theorem State.setWz_iff1 (v : Word) : (s.setWz v).iff1 = s.iff1 := rfl
@[simp] theorem State.setWz_iff2 (v : Word) : (s.setWz v).iff2 = s.iff2 := rfl
@[simp] theorem State.setWz_im (v : Word) : (s.setWz v).im = s.im := rfl
@[simp] theorem State.setWz_sig (v : Word) : (s.setWz v).sig = s.sig := rfl
@[simp] theorem State.setWz_blocked (v : Word) : (s.setWz v).blocked = s.blocked := rfl
@[simp] theorem State.setWz_inOp (v : Word) : (s.setWz v).inOp = s.inOp := rfl
@[simp] theorem State.setWz_prefixMode (v : Word) : (s.setWz v).prefixMode = s.prefixMode := rfl
@[simp] theorem State.setWz_indexMode (v : Word) : (s.setWz v).indexMode = s.indexMode := rfl
@[simp] theorem State.setWz_opCode (v : Word) : (s.setWz v).opCode = s.opCode := rfl
@[simp] theorem State.setWz_tacts (v : Word) : (s.setWz v).tacts = s.tacts := rfl
@[simp] theorem State.setWz_mem (v : Word) : (s.setWz v).mem = s.mem := rfl
@[simp] theorem State.setWz_cfg (v : Word) : (s.setWz v).cfg = s.cfg := rfl
@[simp] theorem State.setWz_disp (v : Word) : (s.setWz v).disp = s.disp := rfl
@[simp] theorem State.setWz_log (v : Word) : (s.setWz v).log = s.log := rfl
@[simp] theorem State.setWz_portInputs (v : Word) : (s.setWz v).portInputs = s.portInputs := rfl
@[simp] theorem State.setWz_portReads (v : Word) : (s.setWz v).portReads = s.portReads := rfl

/-! ### `setSp` -/

@[simp] theorem State.setSp_regs (v : Word) : (s.setSp v).regs = s.regs := rfl
@[simp] theorem State.setSp_afAlt (v : Word) : (s.setSp v).afAlt = s.afAlt := rfl
@[simp] theorem State.setSp_bcAlt (v : Word) : (s.setSp v).bcAlt = s.bcAlt := rfl
@[simp] theorem State.setSp_deAlt (v : Word) : (s.setSp v).deAlt = s.deAlt := rfl
@[simp] theorem State.setSp_hlAlt (v : Word) : (s.setSp v).hlAlt = s.hlAlt := rfl
@[simp] theorem State.setSp_ix (v : Word) : (s.setSp v).ix = s.ix := rfl
@[simp] theorem State.setSp_iy (v : Word) : (s.setSp v).iy = s.iy := rfl
@[simp] theorem State.setSp_sp (v : Word) : (s.setSp v).sp = v := rfl
@[simp] theorem State.setSp_pc (v : Word) : (s.setSp v).pc = s.pc := rfl
@[simp] theorem State.setSp_wz (v : Word) : (s.setSp v).wz = s.wz := rfl
@[simp] theorem State.setSp_iReg (v : Word) : (s.setSp v).iReg = s.iReg := rfl
@[simp] theorem State.setSp_rReg (v : Word) : (s.setSp v).rReg = s.rReg := rfl
@[simp] theorem State.setSp_iff1 (v : Word) : (s.setSp v).iff1 = s.iff1 := rfl
@[simp] theorem State.setSp_iff2 (v : Word) : (s.setSp v).iff2 = s.iff2 := rfl
@[simp] theorem State.setSp_im (v : Word) : (s.setSp v).im = s.im := rfl
@[simp] theorem State.setSp_sig (v : Word) : (s.setSp v).sig = s.sig := rfl
@[simp] theorem State.setSp_blocked (v : Word) : (s.setSp v).blocked = s.blocked := rfl
@[simp] theorem State.setSp_inOp (v : Word) : (s.setSp v).inOp = s.inOp := rfl
@[simp] theorem State.setSp_prefixMode (v : Word) : (s.setSp v).prefixMode = s.prefixMode := rfl
@[simp] theorem State.setSp_indexMode (v : Word) : (s.setSp v).indexMode = s.indexMode := rfl
@[simp] theorem State.setSp_opCode (v : Word) : (s.setSp v).opCode = s.opCode := rfl
@[simp] theorem State.setSp_tacts (v : Word) : (s.setSp v).tacts = s.tacts := rfl
@[simp] theorem State.setSp_mem (v : Word) : (s.setSp v).mem = s.mem := rfl
@[simp] theorem State.setSp_cfg (v : Word) : (s.setSp v).cfg = s.cfg := rfl
@[simp] theorem State.setSp_disp (v : Word) : (s.setSp v).disp = s.disp := rfl
@[simp] theorem State.setSp_log (v : Word) : (s.setSp v).log = s.log := rfl
@[simp] theorem State.setSp_portInputs (v : Word) : (s.setSp v).portInputs = s.portInputs := rfl
@[simp] theorem State.setSp_portReads (v : Word) : (s.setSp v).portReads = s.portReads := rfl

/-! ### `setAf` -/

@[simp] theorem State.setAf_regs (v : Word) : (s.setAf v).regs = { s.regs with a := highByte v, f := lowByte v } := rfl
@[simp] theorem State.setAf_afAlt (v : Word) : (s.setAf v).afAlt = s.afAlt := rfl
@[simp] theorem State.setAf_bcAlt (v : Word) : (s.setAf v).bcAlt = s.bcAlt := rfl
@[simp] theorem State.setAf_deAlt (v : Word) : (s.setAf v).deAlt = s.deAlt := rfl
@[simp] theorem State.setAf_hlAlt (v : Word) : (s.setAf v).hlAlt = s.hlAlt := rfl
@[simp] theorem State.setAf_ix (v : Word) : (s.setAf v).ix = s.ix := rfl
@[simp] theorem State.setAf_iy (v : Word) : (s.setAf v).iy = s.iy := rfl
@[simp] theorem State.setAf_sp (v : Word) : (s.setAf v).sp = s.sp := rfl
@[simp] theorem State.setAf_pc (v : Word) : (s.setAf v).pc = s.pc := rfl
@[simp] theorem State.setAf_wz (v : Word) : (s.setAf v).wz = s.wz := rfl
@[simp] theorem State.setAf_iReg (v : Word) : (s.setAf v).iReg = s.iReg := rfl
@[simp] theorem State.setAf_rReg (v : Word) : (s.setAf v).rReg = s.rReg := rfl
@[simp] theorem State.setAf_iff1 (v : Word) : (s.setAf v).iff1 = s.iff1 := rfl
@[simp] theorem State.setAf_iff2 (v : Word) : (s.setAf v).iff2 = s.iff2 := rfl
@[simp] theorem State.setAf_im (v : Word) : (s.setAf v).im = s.im := rfl
@[simp] theorem State.setAf_sig (v : Word) : (s.setAf v).sig = s.sig := rfl
@[simp] theorem State.setAf_blocked (v : Word) : (s.setAf v).blocked = s.blocked := rfl
@[simp] theorem State.setAf_inOp (v : Word) : (s.setAf v).inOp = s.inOp := rfl
@[simp] theorem State.setAf_prefixMode (v : Word) : (s.setAf v).prefixMode = s.prefixMode := rfl
@[simp] theorem State.setAf_indexMode (v : Word) : (s.setAf v).indexMode = s.indexMode := rfl
@[simp] theorem State.setAf_opCode (v : Word) : (s.setAf v).opCode = s.opCode := rfl
@[simp] theorem State.setAf_tacts (v : Word) : (s.setAf v).tacts = s.tacts := rfl
@[simp] theorem State.setAf_mem (v : Word) : (s.setAf v).mem = s.mem := rfl
@[simp] theorem State.setAf_cfg (v : Word) : (s.setAf v).cfg = s.cfg := rfl
@[simp] theorem State.setAf_disp (v : Word) : (s.setAf v).disp = s.disp := rfl
@[simp] theorem State.setAf_log (v : Word) : (s.setAf v).log = s.log := rfl
@[simp] theorem State.setAf_portInputs (v : Word) : (s.setAf v).portInputs = s.portInputs := rfl
@[simp] theorem State.setAf_portReads (v : Word) : (s.setAf v).portReads = s.portReads := rfl

/-! ### `setBc` -/

@[simp] theorem State.setBc_regs (v : Word) : (s.setBc v).regs = { s.regs with b := highByte v, c := lowByte v } := rfl
@[simp] theorem State.setBc_afAlt (v : Word) : (s.setBc v).afAlt = s.afAlt := rfl
@[simp] theorem State.setBc_bcAlt (v : Word) : (s.setBc v).bcAlt = s.bcAlt := rfl
@[simp] theorem State.setBc_deAlt (v : Word) : (s.setBc v).deAlt = s.deAlt := rfl
@[simp] theorem State.setBc_hlAlt (v : Word) : (s.setBc v).hlAlt = s.hlAlt := rfl
@[simp] theorem State.setBc_ix (v : Word) : (s.setBc v).ix = s.ix := rfl
@[simp] theorem State.setBc_iy (v : Word) : (s.setBc v).iy = s.iy := rfl
@[simp] theorem State.setBc_sp (v : Word) : (s.setBc v).sp = s.sp := rfl
@[simp] theorem State.setBc_pc (v : Word) : (s.setBc v).pc = s.pc := rfl
@[simp] theorem State.setBc_wz (v : Word) : (s.setBc v).wz = s.wz := rfl
@[simp] theorem State.setBc_iReg (v : Word) : (s.setBc v).iReg = s.iReg := rfl
@[simp] theorem State.setBc_rReg (v : Word) : (s.setBc v).rReg = s.rReg := rfl
@[simp] theorem State.setBc_iff1 (v : Word) : (s.setBc v).iff1 = s.iff1 := rfl
@[simp] theorem State.setBc_iff2 (v : Word) : (s.setBc v).iff2 = s.iff2 := rfl
@[simp] theorem State.setBc_im (v : Word) : (s.setBc v).im = s.im := rfl
@[simp] theorem State.setBc_sig (v : Word) : (s.setBc v).sig = s.sig := rfl
@[simp] theorem State.setBc_blocked (v : Word) : (s.setBc v).blocked = s.blocked := rfl
@[simp] theorem State.setBc_inOp (v : Word) : (s.setBc v).inOp = s.inOp := rfl
@[simp] theorem State.setBc_prefixMode (v : Word) : (s.setBc v).prefixMode = s.prefixMode := rfl
@[simp] theorem State.setBc_indexMode (v : Word) : (s.setBc v).indexMode = s.indexMode := rfl
@[simp] theorem State.setBc_opCode (v : Word) : (s.setBc v).opCode = s.opCode := rfl
@[simp] theorem State.setBc_tacts (v : Word) : (s.setBc v).tacts = s.tacts := rfl
@[simp] theorem State.setBc_mem (v : Word) : (s.setBc v).mem = s.mem := rfl
@[simp] theorem State.setBc_cfg (v : Word) : (s.setBc v).cfg = s.cfg := rfl
@[simp] theorem State.setBc_disp (v : Word) : (s.setBc v).disp = s.disp := rfl
@[simp] theorem State.setBc_log (v : Word) : (s.setBc v).log = s.log := rfl
@[simp] theorem State.setBc_portInputs (v : Word) : (s.setBc v).portInputs = s.portInputs := rfl
@[simp] theorem State.setBc_portReads (v : Word) : (s.setBc v).portReads = s.portReads := rfl

/-! ### `setDe` -/

@[simp] theorem State.setDe_regs (v : Word) : (s.setDe v).regs = { s.regs with d := highByte v, e := lowByte v } := rfl
@[simp] theorem State.setDe_afAlt (v : Word) : (s.setDe v).afAlt = s.afAlt := rfl
@[simp] theorem State.setDe_bcAlt (v : Word) : (s.setDe v).bcAlt = s.bcAlt := rfl
@[simp] theorem State.setDe_deAlt (v : Word) : (s.setDe v).deAlt = s.deAlt := rfl
@[simp] theorem State.setDe_hlAlt (v : Word) : (s.setDe v).hlAlt = s.hlAlt := rfl
@[simp] theorem State.setDe_ix (v : Word) : (s.setDe v).ix = s.ix := rfl
@[simp] theorem State.setDe_iy (v : Word) : (s.setDe v).iy = s.iy := rfl
@[simp] theorem State.setDe_sp (v : Word) : (s.setDe v).sp = s.sp := rfl
@[simp] theorem State.setDe_pc (v : Word) : (s.setDe v).pc = s.pc := rfl
@[simp] theorem State.setDe_wz (v : Word) : (s.setDe v).wz = s.wz := rfl
@[simp] theorem State.setDe_iReg (v : Word) : (s.setDe v).iReg = s.iReg := rfl
@[simp] theorem State.setDe_rReg (v : Word) : (s.setDe v).rReg = s.rReg := rfl
@[simp] theorem State.setDe_iff1 (v : Word) : (s.setDe v).iff1 = s.iff1 := rfl
@[simp] theorem State.setDe_iff2 (v : Word) : (s.setDe v).iff2 = s.iff2 := rfl
@[simp] theorem State.setDe_im (v : Word) : (s.setDe v).im = s.im := rfl
@[simp] theorem State.setDe_sig (v : Word) : (s.setDe v).sig = s.sig := rfl
@[simp] theorem State.setDe_blocked (v : Word) : (s.setDe v).blocked = s.blocked := rfl
@[simp] theorem State.setDe_inOp (v : Word) : (s.setDe v).inOp = s.inOp := rfl
@[simp] theorem State.setDe_prefixMode (v : Word) : (s.setDe v).prefixMode = s.prefixMode := rfl
@[simp] theorem State.setDe_indexMode (v : Word) : (s.setDe v).indexMode = s.indexMode := rfl
@[simp] theorem State.setDe_opCode (v : Word) : (s.setDe v).opCode = s.opCode := rfl
@[simp] theorem State.setDe_tacts (v : Word) : (s.setDe v).tacts = s.tacts := rfl
@[simp] theorem State.setDe_mem (v : Word) : (s.setDe v).mem = s.mem := rfl
@[simp] theorem State.setDe_cfg (v : Word) : (s.setDe v).cfg = s.cfg := rfl
@[simp] theorem State.setDe_disp (v : Word) : (s.setDe v).disp = s.disp := rfl
@[simp] theorem State.setDe_log (v : Word) : (s.setDe v).log = s.log := rfl
@[simp] theorem State.setDe_portInputs (v : Word) : (s.setDe v).portInputs = s.portInputs := rfl
@[simp] theorem State.setDe_portReads (v : Word) : (s.setDe v).portReads = s.portReads := rfl

/-! ### `setHl` -/

@[simp] theorem State.setHl_regs (v : Word) : (s.setHl v).regs = { s.regs with h := highByte v, l := lowByte v } := rfl
@[simp] theorem State.setHl_afAlt (v : Word) : (s.setHl v).afAlt = s.afAlt := rfl
@[simp] theorem State.setHl_bcAlt (v : Word) : (s.setHl v).bcAlt = s.bcAlt := rfl
@[simp] theorem State.setHl_deAlt (v : Word) : (s.setHl v).deAlt = s.deAlt := rfl
@[simp] theorem State.setHl_hlAlt (v : Word) : (s.setHl v).hlAlt = s.hlAlt := rfl
@[simp] theorem State.setHl_ix (v : Word) : (s.setHl v).ix = s.ix := rfl
@[simp] theorem State.setHl_iy (v : Word) : (s.setHl v).iy = s.iy := rfl
@[simp] theorem State.setHl_sp (v : Word) : (s.setHl v).sp = s.sp := rfl
@[simp] theorem State.setHl_pc (v : Word) : (s.setHl v).pc = s.pc := rfl
@[simp] theorem State.setHl_wz (v : Word) : (s.setHl v).wz = s.wz := rfl
@[simp] theorem State.setHl_iReg (v : Word) : (s.setHl v).iReg = s.iReg := rfl
@[simp] theorem State.setHl_rReg (v : Word) : (s.setHl v).rReg = s.rReg := rfl
@[simp] theorem State.setHl_iff1 (v : Word) : (s.setHl v).iff1 = s.iff1 := rfl
@[simp] theorem State.setHl_iff2 (v : Word) : (s.setHl v).iff2 = s.iff2 := rfl
@[simp] theorem State.setHl_im (v : Word) : (s.setHl v).im = s.im := rfl
@[simp] theorem State.setHl_sig (v : Word) : (s.setHl v).sig = s.sig := rfl
@[simp] theorem State.setHl_blocked (v : Word) : (s.setHl v).blocked = s.blocked := rfl
@[simp] theorem State.setHl_inOp (v : Word) : (s.setHl v).inOp = s.inOp := rfl
@[simp] theorem State.setHl_prefixMode (v : Word) : (s.setHl v).prefixMode = s.prefixMode := rfl
@[simp] theorem State.setHl_indexMode (v : Word) : (s.setHl v).indexMode = s.indexMode := rfl
@[simp] theorem State.setHl_opCode (v : Word) : (s.setHl v).opCode = s.opCode := rfl
@[simp] theorem State.setHl_tacts (v : Word) : (s.setHl v).tacts = s.tacts := rfl
@[simp] theorem State.setHl_mem (v : Word) : (s.setHl v).mem = s.mem := rfl
@[simp] theorem State.setHl_cfg (v : Word) : (s.setHl v).cfg = s.cfg := rfl
@[simp] theorem State.setHl_disp (v : Word) : (s.setHl v).disp = s.disp := rfl
@[simp] theorem State.setHl_log (v : Word) : (s.setHl v).log = s.log := rfl
@[simp] theorem State.setHl_portInputs (v : Word) : (s.setHl v).portInputs = s.portInputs := rfl
@[simp] theorem State.setHl_portReads (v : Word) : (s.setHl v).portReads = s.portReads := rfl

/-! ### `setA` -/

@[simp] theorem State.setA_regs (v : Byte) : (s.setA v).regs = { s.regs with a := v } := rfl
@[simp] theorem State.setA_afAlt (v : Byte) : (s.setA v).afAlt = s.afAlt := rfl
@[simp] theorem State.setA_bcAlt (v : Byte) : (s.setA v).bcAlt = s.bcAlt := rfl
@[simp] theorem State.setA_deAlt (v : Byte) : (s.setA v).deAlt = s.deAlt := rfl
@[simp] theorem State.setA_hlAlt (v : Byte) : (s.setA v).hlAlt = s.hlAlt := rfl
@[simp] theorem State.setA_ix (v : Byte) : (s.setA v).ix = s.ix := rfl
@[simp] theorem State.setA_iy (v : Byte) : (s.setA v).iy = s.iy := rfl
@[simp] theorem State.setA_sp (v : Byte) : (s.setA v).sp = s.sp := rfl
@[simp] theorem State.setA_pc (v : Byte) : (s.setA v).pc = s.pc := rfl
@[simp] theorem State.setA_wz (v : Byte) : (s.setA v).wz = s.wz := rfl
@[simp] theorem State.setA_iReg (v : Byte) : (s.setA v).iReg = s.iReg := rfl
@[simp] theorem State.setA_rReg (v : Byte) : (s.setA v).rReg = s.rReg := rfl
@[simp] theorem State.setA_iff1 (v : Byte) : (s.setA v).iff1 = s.iff1 := rfl
@[simp] theorem State.setA_iff2 (v : Byte) : (s.setA v).iff2 = s.iff2 := rfl
@[simp] theorem State.setA_im (v : Byte) : (s.setA v).im = s.im := rfl
@[simp] theorem State.setA_sig (v : Byte) : (s.setA v).sig = s.sig := rfl
@[simp] theorem State.setA_blocked (v : Byte) : (s.setA v).blocked = s.blocked := rfl
@[simp] theorem State.setA_inOp (v : Byte) : (s.setA v).inOp = s.inOp := rfl
@[simp] theorem State.setA_prefixMode (v : Byte) : (s.setA v).prefixMode = s.prefixMode := rfl
@[simp] theorem State.setA_indexMode (v : Byte) : (s.setA v).indexMode = s.indexMode := rfl
@[simp] theorem State.setA_opCode (v : Byte) : (s.setA v).opCode = s.opCode := rfl
@[simp] theorem State.setA_tacts (v : Byte) : (s.setA v).tacts = s.tacts := rfl
@[simp] theorem State.setA_mem (v : Byte) : (s.setA v).mem = s.mem := rfl
@[simp] theorem State.setA_cfg (v : Byte) : (s.setA v).cfg = s.cfg := rfl
@[simp] theorem State.setA_disp (v : Byte) : (s.setA v).disp = s.disp := rfl
@[simp] theorem State.setA_log (v : Byte) : (s.setA v).log = s.log := rfl
@[simp] theorem State.setA_portInputs (v : Byte) : (s.setA v).portInputs = s.portInputs := rfl
@[simp] theorem State.setA_portReads (v : Byte) : (s.setA v).portReads = s.portReads := rfl

/-! ### `setF` -/

@[simp] theorem State.setF_regs (v : Byte) : (s.setF v).regs = { s.regs with f := v } := rfl
@[simp] theorem State.setF_afAlt (v : Byte) : (s.setF v).afAlt = s.afAlt := rfl
@[simp] theorem State.setF_bcAlt (v : Byte) : (s.setF v).bcAlt = s.bcAlt := rfl
@[simp] theorem State.setF_deAlt (v : Byte) : (s.setF v).deAlt = s.deAlt := rfl
@[simp] theorem State.setF_hlAlt (v : Byte) : (s.setF v).hlAlt = s.hlAlt := rfl
@[simp] theorem State.setF_ix (v : Byte) : (s.setF v).ix = s.ix := rfl
@[simp] theorem State.setF_iy (v : Byte) : (s.setF v).iy = s.iy := rfl
@[simp] theorem State.setF_sp (v : Byte) : (s.setF v).sp = s.sp := rfl
@[simp] theorem State.setF_pc (v : Byte) : (s.setF v).pc = s.pc := rfl
@[simp] theorem State.setF_wz (v : Byte) : (s.setF v).wz = s.wz := rfl
@[simp] theorem State.setF_iReg (v : Byte) : (s.setF v).iReg = s.iReg := rfl
@[simp] theorem State.setF_rReg (v : Byte) : (s.setF v).rReg = s.rReg := rfl
@[simp] theorem State.setF_iff1 (v : Byte) : (s.setF v).iff1 = s.iff1 := rfl
@[simp] theorem State.setF_iff2 (v : Byte) : (s.setF v).iff2 = s.iff2 := rfl
@[simp] theorem State.setF_im (v : Byte) : (s.setF v).im = s.im := rfl
@[simp] theorem State.setF_sig (v : Byte) : (s.setF v).sig = s.sig := rfl
@[simp] theorem State.setF_blocked (v : Byte) : (s.setF v).blocked = s.blocked := rfl
@[simp] theorem State.setF_inOp (v : Byte) : (s.setF v).inOp = s.inOp := rfl
@[simp] theorem State.setF_prefixMode (v : Byte) : (s.setF v).prefixMode = s.prefixMode := rfl
@[simp] theorem State.setF_indexMode (v : Byte) : (s.setF v).indexMode = s.indexMode := rfl
@[simp] theorem State.setF_opCode (v : Byte) : (s.setF v).opCode = s.opCode := rfl
@[simp] theorem State.setF_tacts (v : Byte) : (s.setF v).tacts = s.tacts := rfl
@[simp] theorem State.setF_mem (v : Byte) : (s.setF v).mem = s.mem := rfl
@[simp] theorem State.setF_cfg (v : Byte) : (s.setF v).cfg = s.cfg := rfl
@[simp] theorem State.setF_disp (v : Byte) : (s.setF v).disp = s.disp := rfl
@[simp] theorem State.setF_log (v : Byte) : (s.setF v).log = s.log := rfl
@[simp] theorem State.setF_portInputs (v : Byte) : (s.setF v).portInputs = s.portInputs := rfl
@[simp] theorem State.setF_portReads (v : Byte) : (s.setF v).portReads = s.portReads := rfl

/-! ### `setB` -/

@[simp] theorem State.setB_regs (v : Byte) : (s.setB v).regs = { s.regs with b := v } := rfl
@[simp] theorem State.setB_afAlt (v : Byte) : (s.setB v).afAlt = s.afAlt := rfl
@[simp] theorem State.setB_bcAlt (v : Byte) : (s.setB v).bcAlt = s.bcAlt := rfl
@[simp] theorem State.setB_deAlt (v : Byte) : (s.setB v).deAlt = s.deAlt := rfl
@[simp] theorem State.setB_hlAlt (v : Byte) : (s.setB v).hlAlt = s.hlAlt := rfl
@[simp] theorem State.setB_ix (v : Byte) : (s.setB v).ix = s.ix := rfl
@[simp] theorem State.setB_iy (v : Byte) : (s.setB v).iy = s.iy := rfl
@[simp] theorem State.setB_sp (v : Byte) : (s.setB v).sp = s.sp := rfl
@[simp] theorem State.setB_pc (v : Byte) : (s.setB v).pc = s.pc := rfl
@[simp] theorem State.setB_wz (v : Byte) : (s.setB v).wz = s.wz := rfl
@[simp] theorem State.setB_iReg (v : Byte) : (s.setB v).iReg = s.iReg := rfl
@[simp] theorem State.setB_rReg (v : Byte) : (s.setB v).rReg = s.rReg := rfl
@[simp] theorem State.setB_iff1 (v : Byte) : (s.setB v).iff1 = s.iff1 := rfl
@[simp] theorem State.setB_iff2 (v : Byte) : (s.setB v).iff2 = s.iff2 := rfl
@[simp] theorem State.setB_im (v : Byte) : (s.setB v).im = s.im := rfl
@[simp] theorem State.setB_sig (v : Byte) : (s.setB v).sig = s.sig := rfl
@[simp] theorem State.setB_blocked (v : Byte) : (s.setB v).blocked = s.blocked := rfl
@[simp] theorem State.setB_inOp (v : Byte) : (s.setB v).inOp = s.inOp := rfl
@[simp] theorem State.setB_prefixMode (v : Byte) : (s.setB v).prefixMode = s.prefixMode := rfl
@[simp] theorem State.setB_indexMode (v : Byte) : (s.setB v).indexMode = s.indexMode := rfl
@[simp] theorem State.setB_opCode (v : Byte) : (s.setB v).opCode = s.opCode := rfl
@[simp] theorem State.setB_tacts (v : Byte) : (s.setB v).tacts = s.tacts := rfl
@[simp] theorem State.setB_mem (v : Byte) : (s.setB v).mem = s.mem := rfl
@[simp] theorem State.setB_cfg (v : Byte) : (s.setB v).cfg = s.cfg := rfl
@[simp] theorem State.setB_disp (v : Byte) : (s.setB v).disp = s.disp := rfl
@[simp] theorem State.setB_log (v : Byte) : (s.setB v).log = s.log := rfl
@[simp] theorem State.setB_portInputs (v : Byte) : (s.setB v).portInputs = s.portInputs := rfl
@[simp] theorem State.setB_portReads (v : Byte) : (s.setB v).portReads = s.portReads := rfl

/-! ### `setReg` -/

@[simp] theorem State.setReg_regs (r : Reg8) (v : Byte) : (s.setReg r v).regs = s.regs.set r v := rfl
@[simp] theorem State.setReg_afAlt (r : Reg8) (v : Byte) : (s.setReg r v).afAlt = s.afAlt := rfl
@[simp] theorem State.setReg_bcAlt (r : Reg8) (v : Byte) : (s.setReg r v).bcAlt = s.bcAlt := rfl
@[simp] theorem State.setReg_deAlt (r : Reg8) (v : Byte) : (s.setReg r v).deAlt = s.deAlt := rfl
@[simp] theorem State.setReg_hlAlt (r : Reg8) (v : Byte) : (s.setReg r v).hlAlt = s.hlAlt := rfl
@[simp] theorem State.setReg_ix (r : Reg8) (v : Byte) : (s.setReg r v).ix = s.ix := rfl
@[simp] theorem State.setReg_iy (r : Reg8) (v : Byte) : (s.setReg r v).iy = s.iy := rfl
@[simp] theorem State.setReg_sp (r : Reg8) (v : Byte) : (s.setReg r v).sp = s.sp := rfl
@[simp] theorem State.setReg_pc (r : Reg8) (v : Byte) : (s.setReg r v).pc = s.pc := rfl
@[simp] theorem State.setReg_wz (r : Reg8) (v : Byte) : (s.setReg r v).wz = s.wz := rfl
@[simp] theorem State.setReg_iReg (r : Reg8) (v : Byte) : (s.setReg r v).iReg = s.iReg := rfl
@[simp] theorem State.setReg_rReg (r : Reg8) (v : Byte) : (s.setReg r v).rReg = s.rReg := rfl
@[simp] theorem State.setReg_iff1 (r : Reg8) (v : Byte) : (s.setReg r v).iff1 = s.iff1 := rfl
@[simp] theorem State.setReg_iff2 (r : Reg8) (v : Byte) : (s.setReg r v).iff2 = s.iff2 := rfl
@[simp] theorem State.setReg_im (r : Reg8) (v : Byte) : (s.setReg r v).im = s.im := rfl
@[simp] theorem State.setReg_sig (r : Reg8) (v : Byte) : (s.setReg r v).sig = s.sig := rfl
@[simp] theorem State.setReg_blocked (r : Reg8) (v : Byte) : (s.setReg r v).blocked = s.blocked := rfl
@[simp] theorem State.setReg_inOp (r : Reg8) (v : Byte) : (s.setReg r v).inOp = s.inOp := rfl
@[simp] theorem State.setReg_prefixMode (r : Reg8) (v : Byte) : (s.setReg r v).prefixMode = s.prefixMode := rfl
@[simp] theorem State.setReg_indexMode (r : Reg8) (v : Byte) : (s.setReg r v).indexMode = s.indexMode := rfl
@[simp] theorem State.setReg_opCode (r : Reg8) (v : Byte) : (s.setReg r v).opCode = s.opCode := rfl
@[simp] theorem State.setReg_tacts (r : Reg8) (v : Byte) : (s.setReg r v).tacts = s.tacts := rfl
@[simp] theorem State.setReg_mem (r : Reg8) (v : Byte) : (s.setReg r v).mem = s.mem := rfl
@[simp] theorem State.setReg_cfg (r : Reg8) (v : Byte) : (s.setReg r v).cfg = s.cfg := rfl
@[simp] theorem State.setReg_disp (r : Reg8) (v : Byte) : (s.setReg r v).disp = s.disp := rfl
@[simp] theorem State.setReg_log (r : Reg8) (v : Byte) : (s.setReg r v).log = s.log := rfl
@[simp] theorem State.setReg_portInputs (r : Reg8) (v : Byte) : (s.setReg r v).portInputs = s.portInputs := rfl
@[simp] theorem State.setReg_portReads (r : Reg8) (v : Byte) : (s.setReg r v).portReads = s.portReads := rfl

/-! ### `poke` -/

@[simp] theorem State.poke_regs (a : Word) (v : Byte) : (s.poke a v).regs = s.regs := rfl
@[simp] theorem State.poke_afAlt (a : Word) (v : Byte) : (s.poke a v).afAlt = s.afAlt := rfl
@[simp] theorem State.poke_bcAlt (a : Word) (v : Byte) : (s.poke a v).bcAlt = s.bcAlt := rfl
@[simp] theorem State.poke_deAlt (a : Word) (v : Byte) : (s.poke a v).deAlt = s.deAlt := rfl
@[simp] theorem State.poke_hlAlt (a : Word) (v : Byte) : (s.poke a v).hlAlt = s.hlAlt := rfl
@[simp] theorem State.poke_ix (a : Word) (v : Byte) : (s.poke a v).ix = s.ix := rfl
@[simp] theorem State.poke_iy (a : Word) (v : Byte) : (s.poke a v).iy = s.iy := rfl
@[simp] theorem State.poke_sp (a : Word) (v : Byte) : (s.poke a v).sp = s.sp := rfl
@[simp] theorem State.poke_pc (a : Word) (v : Byte) : (s.poke a v).pc = s.pc := rfl
@[simp] theorem State.poke_wz (a : Word) (v : Byte) : (s.poke a v).wz = s.wz := rfl
@[simp] theorem State.poke_iReg (a : Word) (v : Byte) : (s.poke a v).iReg = s.iReg := rfl
@[simp] theorem State.poke_rReg (a : Word) (v : Byte) : (s.poke a v).rReg = s.rReg := rfl
@[simp] theorem State.poke_iff1 (a : Word) (v : Byte) : (s.poke a v).iff1 = s.iff1 := rfl
@[simp] theorem State.poke_iff2 (a : Word) (v : Byte) : (s.poke a v).iff2 = s.iff2 := rfl
@[simp] theorem State.poke_im (a : Word) (v : Byte) : (s.poke a v).im = s.im := rfl
@[simp] theorem State.poke_sig (a : Word) (v : Byte) : (s.poke a v).sig = s.sig := rfl
@[simp] theorem State.poke_blocked (a : Word) (v : Byte) : (s.poke a v).blocked = s.blocked := rfl
@[simp] theorem State.poke_inOp (a : Word) (v : Byte) : (s.poke a v).inOp = s.inOp := rfl
@[simp] theorem State.poke_prefixMode (a : Word) (v : Byte) : (s.poke a v).prefixMode = s.prefixMode := rfl
@[simp] theorem State.poke_indexMode (a : Word) (v : Byte) : (s.poke a v).indexMode = s.indexMode := rfl
@[simp] theorem State.poke_opCode (a : Word) (v : Byte) : (s.poke a v).opCode = s.opCode := rfl
@[simp] theorem State.poke_tacts (a : Word) (v : Byte) : (s.poke a v).tacts = s.tacts := rfl
@[simp] theorem State.poke_mem (a : Word) (v : Byte) : (s.poke a v).mem = Memory.write s.mem a.toNat v := rfl
@[simp] theorem State.poke_cfg (a : Word) (v : Byte) : (s.poke a v).cfg = s.cfg := rfl
@[simp] theorem State.poke_disp (a : Word) (v : Byte) : (s.poke a v).disp = s.disp := rfl
@[simp] theorem State.poke_log (a : Word) (v : Byte) : (s.poke a v).log = s.log := rfl
@[simp] theorem State.poke_portInputs (a : Word) (v : Byte) : (s.poke a v).portInputs = s.portInputs := rfl
@[simp] theorem State.poke_portReads (a : Word) (v : Byte) : (s.poke a v).portReads = s.portReads := rfl

/-! ### `rd` -/

@[simp] theorem State.rd_regs (a : Word) : (s.rd a).regs = s.regs := rfl
@[simp] theorem State.rd_afAlt (a : Word) : (s.rd a).afAlt = s.afAlt := rfl
@[simp] theorem State.rd_bcAlt (a : Word) : (s.rd a).bcAlt = s.bcAlt := rfl
@[simp] theorem State.rd_deAlt (a : Word) : (s.rd a).deAlt = s.deAlt := rfl
@[simp] theorem State.rd_hlAlt (a : Word) : (s.rd a).hlAlt = s.hlAlt := rfl
@[simp] theorem State.rd_ix (a : Word) : (s.rd a).ix = s.ix := rfl
@[simp] theorem State.rd_iy (a : Word) : (s.rd a).iy = s.iy := rfl
@[simp] theorem State.rd_sp (a : Word) : (s.rd a).sp = s.sp := rfl
@[simp] theorem State.rd_pc (a : Word) : (s.rd a).pc = s.pc := rfl
@[simp] theorem State.rd_wz (a : Word) : (s.rd a).wz = s.wz := rfl
@[simp] theorem State.rd_iReg (a : Word) : (s.rd a).iReg = s.iReg := rfl
@[simp] theorem State.rd_rReg (a : Word) : (s.rd a).rReg = s.rReg := rfl
@[simp] theorem State.rd_iff1 (a : Word) : (s.rd a).iff1 = s.iff1 := rfl
@[simp] theorem State.rd_iff2 (a : Word) : (s.rd a).iff2 = s.iff2 := rfl
@[simp] theorem State.rd_im (a : Word) : (s.rd a).im = s.im := rfl
@[simp] theorem State.rd_sig (a : Word) : (s.rd a).sig = s.sig := rfl
@[simp] theorem State.rd_blocked (a : Word) : (s.rd a).blocked = s.blocked := rfl
@[simp] theorem State.rd_inOp (a : Word) : (s.rd a).inOp = s.inOp := rfl
@[simp] theorem State.rd_prefixMode (a : Word) : (s.rd a).prefixMode = s.prefixMode := rfl
@[simp] theorem State.rd_indexMode (a : Word) : (s.rd a).indexMode = s.indexMode := rfl
@[simp] theorem State.rd_opCode (a : Word) : (s.rd a).opCode = s.opCode := rfl
@[simp] theorem State.rd_tacts (a : Word) : (s.rd a).tacts = s.tacts + s.cfg.tact.access := rfl
@[simp] theorem State.rd_mem (a : Word) : (s.rd a).mem = s.mem := rfl
@[simp] theorem State.rd_cfg (a : Word) : (s.rd a).cfg = s.cfg := rfl
@[simp] theorem State.rd_disp (a : Word) : (s.rd a).disp = s.disp := rfl
@[simp] theorem State.rd_log (a : Word) : (s.rd a).log = ⟨.memRead, a, s.byteAt a, s.tacts⟩ :: s.log := rfl
@[simp] theorem State.rd_portInputs (a : Word) : (s.rd a).portInputs = s.portInputs := rfl
@[simp] theorem State.rd_portReads (a : Word) : (s.rd a).portReads = s.portReads := rfl

/-! ### `wr` -/

@[simp] theorem State.wr_regs (a : Word) (v : Byte) : (s.wr a v).regs = s.regs := rfl
@[simp] theorem State.wr_afAlt (a : Word) (v : Byte) : (s.wr a v).afAlt = s.afAlt := rfl
@[simp] theorem State.wr_bcAlt (a : Word) (v : Byte) : (s.wr a v).bcAlt = s.bcAlt := rfl
@[simp] theorem State.wr_deAlt (a : Word) (v : Byte) : (s.wr a v).deAlt = s.deAlt := rfl
@[simp] theorem State.wr_hlAlt (a : Word) (v : Byte) : (s.wr a v).hlAlt = s.hlAlt := rfl
@[simp] theorem State.wr_ix (a : Word) (v : Byte) : (s.wr a v).ix = s.ix := rfl
@[simp] theorem State.wr_iy (a : Word) (v : Byte) : (s.wr a v).iy = s.iy := rfl
@[simp] theorem State.wr_sp (a : Word) (v : Byte) : (s.wr a v).sp = s.sp := rfl
@[simp] theorem State.wr_pc (a : Word) (v : Byte) : (s.wr a v).pc = s.pc := rfl
@[simp] theorem State.wr_wz (a : Word) (v : Byte) : (s.wr a v).wz = s.wz := rfl
@[simp] theorem State.wr_iReg (a : Word) (v : Byte) : (s.wr a v).iReg = s.iReg := rfl
@[simp] theorem State.wr_rReg (a : Word) (v : Byte) : (s.wr a v).rReg = s.rReg := rfl
@[simp] theorem State.wr_iff1 (a : Word) (v : Byte) : (s.wr a v).iff1 = s.iff1 := rfl
@[simp] theorem State.wr_iff2 (a : Word) (v : Byte) : (s.wr a v).iff2 = s.iff2 := rfl
@[simp] theorem State.wr_im (a : Word) (v : Byte) : (s.wr a v).im = s.im := rfl
@[simp] theorem State.wr_sig (a : Word) (v : Byte) : (s.wr a v).sig = s.sig := rfl
@[simp] theorem State.wr_blocked (a : Word) (v : Byte) : (s.wr a v).blocked = s.blocked := rfl
@[simp] theorem State.wr_inOp (a : Word) (v : Byte) : (s.wr a v).inOp = s.inOp := rfl
@[simp] theorem State.wr_prefixMode (a : Word) (v : Byte) : (s.wr a v).prefixMode = s.prefixMode := rfl
@[simp] theorem State.wr_indexMode (a : Word) (v : Byte) : (s.wr a v).indexMode = s.indexMode := rfl
@[simp] theorem State.wr_opCode (a : Word) (v : Byte) : (s.wr a v).opCode = s.opCode := rfl
@[simp] theorem State.wr_tacts (a : Word) (v : Byte) : (s.wr a v).tacts = s.tacts + s.cfg.tact.access := rfl
@[simp] theorem State.wr_mem (a : Word) (v : Byte) : (s.wr a v).mem = s.cfg.bus.store s.mem a v := rfl
@[simp] theorem State.wr_cfg (a : Word) (v : Byte) : (s.wr a v).cfg = s.cfg := rfl
@[simp] theorem State.wr_disp (a : Word) (v : Byte) : (s.wr a v).disp = s.disp := rfl
@[simp] theorem State.wr_log (a : Word) (v : Byte) : (s.wr a v).log = ⟨.memWrite, a, v, s.tacts⟩ :: s.log := rfl
@[simp] theorem State.wr_portInputs (a : Word) (v : Byte) : (s.wr a v).portInputs = s.portInputs := rfl
@[simp] theorem State.wr_portReads (a : Word) (v : Byte) : (s.wr a v).portReads = s.portReads := rfl

/-! ### `fetch` -/

@[simp] theorem State.fetch_regs : s.fetch.regs = s.regs := rfl
@[simp] theorem State.fetch_afAlt : s.fetch.afAlt = s.afAlt := rfl
@[simp] theorem State.fetch_bcAlt : s.fetch.bcAlt = s.bcAlt := rfl
@[simp] theorem State.fetch_deAlt : s.fetch.deAlt = s.deAlt := rfl
@[simp] theorem State.fetch_hlAlt : s.fetch.hlAlt = s.hlAlt := rfl
@[simp] theorem State.fetch_ix : s.fetch.ix = s.ix := rfl
@[simp] theorem State.fetch_iy : s.fetch.iy = s.iy := rfl
@[simp] theorem State.fetch_sp : s.fetch.sp = s.sp := rfl
@[simp] theorem State.fetch_pc : s.fetch.pc = s.pc + 1#16 := rfl
@[simp] theorem State.fetch_wz : s.fetch.wz = s.wz := rfl
@[simp] theorem State.fetch_iReg : s.fetch.iReg = s.iReg := rfl
@[simp] theorem State.fetch_rReg : s.fetch.rReg = refresh s.rReg := rfl
@[simp] theorem State.fetch_iff1 : s.fetch.iff1 = s.iff1 := rfl
@[simp] theorem State.fetch_iff2 : s.fetch.iff2 = s.iff2 := rfl
@[simp] theorem State.fetch_im : s.fetch.im = s.im := rfl
@[simp] theorem State.fetch_sig : s.fetch.sig = s.sig := rfl
@[simp] theorem State.fetch_blocked : s.fetch.blocked = s.blocked := rfl
@[simp] theorem State.fetch_inOp : s.fetch.inOp = s.inOp := rfl
@[simp] theorem State.fetch_prefixMode : s.fetch.prefixMode = s.prefixMode := rfl
@[simp] theorem State.fetch_indexMode : s.fetch.indexMode = s.indexMode := rfl
@[simp] theorem State.fetch_opCode : s.fetch.opCode = s.opCode := rfl
@[simp] theorem State.fetch_tacts : s.fetch.tacts = s.tacts + s.cfg.tact.fetch := rfl
@[simp] theorem State.fetch_mem : s.fetch.mem = s.mem := rfl
@[simp] theorem State.fetch_cfg : s.fetch.cfg = s.cfg := rfl
@[simp] theorem State.fetch_disp : s.fetch.disp = s.disp := rfl
@[simp] theorem State.fetch_log : s.fetch.log = ⟨.memRead, s.pc, s.byteAt s.pc, s.tacts⟩ :: s.log := rfl
@[simp] theorem State.fetch_portInputs : s.fetch.portInputs = s.portInputs := rfl
@[simp] theorem State.fetch_portReads : s.fetch.portReads = s.portReads := rfl

/-! ### `imm8` -/

@[simp] theorem State.imm8_regs : s.imm8.regs = s.regs := rfl
@[simp] theorem State.imm8_afAlt : s.imm8.afAlt = s.afAlt := rfl
@[simp] theorem State.imm8_bcAlt : s.imm8.bcAlt = s.bcAlt := rfl
@[simp] theorem State.imm8_deAlt : s.imm8.deAlt = s.deAlt := rfl
@[simp] theorem State.imm8_hlAlt : s.imm8.hlAlt = s.hlAlt := rfl
@[simp] theorem State.imm8_ix : s.imm8.ix = s.ix := rfl
@[simp] theorem State.imm8_iy : s.imm8.iy = s.iy := rfl
@[simp] theorem State.imm8_sp : s.imm8.sp = s.sp := rfl
@[simp] theorem State.imm8_pc : s.imm8.pc = s.pc + 1#16 := rfl
@[simp] theorem State.imm8_wz : s.imm8.wz = s.wz := rfl
@[simp] theorem State.imm8_iReg : s.imm8.iReg = s.iReg := rfl
@[simp] theorem State.imm8_rReg : s.imm8.rReg = s.rReg := rfl
@[simp] theorem State.imm8_iff1 : s.imm8.iff1 = s.iff1 := rfl
@[simp] theorem State.imm8_iff2 : s.imm8.iff2 = s.iff2 := rfl
@[simp] theorem State.imm8_im : s.imm8.im = s.im := rfl
@[simp] theorem State.imm8_sig : s.imm8.sig = s.sig := rfl
@[simp] theorem State.imm8_blocked : s.imm8.blocked = s.blocked := rfl
@[simp] theorem State.imm8_inOp : s.imm8.inOp = s.inOp := rfl
@[simp] theorem State.imm8_prefixMode : s.imm8.prefixMode = s.prefixMode := rfl
@[simp] theorem State.imm8_indexMode : s.imm8.indexMode = s.indexMode := rfl
@[simp] theorem State.imm8_opCode : s.imm8.opCode = s.opCode := rfl
@[simp] theorem State.imm8_tacts : s.imm8.tacts = s.tacts + s.cfg.tact.access := rfl
@[simp] theorem State.imm8_mem : s.imm8.mem = s.mem := rfl
@[simp] theorem State.imm8_cfg : s.imm8.cfg = s.cfg := rfl
@[simp] theorem State.imm8_disp : s.imm8.disp = s.disp := rfl
@[simp] theorem State.imm8_log : s.imm8.log = ⟨.memRead, s.pc, s.byteAt s.pc, s.tacts⟩ :: s.log := rfl
@[simp] theorem State.imm8_portInputs : s.imm8.portInputs = s.portInputs := rfl
@[simp] theorem State.imm8_portReads : s.imm8.portReads = s.portReads := rfl

/-! ### `portRd` -/

@[simp] theorem State.portRd_regs (a : Word) : (s.portRd a).regs = s.regs := rfl
@[simp] theorem State.portRd_afAlt (a : Word) : (s.portRd a).afAlt = s.afAlt := rfl
@[simp] theorem State.portRd_bcAlt (a : Word) : (s.portRd a).bcAlt = s.bcAlt := rfl
@[simp] theorem State.portRd_deAlt (a : Word) : (s.portRd a).deAlt = s.deAlt := rfl
@[simp] theorem State.portRd_hlAlt (a : Word) : (s.portRd a).hlAlt = s.hlAlt := rfl
@[simp] theorem State.portRd_ix (a : Word) : (s.portRd a).ix = s.ix := rfl
@[simp] theorem State.portRd_iy (a : Word) : (s.portRd a).iy = s.iy := rfl
@[simp] theorem State.portRd_sp (a : Word) : (s.portRd a).sp = s.sp := rfl
@[simp] theorem State.portRd_pc (a : Word) : (s.portRd a).pc = s.pc := rfl
@[simp] theorem State.portRd_wz (a : Word) : (s.portRd a).wz = s.wz := rfl
@[simp] theorem State.portRd_iReg (a : Word) : (s.portRd a).iReg = s.iReg := rfl
@[simp] theorem State.portRd_rReg (a : Word) : (s.portRd a).rReg = s.rReg := rfl
@[simp] theorem State.portRd_iff1 (a : Word) : (s.portRd a).iff1 = s.iff1 := rfl
@[simp] theorem State.portRd_iff2 (a : Word) : (s.portRd a).iff2 = s.iff2 := rfl
@[simp] theorem State.portRd_im (a : Word) : (s.portRd a).im = s.im := rfl
@[simp] theorem State.portRd_sig (a : Word) : (s.portRd a).sig = s.sig := rfl
@[simp] theorem State.portRd_blocked (a : Word) : (s.portRd a).blocked = s.blocked := rfl
@[simp] theorem State.portRd_inOp (a : Word) : (s.portRd a).inOp = s.inOp := rfl
@[simp] theorem State.portRd_prefixMode (a : Word) : (s.portRd a).prefixMode = s.prefixMode := rfl
@[simp] theorem State.portRd_indexMode (a : Word) : (s.portRd a).indexMode = s.indexMode := rfl
@[simp] theorem State.portRd_opCode (a : Word) : (s.portRd a).opCode = s.opCode := rfl
@[simp] theorem State.portRd_tacts (a : Word) : (s.portRd a).tacts = s.tacts + s.portDelay := rfl
@[simp] theorem State.portRd_mem (a : Word) : (s.portRd a).mem = s.mem := rfl
@[simp] theorem State.portRd_cfg (a : Word) : (s.portRd a).cfg = s.cfg := rfl
@[simp] theorem State.portRd_disp (a : Word) : (s.portRd a).disp = s.disp := rfl
@[simp] theorem State.portRd_log (a : Word) : (s.portRd a).log = ⟨.portRead, a, s.portAnswer a, s.tacts⟩ :: s.log := rfl
@[simp] theorem State.portRd_portInputs (a : Word) : (s.portRd a).portInputs = s.portInputs.tail := rfl
@[simp] theorem State.portRd_portReads (a : Word) : (s.portRd a).portReads = s.portReads + 1 := rfl

/-! ### `portWr` -/

@[simp] theorem State.portWr_regs (a : Word) (v : Byte) : (s.portWr a v).regs = s.regs := rfl
@[simp] theorem State.portWr_afAlt (a : Word) (v : Byte) : (s.portWr a v).afAlt = s.afAlt := rfl
@[simp] theorem State.portWr_bcAlt (a : Word) (v : Byte) : (s.portWr a v).bcAlt = s.bcAlt := rfl
@[simp] theorem State.portWr_deAlt (a : Word) (v : Byte) : (s.portWr a v).deAlt = s.deAlt := rfl
@[simp] theorem State.portWr_hlAlt (a : Word) (v : Byte) : (s.portWr a v).hlAlt = s.hlAlt := rfl
@[simp] theorem State.portWr_ix (a : Word) (v : Byte) : (s.portWr a v).ix = s.ix := rfl
@[simp] theorem State.portWr_iy (a : Word) (v : Byte) : (s.portWr a v).iy = s.iy := rfl
@[simp] theorem State.portWr_sp (a : Word) (v : Byte) : (s.portWr a v).sp = s.sp := rfl
@[simp] theorem State.portWr_pc (a : Word) (v : Byte) : (s.portWr a v).pc = s.pc := rfl
@[simp] theorem State.portWr_wz (a : Word) (v : Byte) : (s.portWr a v).wz = s.wz := rfl
@[simp] theorem State.portWr_iReg (a : Word) (v : Byte) : (s.portWr a v).iReg = s.iReg := rfl
@[simp] theorem State.portWr_rReg (a : Word) (v : Byte) : (s.portWr a v).rReg = s.rReg := rfl
@[simp] theorem State.portWr_iff1 (a : Word) (v : Byte) : (s.portWr a v).iff1 = s.iff1 := rfl
@[simp] theorem State.portWr_iff2 (a : Word) (v : Byte) : (s.portWr a v).iff2 = s.iff2 := rfl
@[simp] theorem State.portWr_im (a : Word) (v : Byte) : (s.portWr a v).im = s.im := rfl
@[simp] theorem State.portWr_sig (a : Word) (v : Byte) : (s.portWr a v).sig = s.sig := rfl
@[simp] theorem State.portWr_blocked (a : Word) (v : Byte) : (s.portWr a v).blocked = s.blocked := rfl
@[simp] theorem State.portWr_inOp (a : Word) (v : Byte) : (s.portWr a v).inOp = s.inOp := rfl
@[simp] theorem State.portWr_prefixMode (a : Word) (v : Byte) : (s.portWr a v).prefixMode = s.prefixMode := rfl
@[simp] theorem State.portWr_indexMode (a : Word) (v : Byte) : (s.portWr a v).indexMode = s.indexMode := rfl
@[simp] theorem State.portWr_opCode (a : Word) (v : Byte) : (s.portWr a v).opCode = s.opCode := rfl
@[simp] theorem State.portWr_tacts (a : Word) (v : Byte) : (s.portWr a v).tacts = s.tacts + s.portDelay := rfl
@[simp] theorem State.portWr_mem (a : Word) (v : Byte) : (s.portWr a v).mem = s.mem := rfl
@[simp] theorem State.portWr_cfg (a : Word) (v : Byte) : (s.portWr a v).cfg = s.cfg := rfl
@[simp] theorem State.portWr_disp (a : Word) (v : Byte) : (s.portWr a v).disp = s.disp := rfl
@[simp] theorem State.portWr_log (a : Word) (v : Byte) : (s.portWr a v).log = ⟨.portWrite, a, v, s.tacts⟩ :: s.log := rfl
@[simp] theorem State.portWr_portInputs (a : Word) (v : Byte) : (s.portWr a v).portInputs = s.portInputs := rfl
@[simp] theorem State.portWr_portReads (a : Word) (v : Byte) : (s.portWr a v).portReads = s.portReads := rfl

/-! ### `alu` -/

@[simp] theorem State.alu_regs (op : AluOp) (v : Byte) : (s.alu op v).regs = { s.regs with a := aluResult op (carryOf s.regs.f) s.regs.a v, f := aluFlags op (carryOf s.regs.f) s.regs.a v } := rfl
@[simp] theorem State.alu_afAlt (op : AluOp) (v : Byte) : (s.alu op v).afAlt = s.afAlt := rfl
@[simp] theorem State.alu_bcAlt (op : AluOp) (v : Byte) : (s.alu op v).bcAlt = s.bcAlt := rfl
@[simp] theorem State.alu_deAlt (op : AluOp) (v : Byte) : (s.alu op v).deAlt = s.deAlt := rfl
@[simp] theorem State.alu_hlAlt (op : AluOp) (v : Byte) : (s.alu op v).hlAlt = s.hlAlt := rfl
@[simp] theorem State.alu_ix (op : AluOp) (v : Byte) : (s.alu op v).ix = s.ix := rfl
@[simp] theorem State.alu_iy (op : AluOp) (v : Byte) : (s.alu op v).iy = s.iy := rfl
@[simp] theorem State.alu_sp (op : AluOp) (v : Byte) : (s.alu op v).sp = s.sp := rfl
@[simp] theorem State.alu_pc (op : AluOp) (v : Byte) : (s.alu op v).pc = s.pc := rfl
@[simp] theorem State.alu_wz (op : AluOp) (v : Byte) : (s.alu op v).wz = s.wz := rfl
@[simp] theorem State.alu_iReg (op : AluOp) (v : Byte) : (s.alu op v).iReg = s.iReg := rfl
@[simp] theorem State.alu_rReg (op : AluOp) (v : Byte) : (s.alu op v).rReg = s.rReg := rfl
@[simp] theorem State.alu_iff1 (op : AluOp) (v : Byte) : (s.alu op v).iff1 = s.iff1 := rfl
@[simp] theorem State.alu_iff2 (op : AluOp) (v : Byte) : (s.alu op v).iff2 = s.iff2 := rfl
@[simp] theorem State.alu_im (op : AluOp) (v : Byte) : (s.alu op v).im = s.im := rfl
@[simp] theorem State.alu_sig (op : AluOp) (v : Byte) : (s.alu op v).sig = s.sig := rfl
@[simp] theorem State.alu_blocked (op : AluOp) (v : Byte) : (s.alu op v).blocked = s.blocked := rfl
@[simp] theorem State.alu_inOp (op : AluOp) (v : Byte) : (s.alu op v).inOp = s.inOp := rfl
@[simp] theorem State.alu_prefixMode (op : AluOp) (v : Byte) : (s.alu op v).prefixMode = s.prefixMode := rfl
@[simp] theorem State.alu_indexMode (op : AluOp) (v : Byte) : (s.alu op v).indexMode = s.indexMode := rfl
@[simp] theorem State.alu_opCode (op : AluOp) (v : Byte) : (s.alu op v).opCode = s.opCode := rfl
@[simp] theorem State.alu_tacts (op : AluOp) (v : Byte) : (s.alu op v).tacts = s.tacts := rfl
@[simp] theorem State.alu_mem (op : AluOp) (v : Byte) : (s.alu op v).mem = s.mem := rfl
@[simp] theorem State.alu_cfg (op : AluOp) (v : Byte) : (s.alu op v).cfg = s.cfg := rfl
@[simp] theorem State.alu_disp (op : AluOp) (v : Byte) : (s.alu op v).disp = s.disp := rfl
@[simp] theorem State.alu_log (op : AluOp) (v : Byte) : (s.alu op v).log = s.log := rfl
@[simp] theorem State.alu_portInputs (op : AluOp) (v : Byte) : (s.alu op v).portInputs = s.portInputs := rfl
@[simp] theorem State.alu_portReads (op : AluOp) (v : Byte) : (s.alu op v).portReads = s.portReads := rfl

/-! ### `incF` -/

@[simp] theorem State.incF_regs (v : Byte) : (s.incF v).regs = { s.regs with f := incFlags v ||| (s.regs.f &&& flagC) } := rfl
@[simp] theorem State.incF_afAlt (v : Byte) : (s.incF v).afAlt = s.afAlt := rfl
@[simp] theorem State.incF_bcAlt (v : Byte) : (s.incF v).bcAlt = s.bcAlt := rfl
@[simp] theorem State.incF_deAlt (v : Byte) : (s.incF v).deAlt = s.deAlt := rfl
@[simp] theorem State.incF_hlAlt (v : Byte) : (s.incF v).hlAlt = s.hlAlt := rfl
@[simp] theorem State.incF_ix (v : Byte) : (s.incF v).ix = s.ix := rfl
@[simp] theorem State.incF_iy (v : Byte) : (s.incF v).iy = s.iy := rfl
@[simp] theorem State.incF_sp (v : Byte) : (s.incF v).sp = s.sp := rfl
@[simp] theorem State.incF_pc (v : Byte) : (s.incF v).pc = s.pc := rfl
@[simp] theorem State.incF_wz (v : Byte) : (s.incF v).wz = s.wz := rfl
@[simp] theorem State.incF_iReg (v : Byte) : (s.incF v).iReg = s.iReg := rfl
@[simp] theorem State.incF_rReg (v : Byte) : (s.incF v).rReg = s.rReg := rfl
@[simp] theorem State.incF_iff1 (v : Byte) : (s.incF v).iff1 = s.iff1 := rfl
@[simp] theorem State.incF_iff2 (v : Byte) : (s.incF v).iff2 = s.iff2 := rfl
@[simp] theorem State.incF_im (v : Byte) : (s.incF v).im = s.im := rfl
@[simp] theorem State.incF_sig (v : Byte) : (s.incF v).sig = s.sig := rfl
@[simp] theorem State.incF_blocked (v : Byte) : (s.incF v).blocked = s.blocked := rfl
@[simp] theorem State.incF_inOp (v : Byte) : (s.incF v).inOp = s.inOp := rfl
@[simp] theorem State.incF_prefixMode (v : Byte) : (s.incF v).prefixMode = s.prefixMode := rfl
@[simp] theorem State.incF_indexMode (v : Byte) : (s.incF v).indexMode = s.indexMode := rfl
@[simp] theorem State.incF_opCode (v : Byte) : (s.incF v).opCode = s.opCode := rfl
@[simp] theorem State.incF_tacts (v : Byte) : (s.incF v).tacts = s.tacts := rfl
@[simp] theorem State.incF_mem (v : Byte) : (s.incF v).mem = s.mem := rfl
@[simp] theorem State.incF_cfg (v : Byte) : (s.incF v).cfg = s.cfg := rfl
@[simp] theorem State.incF_disp (v : Byte) : (s.incF v).disp = s.disp := rfl
@[simp] theorem State.incF_log (v : Byte) : (s.incF v).log = s.log := rfl
@[simp] theorem State.incF_portInputs (v : Byte) : (s.incF v).portInputs = s.portInputs := rfl
@[simp] theorem State.incF_portReads (v : Byte) : (s.incF v).portReads = s.portReads := rfl

/-! ### `decF` -/

@[simp] theorem State.decF_regs (v : Byte) : (s.decF v).regs = { s.regs with f := decFlags v ||| (s.regs.f &&& flagC) } := rfl
@[simp] theorem State.decF_afAlt (v : Byte) : (s.decF v).afAlt = s.afAlt := rfl
@[simp] theorem State.decF_bcAlt (v : Byte) : (s.decF v).bcAlt = s.bcAlt := rfl
@[simp] theorem State.decF_deAlt (v : Byte) : (s.decF v).deAlt = s.deAlt := rfl
@[simp] theorem State.decF_hlAlt (v : Byte) : (s.decF v).hlAlt = s.hlAlt := rfl
@[simp] theorem State.decF_ix (v : Byte) : (s.decF v).ix = s.ix := rfl
@[simp] theorem State.decF_iy (v : Byte) : (s.decF v).iy = s.iy := rfl
@[simp] theorem State.decF_sp (v : Byte) : (s.decF v).sp = s.sp := rfl
@[simp] theorem State.decF_pc (v : Byte) : (s.decF v).pc = s.pc := rfl
@[simp] theorem State.decF_wz (v : Byte) : (s.decF v).wz = s.wz := rfl
@[simp] theorem State.decF_iReg (v : Byte) : (s.decF v).iReg = s.iReg := rfl
@[simp] theorem State.decF_rReg (v : Byte) : (s.decF v).rReg = s.rReg := rfl
@[simp] theorem State.decF_iff1 (v : Byte) : (s.decF v).iff1 = s.iff1 := rfl
@[simp] theorem State.decF_iff2 (v : Byte) : (s.decF v).iff2 = s.iff2 := rfl
@[simp] theorem State.decF_im (v : Byte) : (s.decF v).im = s.im := rfl
@[simp] theorem State.decF_sig (v : Byte) : (s.decF v).sig = s.sig := rfl
@[simp] theorem State.decF_blocked (v : Byte) : (s.decF v).blocked = s.blocked := rfl
@[simp] theorem State.decF_inOp (v : Byte) : (s.decF v).inOp = s.inOp := rfl
@[simp] theorem State.decF_prefixMode (v : Byte) : (s.decF v).prefixMode = s.prefixMode := rfl
@[simp] theorem State.decF_indexMode (v : Byte) : (s.decF v).indexMode = s.indexMode := rfl
@[simp] theorem State.decF_opCode (v : Byte) : (s.decF v).opCode = s.opCode := rfl
@[simp] theorem State.decF_tacts (v : Byte) : (s.decF v).tacts = s.tacts := rfl
@[simp] theorem State.decF_mem (v : Byte) : (s.decF v).mem = s.mem := rfl
@[simp] theorem State.decF_cfg (v : Byte) : (s.decF v).cfg = s.cfg := rfl
@[simp] theorem State.decF_disp (v : Byte) : (s.decF v).disp = s.disp := rfl
@[simp] theorem State.decF_log (v : Byte) : (s.decF v).log = s.log := rfl
@[simp] theorem State.decF_portInputs (v : Byte) : (s.decF v).portInputs = s.portInputs := rfl
@[simp] theorem State.decF_portReads (v : Byte) : (s.decF v).portReads = s.portReads := rfl

/-! ### `finish` -/

@[simp] theorem State.finish_regs : s.finish.regs = s.regs := rfl
@[simp] theorem State.finish_afAlt : s.finish.afAlt = s.afAlt := rfl
@[simp] theorem State.finish_bcAlt : s.finish.bcAlt = s.bcAlt := rfl
@[simp] theorem State.finish_deAlt : s.finish.deAlt = s.deAlt := rfl
@[simp] theorem State.finish_hlAlt : s.finish.hlAlt = s.hlAlt := rfl
@[simp] theorem State.finish_ix : s.finish.ix = s.ix := rfl
@[simp] theorem State.finish_iy : s.finish.iy = s.iy := rfl
@[simp] theorem State.finish_sp : s.finish.sp = s.sp := rfl
@[simp] theorem State.finish_pc : s.finish.pc = s.pc := rfl
@[simp] theorem State.finish_wz : s.finish.wz = s.wz := rfl
@[simp] theorem State.finish_iReg : s.finish.iReg = s.iReg := rfl
@[simp] theorem State.finish_rReg : s.finish.rReg = s.rReg := rfl
@[simp] theorem State.finish_iff1 : s.finish.iff1 = s.iff1 := rfl
@[simp] theorem State.finish_iff2 : s.finish.iff2 = s.iff2 := rfl
@[simp] theorem State.finish_im : s.finish.im = s.im := rfl
@[simp] theorem State.finish_sig : s.finish.sig = s.sig := rfl
@[simp] theorem State.finish_blocked : s.finish.blocked = s.blocked := rfl
@[simp] theorem State.finish_inOp : s.finish.inOp = false := rfl
@[simp] theorem State.finish_prefixMode : s.finish.prefixMode = PrefixMode.none := rfl
@[simp] theorem State.finish_indexMode : s.finish.indexMode = IndexMode.none := rfl
@[simp] theorem State.finish_opCode : s.finish.opCode = s.opCode := rfl
@[simp] theorem State.finish_tacts : s.finish.tacts = s.tacts := rfl
@[simp] theorem State.finish_mem : s.finish.mem = s.mem := rfl
@[simp] theorem State.finish_cfg : s.finish.cfg = s.cfg := rfl
@[simp] theorem State.finish_disp : s.finish.disp = s.disp := rfl
@[simp] theorem State.finish_log : s.finish.log = s.log := rfl
@[simp] theorem State.finish_portInputs : s.finish.portInputs = s.portInputs := rfl
@[simp] theorem State.finish_portReads : s.finish.portReads = s.portReads := rfl

/-! ### `fetchOpcode` -/

@[simp] theorem State.fetchOpcode_regs : s.fetchOpcode.regs = s.regs := rfl
@[simp] theorem State.fetchOpcode_afAlt : s.fetchOpcode.afAlt = s.afAlt := rfl
@[simp] theorem State.fetchOpcode_bcAlt : s.fetchOpcode.bcAlt = s.bcAlt := rfl
@[simp] theorem State.fetchOpcode_deAlt : s.fetchOpcode.deAlt = s.deAlt := rfl
@[simp] theorem State.fetchOpcode_hlAlt : s.fetchOpcode.hlAlt = s.hlAlt := rfl
@[simp] theorem State.fetchOpcode_ix : s.fetchOpcode.ix = s.ix := rfl
@[simp] theorem State.fetchOpcode_iy : s.fetchOpcode.iy = s.iy := rfl
@[simp] theorem State.fetchOpcode_sp : s.fetchOpcode.sp = s.sp := rfl
@[simp] theorem State.fetchOpcode_pc : s.fetchOpcode.pc = s.pc + 1#16 := rfl
@[simp] theorem State.fetchOpcode_wz : s.fetchOpcode.wz = s.wz := rfl
@[simp] theorem State.fetchOpcode_iReg : s.fetchOpcode.iReg = s.iReg := rfl
@[simp] theorem State.fetchOpcode_rReg : s.fetchOpcode.rReg = refresh s.rReg := rfl
@[simp] theorem State.fetchOpcode_iff1 : s.fetchOpcode.iff1 = s.iff1 := rfl
@[simp] theorem State.fetchOpcode_iff2 : s.fetchOpcode.iff2 = s.iff2 := rfl
@[simp] theorem State.fetchOpcode_im : s.fetchOpcode.im = s.im := rfl
@[simp] theorem State.fetchOpcode_sig : s.fetchOpcode.sig = s.sig := rfl
@[simp] theorem State.fetchOpcode_blocked : s.fetchOpcode.blocked = s.blocked := rfl
@[simp] theorem State.fetchOpcode_inOp : s.fetchOpcode.inOp = s.inOp := rfl
@[simp] theorem State.fetchOpcode_prefixMode : s.fetchOpcode.prefixMode = s.prefixMode := rfl
@[simp] theorem State.fetchOpcode_indexMode : s.fetchOpcode.indexMode = s.indexMode := rfl
@[simp] theorem State.fetchOpcode_opCode : s.fetchOpcode.opCode = s.byteAt s.pc := rfl
@[simp] theorem State.fetchOpcode_tacts : s.fetchOpcode.tacts = s.tacts + s.cfg.tact.fetch := rfl
@[simp] theorem State.fetchOpcode_mem : s.fetchOpcode.mem = s.mem := rfl
@[simp] theorem State.fetchOpcode_cfg : s.fetchOpcode.cfg = s.cfg := rfl
@[simp] theorem State.fetchOpcode_disp : s.fetchOpcode.disp = s.disp := rfl
@[simp] theorem State.fetchOpcode_log : s.fetchOpcode.log = ⟨.memRead, s.pc, s.byteAt s.pc, s.tacts⟩ :: s.log := rfl
@[simp] theorem State.fetchOpcode_portInputs : s.fetchOpcode.portInputs = s.portInputs := rfl
@[simp] theorem State.fetchOpcode_portReads : s.fetchOpcode.portReads = s.portReads := rfl

/-! ### `holdOff` -/

@[simp] theorem State.holdOff_regs : s.holdOff.regs = s.regs := rfl
@[simp] theorem State.holdOff_afAlt : s.holdOff.afAlt = s.afAlt := rfl
@[simp] theorem State.holdOff_bcAlt : s.holdOff.bcAlt = s.bcAlt := rfl
@[simp] theorem State.holdOff_deAlt : s.holdOff.deAlt = s.deAlt := rfl
@[simp] theorem State.holdOff_hlAlt : s.holdOff.hlAlt = s.hlAlt := rfl
@[simp] theorem State.holdOff_ix : s.holdOff.ix = s.ix := rfl
@[simp] theorem State.holdOff_iy : s.holdOff.iy = s.iy := rfl
@[simp] theorem State.holdOff_sp : s.holdOff.sp = s.sp := rfl
@[simp] theorem State.holdOff_pc : s.holdOff.pc = s.pc := rfl
@[simp] theorem State.holdOff_wz : s.holdOff.wz = s.wz := rfl
@[simp] theorem State.holdOff_iReg : s.holdOff.iReg = s.iReg := rfl
@[simp] theorem State.holdOff_rReg : s.holdOff.rReg = s.rReg := rfl
@[simp] theorem State.holdOff_iff1 : s.holdOff.iff1 = s.iff1 := rfl
@[simp] theorem State.holdOff_iff2 : s.holdOff.iff2 = s.iff2 := rfl
@[simp] theorem State.holdOff_im : s.holdOff.im = s.im := rfl
@[simp] theorem State.holdOff_sig : s.holdOff.sig = s.sig := rfl
@[simp] theorem State.holdOff_blocked : s.holdOff.blocked = true := rfl
@[simp] theorem State.holdOff_inOp : s.holdOff.inOp = true := rfl
@[simp] theorem State.holdOff_prefixMode : s.holdOff.prefixMode = s.prefixMode := rfl
@[simp] theorem State.holdOff_indexMode : s.holdOff.indexMode = s.indexMode := rfl
@[simp] theorem State.holdOff_opCode : s.holdOff.opCode = s.opCode := rfl
@[simp] theorem State.holdOff_tacts : s.holdOff.tacts = s.tacts := rfl
@[simp] theorem State.holdOff_mem : s.holdOff.mem = s.mem := rfl
@[simp] theorem State.holdOff_cfg : s.holdOff.cfg = s.cfg := rfl
@[simp] theorem State.holdOff_disp : s.holdOff.disp = s.disp := rfl
@[simp] theorem State.holdOff_log : s.holdOff.log = s.log := rfl
@[simp] theorem State.holdOff_portInputs : s.holdOff.portInputs = s.portInputs := rfl
@[simp] theorem State.holdOff_portReads : s.holdOff.portReads = s.portReads := rfl

/-! ### `setPair` -/

@[simp] theorem State.setPair_afAlt (p : Pair) (v : Word) : (s.setPair p v).afAlt = s.afAlt := by cases p <;> rfl
@[simp] theorem State.setPair_bcAlt (p : Pair) (v : Word) : (s.setPair p v).bcAlt = s.bcAlt := by cases p <;> rfl
@[simp] theorem State.setPair_deAlt (p : Pair) (v : Word) : (s.setPair p v).deAlt = s.deAlt := by cases p <;> rfl
@[simp] theorem State.setPair_hlAlt (p : Pair) (v : Word) : (s.setPair p v).hlAlt = s.hlAlt := by cases p <;> rfl
@[simp] theorem State.setPair_ix (p : Pair) (v : Word) : (s.setPair p v).ix = s.ix := by cases p <;> rfl
@[simp] theorem State.setPair_iy (p : Pair) (v : Word) : (s.setPair p v).iy = s.iy := by cases p <;> rfl
@[simp] theorem State.setPair_pc (p : Pair) (v : Word) : (s.setPair p v).pc = s.pc := by cases p <;> rfl
@[simp] theorem State.setPair_wz (p : Pair) (v : Word) : (s.setPair p v).wz = s.wz := by cases p <;> rfl
@[simp] theorem State.setPair_iReg (p : Pair) (v : Word) : (s.setPair p v).iReg = s.iReg := by cases p <;> rfl
@[simp] theorem State.setPair_rReg (p : Pair) (v : Word) : (s.setPair p v).rReg = s.rReg := by cases p <;> rfl
@[simp] theorem State.setPair_iff1 (p : Pair) (v : Word) : (s.setPair p v).iff1 = s.iff1 := by cases p <;> rfl
@[simp] theorem State.setPair_iff2 (p : Pair) (v : Word) : (s.setPair p v).iff2 = s.iff2 := by cases p <;> rfl
@[simp] theorem State.setPair_im (p : Pair) (v : Word) : (s.setPair p v).im = s.im := by cases p <;> rfl
@[simp] theorem State.setPair_sig (p : Pair) (v : Word) : (s.setPair p v).sig = s.sig := by cases p <;> rfl
@[simp] theorem State.setPair_blocked (p : Pair) (v : Word) : (s.setPair p v).blocked = s.blocked := by cases p <;> rfl
@[simp] theorem State.setPair_inOp (p : Pair) (v : Word) : (s.setPair p v).inOp = s.inOp := by cases p <;> rfl
@[simp] theorem State.setPair_prefixMode (p : Pair) (v : Word) : (s.setPair p v).prefixMode = s.prefixMode := by cases p <;> rfl
@[simp] theorem State.setPair_indexMode (p : Pair) (v : Word) : (s.setPair p v).indexMode = s.indexMode := by cases p <;> rfl
@[simp] theorem State.setPair_opCode (p : Pair) (v : Word) : (s.setPair p v).opCode = s.opCode := by cases p <;> rfl
@[simp] theorem State.setPair_tacts (p : Pair) (v : Word) : (s.setPair p v).tacts = s.tacts := by cases p <;> rfl
@[simp] theorem State.setPair_mem (p : Pair) (v : Word) : (s.setPair p v).mem = s.mem := by cases p <;> rfl
@[simp] theorem State.setPair_cfg (p : Pair) (v : Word) : (s.setPair p v).cfg = s.cfg := by cases p <;> rfl
@[simp] theorem State.setPair_disp (p : Pair) (v : Word) : (s.setPair p v).disp = s.disp := by cases p <;> rfl
@[simp] theorem State.setPair_log (p : Pair) (v : Word) : (s.setPair p v).log = s.log := by cases p <;> rfl
@[simp] theorem State.setPair_portInputs (p : Pair) (v : Word) : (s.setPair p v).portInputs = s.portInputs := by cases p <;> rfl
@[simp] theorem State.setPair_portReads (p : Pair) (v : Word) : (s.setPair p v).portReads = s.portReads := by cases p <;> rfl

/-! ### `setQPair` -/

@[simp] theorem State.setQPair_afAlt (p : QPair) (v : Word) : (s.setQPair p v).afAlt = s.afAlt := by cases p <;> rfl
@[simp] theorem State.setQPair_bcAlt (p : QPair) (v : Word) : (s.setQPair p v).bcAlt = s.bcAlt := by cases p <;> rfl
@[simp] theorem State.setQPair_deAlt (p : QPair) (v : Word) : (s.setQPair p v).deAlt = s.deAlt := by cases p <;> rfl
@[simp] theorem State.setQPair_hlAlt (p : QPair) (v : Word) : (s.setQPair p v).hlAlt = s.hlAlt := by cases p <;> rfl
@[simp] theorem State.setQPair_ix (p : QPair) (v : Word) : (s.setQPair p v).ix = s.ix := by cases p <;> rfl
@[simp] theorem State.setQPair_iy (p : QPair) (v : Word) : (s.setQPair p v).iy = s.iy := by cases p <;> rfl
@[simp] theorem State.setQPair_sp (p : QPair) (v : Word) : (s.setQPair p v).sp = s.sp := by cases p <;> rfl
@[simp] theorem State.setQPair_pc (p : QPair) (v : Word) : (s.setQPair p v).pc = s.pc := by cases p <;> rfl
@[simp] theorem State.setQPair_wz (p : QPair) (v : Word) : (s.setQPair p v).wz = s.wz := by cases p <;> rfl
@[simp] theorem State.setQPair_iReg (p : QPair) (v : Word) : (s.setQPair p v).iReg = s.iReg := by cases p <;> rfl
@[simp] theorem State.setQPair_rReg (p : QPair) (v : Word) : (s.setQPair p v).rReg = s.rReg := by cases p <;> rfl
@[simp] theorem State.setQPair_iff1 (p : QPair) (v : Word) : (s.setQPair p v).iff1 = s.iff1 := by cases p <;> rfl
@[simp] theorem State.setQPair_iff2 (p : QPair) (v : Word) : (s.setQPair p v).iff2 = s.iff2 := by cases p <;> rfl
@[simp] theorem State.setQPair_im (p : QPair) (v : Word) : (s.setQPair p v).im = s.im := by cases p <;> rfl
@[simp] theorem State.setQPair_sig (p : QPair) (v : Word) : (s.setQPair p v).sig = s.sig := by cases p <;> rfl
@[simp] theorem State.setQPair_blocked (p : QPair) (v : Word) : (s.setQPair p v).blocked = s.blocked := by cases p <;> rfl
@[simp] theorem State.setQPair_inOp (p : QPair) (v : Word) : (s.setQPair p v).inOp = s.inOp := by cases p <;> rfl
@[simp] theorem State.setQPair_prefixMode (p : QPair) (v : Word) : (s.setQPair p v).prefixMode = s.prefixMode := by cases p <;> rfl
@[simp] theorem State.setQPair_indexMode (p : QPair) (v : Word) : (s.setQPair p v).indexMode = s.indexMode := by cases p <;> rfl
@[simp] theorem State.setQPair_opCode (p : QPair) (v : Word) : (s.setQPair p v).opCode = s.opCode := by cases p <;> rfl
@[simp] theorem State.setQPair_tacts (p : QPair) (v : Word) : (s.setQPair p v).tacts = s.tacts := by cases p <;> rfl
@[simp] theorem State.setQPair_mem (p : QPair) (v : Word) : (s.setQPair p v).mem = s.mem := by cases p <;> rfl
@[simp] theorem State.setQPair_cfg (p : QPair) (v : Word) : (s.setQPair p v).cfg = s.cfg := by cases p <;> rfl
@[simp] theorem State.setQPair_disp (p : QPair) (v : Word) : (s.setQPair p v).disp = s.disp := by cases p <;> rfl
@[simp] theorem State.setQPair_log (p : QPair) (v : Word) : (s.setQPair p v).log = s.log := by cases p <;> rfl
@[simp] theorem State.setQPair_portInputs (p : QPair) (v : Word) : (s.setQPair p v).portInputs = s.portInputs := by cases p <;> rfl
@[simp] theorem State.setQPair_portReads (p : QPair) (v : Word) : (s.setQPair p v).portReads = s.portReads := by cases p <;> rfl

/-! ### `setXy` -/

@[simp] theorem State.setXy_regs (x : XY) (v : Word) : (s.setXy x v).regs = s.regs := by cases x <;> rfl
@[simp] theorem State.setXy_afAlt (x : XY) (v : Word) : (s.setXy x v).afAlt = s.afAlt := by cases x <;> rfl
@[simp] theorem State.setXy_bcAlt (x : XY) (v : Word) : (s.setXy x v).bcAlt = s.bcAlt := by cases x <;> rfl
@[simp] theorem State.setXy_deAlt (x : XY) (v : Word) : (s.setXy x v).deAlt = s.deAlt := by cases x <;> rfl
@[simp] theorem State.setXy_hlAlt (x : XY) (v : Word) : (s.setXy x v).hlAlt = s.hlAlt := by cases x <;> rfl
@[simp] theorem State.setXy_sp (x : XY) (v : Word) : (s.setXy x v).sp = s.sp := by cases x <;> rfl
@[simp] theorem State.setXy_pc (x : XY) (v : Word) : (s.setXy x v).pc = s.pc := by cases x <;> rfl
@[simp] theorem State.setXy_wz (x : XY) (v : Word) : (s.setXy x v).wz = s.wz := by cases x <;> rfl
@[simp] theorem State.setXy_iReg (x : XY) (v : Word) : (s.setXy x v).iReg = s.iReg := by cases x <;> rfl
@[simp] theorem State.setXy_rReg (x : XY) (v : Word) : (s.setXy x v).rReg = s.rReg := by cases x <;> rfl
@[simp] theorem State.setXy_iff1 (x : XY) (v : Word) : (s.setXy x v).iff1 = s.iff1 := by cases x <;> rfl
@[simp] theorem State.setXy_iff2 (x : XY) (v : Word) : (s.setXy x v).iff2 = s.iff2 := by cases x <;> rfl
@[simp] theorem State.setXy_im (x : XY) (v : Word) : (s.setXy x v).im = s.im := by cases x <;> rfl
@[simp] theorem State.setXy_sig (x : XY) (v : Word) : (s.setXy x v).sig = s.sig := by cases x <;> rfl
@[simp] theorem State.setXy_blocked (x : XY) (v : Word) : (s.setXy x v).blocked = s.blocked := by cases x <;> rfl
@[simp] theorem State.setXy_inOp (x : XY) (v : Word) : (s.setXy x v).inOp = s.inOp := by cases x <;> rfl
@[simp] theorem State.setXy_prefixMode (x : XY) (v : Word) : (s.setXy x v).prefixMode = s.prefixMode := by cases x <;> rfl
@[simp] theorem State.setXy_indexMode (x : XY) (v : Word) : (s.setXy x v).indexMode = s.indexMode := by cases x <;> rfl
@[simp] theorem State.setXy_opCode (x : XY) (v : Word) : (s.setXy x v).opCode = s.opCode := by cases x <;> rfl
@[simp] theorem State.setXy_tacts (x : XY) (v : Word) : (s.setXy x v).tacts = s.tacts := by cases x <;> rfl
@[simp] theorem State.setXy_mem (x : XY) (v : Word) : (s.setXy x v).mem = s.mem := by cases x <;> rfl
@[simp] theorem State.setXy_cfg (x : XY) (v : Word) : (s.setXy x v).cfg = s.cfg := by cases x <;> rfl
@[simp] theorem State.setXy_disp (x : XY) (v : Word) : (s.setXy x v).disp = s.disp := by cases x <;> rfl
@[simp] theorem State.setXy_log (x : XY) (v : Word) : (s.setXy x v).log = s.log := by cases x <;> rfl
@[simp] theorem State.setXy_portInputs (x : XY) (v : Word) : (s.setXy x v).portInputs = s.portInputs := by cases x <;> rfl
@[simp] theorem State.setXy_portReads (x : XY) (v : Word) : (s.setXy x v).portReads = s.portReads := by cases x <;> rfl

/-! ### `setHalf` -/

@[simp] theorem State.setHalf_regs (x : XY) (h : Half) (v : Byte) : (s.setHalf x h v).regs = s.regs := by cases x <;> cases h <;> rfl
@[simp] theorem State.setHalf_afAlt (x : XY) (h : Half) (v : Byte) : (s.setHalf x h v).afAlt = s.afAlt := by cases x <;> cases h <;> rfl
@[simp] theorem State.setHalf_bcAlt (x : XY) (h : Half) (v : Byte) : (s.setHalf x h v).bcAlt = s.bcAlt := by cases x <;> cases h <;> rfl
@[simp] theorem State.setHalf_deAlt (x : XY) (h : Half) (v : Byte) : (s.setHalf x h v).deAlt = s.deAlt := by cases x <;> cases h <;> rfl
@[simp] theorem State.setHalf_hlAlt (x : XY) (h : Half) (v : Byte) : (s.setHalf x h v).hlAlt = s.hlAlt := by cases x <;> cases h <;> rfl
@[simp] theorem State.setHalf_sp (x : XY) (h : Half) (v : Byte) : (s.setHalf x h v).sp = s.sp := by cases x <;> cases h <;> rfl
@[simp] theorem State.setHalf_pc (x : XY) (h : Half) (v : Byte) : (s.setHalf x h v).pc = s.pc := by cases x <;> cases h <;> rfl
@[simp] theorem State.setHalf_wz (x : XY) (h : Half) (v : Byte) : (s.setHalf x h v).wz = s.wz := by cases x <;> cases h <;> rfl
@[simp] theorem State.setHalf_iReg (x : XY) (h : Half) (v : Byte) : (s.setHalf x h v).iReg = s.iReg := by cases x <;> cases h <;> rfl
@[simp] theorem State.setHalf_rReg (x : XY) (h : Half) (v : Byte) : (s.setHalf x h v).rReg = s.rReg := by cases x <;> cases h <;> rfl
@[simp] theorem State.setHalf_iff1 (x : XY) (h : Half) (v : Byte) : (s.setHalf x h v).iff1 = s.iff1 := by cases x <;> cases h <;> rfl
@[simp] theorem State.setHalf_iff2 (x : XY) (h : Half) (v : Byte) : (s.setHalf x h v).iff2 = s.iff2 := by cases x <;> cases h <;> rfl
@[simp] theorem State.setHalf_im (x : XY) (h : Half) (v : Byte) : (s.setHalf x h v).im = s.im := by cases x <;> cases h <;> rfl
@[simp] theorem State.setHalf_sig (x : XY) (h : Half) (v : Byte) : (s.setHalf x h v).sig = s.sig := by cases x <;> cases h <;> rfl
@[simp] theorem State.setHalf_blocked (x : XY) (h : Half) (v : Byte) : (s.setHalf x h v).blocked = s.blocked := by cases x <;> cases h <;> rfl
@[simp] theorem State.setHalf_inOp (x : XY) (h : Half) (v : Byte) : (s.setHalf x h v).inOp = s.inOp := by cases x <;> cases h <;> rfl
@[simp] theorem State.setHalf_prefixMode (x : XY) (h : Half) (v : Byte) : (s.setHalf x h v).prefixMode = s.prefixMode := by cases x <;> cases h <;> rfl
@[simp] theorem State.setHalf_indexMode (x : XY) (h : Half) (v : Byte) : (s.setHalf x h v).indexMode = s.indexMode := by cases x <;> cases h <;> rfl
@[simp] theorem State.setHalf_opCode (x : XY) (h : Half) (v : Byte) : (s.setHalf x h v).opCode = s.opCode := by cases x <;> cases h <;> rfl
@[simp] theorem State.setHalf_tacts (x : XY) (h : Half) (v : Byte) : (s.setHalf x h v).tacts = s.tacts := by cases x <;> cases h <;> rfl
@[simp] theorem State.setHalf_mem (x : XY) (h : Half) (v : Byte) : (s.setHalf x h v).mem = s.mem := by cases x <;> cases h <;> rfl
@[simp] theorem State.setHalf_cfg (x : XY) (h : Half) (v : Byte) : (s.setHalf x h v).cfg = s.cfg := by cases x <;> cases h <;> rfl
@[simp] theorem State.setHalf_disp (x : XY) (h : Half) (v : Byte) : (s.setHalf x h v).disp = s.disp := by cases x <;> cases h <;> rfl
@[simp] theorem State.setHalf_log (x : XY) (h : Half) (v : Byte) : (s.setHalf x h v).log = s.log := by cases x <;> cases h <;> rfl
@[simp] theorem State.setHalf_portInputs (x : XY) (h : Half) (v : Byte) : (s.setHalf x h v).portInputs = s.portInputs := by cases x <;> cases h <;> rfl
@[simp] theorem State.setHalf_portReads (x : XY) (h : Half) (v : Byte) : (s.setHalf x h v).portReads = s.portReads := by cases x <;> cases h <;> rfl

/-! ### `leaveHalt` -/

@[simp] theorem State.leaveHalt_regs : s.leaveHalt.regs = s.regs := by unfold State.leaveHalt; split <;> rfl
@[simp] theorem State.leaveHalt_afAlt : s.leaveHalt.afAlt = s.afAlt := by unfold State.leaveHalt; split <;> rfl
@[simp] theorem State.leaveHalt_bcAlt : s.leaveHalt.bcAlt = s.bcAlt := by unfold State.leaveHalt; split <;> rfl
@[simp] theorem State.leaveHalt_deAlt : s.leaveHalt.deAlt = s.deAlt := by unfold State.leaveHalt; split <;> rfl
@[simp] theorem State.leaveHalt_hlAlt : s.leaveHalt.hlAlt = s.hlAlt := by unfold State.leaveHalt; split <;> rfl
@[simp] theorem State.leaveHalt_ix : s.leaveHalt.ix = s.ix := by unfold State.leaveHalt; split <;> rfl
@[simp] theorem State.leaveHalt_iy : s.leaveHalt.iy = s.iy := by unfold State.leaveHalt; split <;> rfl
@[simp] theorem State.leaveHalt_sp : s.leaveHalt.sp = s.sp := by unfold State.leaveHalt; split <;> rfl
@[simp] theorem State.leaveHalt_wz : s.leaveHalt.wz = s.wz := by unfold State.leaveHalt; split <;> rfl
@[simp] theorem State.leaveHalt_iReg : s.leaveHalt.iReg = s.iReg := by unfold State.leaveHalt; split <;> rfl
@[simp] theorem State.leaveHalt_rReg : s.leaveHalt.rReg = s.rReg := by unfold State.leaveHalt; split <;> rfl
@[simp] theorem State.leaveHalt_iff1 : s.leaveHalt.iff1 = s.iff1 := by unfold State.leaveHalt; split <;> rfl
@[simp] theorem State.leaveHalt_iff2 : s.leaveHalt.iff2 = s.iff2 := by unfold State.leaveHalt; split <;> rfl
@[simp] theorem State.leaveHalt_im : s.leaveHalt.im = s.im := by unfold State.leaveHalt; split <;> rfl
@[simp] theorem State.leaveHalt_blocked : s.leaveHalt.blocked = s.blocked := by unfold State.leaveHalt; split <;> rfl
@[simp] theorem State.leaveHalt_inOp : s.leaveHalt.inOp = s.inOp := by unfold State.leaveHalt; split <;> rfl
@[simp] theorem State.leaveHalt_prefixMode : s.leaveHalt.prefixMode = s.prefixMode := by unfold State.leaveHalt; split <;> rfl
@[simp] theorem State.leaveHalt_indexMode : s.leaveHalt.indexMode = s.indexMode := by unfold State.leaveHalt; split <;> rfl
@[simp] theorem State.leaveHalt_opCode : s.leaveHalt.opCode = s.opCode := by unfold State.leaveHalt; split <;> rfl
@[simp] theorem State.leaveHalt_tacts : s.leaveHalt.tacts = s.tacts := by unfold State.leaveHalt; split <;> rfl
@[simp] theorem State.leaveHalt_mem : s.leaveHalt.mem = s.mem := by unfold State.leaveHalt; split <;> rfl
@[simp] theorem State.leaveHalt_cfg : s.leaveHalt.cfg = s.cfg := by unfold State.leaveHalt; split <;> rfl
@[simp] theorem State.leaveHalt_disp : s.leaveHalt.disp = s.disp := by unfold State.leaveHalt; split <;> rfl
@[simp] theorem State.leaveHalt_log : s.leaveHalt.log = s.log := by unfold State.leaveHalt; split <;> rfl
@[simp] theorem State.leaveHalt_portInputs : s.leaveHalt.portInputs = s.portInputs := by unfold State.leaveHalt; split <;> rfl
@[simp] theorem State.leaveHalt_portReads : s.leaveHalt.portReads = s.portReads := by unfold State.leaveHalt; split <;> rfl

/-! ### What memory answers: a call moves on which answer of a device comes next -/

@[simp] theorem State.byteAfter_zero (x : Word) : s.byteAfter 0 x = s.byteAt x := rfl
@[simp] theorem State.wordAfter_zero (x : Word) : s.wordAfter 0 x = s.wordAt x := rfl

/-- What memory answers depends on its contents, on the Bus and on the number of calls made, and on nothing else. -/
theorem State.byteAfter_congr {s t : State} {m n : Nat} (h : t.mem = s.mem) (hc : t.cfg.bus = s.cfg.bus)
    (hl : t.log.length + m = s.log.length + n) (a : Word) : t.byteAfter m a = s.byteAfter n a := by
  unfold State.byteAfter; rw [h, hc, hl]

theorem State.wordAfter_congr {s t : State} {m n : Nat} (h : t.mem = s.mem) (hc : t.cfg.bus = s.cfg.bus)
    (hl : t.log.length + m = s.log.length + n) (a : Word) : t.wordAfter m a = s.wordAfter n a := by
  unfold State.wordAfter
  rw [State.byteAfter_congr h hc hl, State.byteAfter_congr (m := m + 1) (n := n + 1) h hc (by omega)]

/-- Where no device stands, memory answers the same to every call. -/
theorem State.byteAfter_of_not_device {a : Word} (h : kindAt s.cfg.bus.windows a ≠ .device) (n : Nat) :
    s.byteAfter n a = s.byteAt a := by
  unfold State.byteAt State.byteAfter
  cases hk : kindAt s.cfg.bus.windows a
  · rfl
  · rfl
  · exact absurd hk h

@[simp] theorem State.tick_byteAfter (n : Nat) (n' : Nat) (x : Word) : (s.tick n).byteAfter n' x = s.byteAfter n' x := rfl
@[simp] theorem State.tick_byteAt (n : Nat) (x : Word) : (s.tick n).byteAt x = s.byteAt x := rfl
@[simp] theorem State.tick_wordAfter (n : Nat) (n' : Nat) (x : Word) : (s.tick n).wordAfter n' x = s.wordAfter n' x := rfl
@[simp] theorem State.tick_wordAt (n : Nat) (x : Word) : (s.tick n).wordAt x = s.wordAt x := rfl
@[simp] theorem State.note_byteAfter (k : BusKind) (a : Word) (v : Byte) (n' : Nat) (x : Word) : (s.note k a v).byteAfter n' x = s.byteAfter (n' + 1) x :=
  State.byteAfter_congr (by simp) (by simp) (by simp; omega) x
@[simp] theorem State.note_byteAt (k : BusKind) (a : Word) (v : Byte) (x : Word) : (s.note k a v).byteAt x = s.byteAfter 1 x :=
  State.byteAfter_congr (m := 0) (by simp) (by simp) (by simp) x
@[simp] theorem State.note_wordAfter (k : BusKind) (a : Word) (v : Byte) (n' : Nat) (x : Word) : (s.note k a v).wordAfter n' x = s.wordAfter (n' + 1) x :=
  State.wordAfter_congr (by simp) (by simp) (by simp; omega) x
@[simp] theorem State.note_wordAt (k : BusKind) (a : Word) (v : Byte) (x : Word) : (s.note k a v).wordAt x = s.wordAfter 1 x :=
  State.wordAfter_congr (m := 0) (by simp) (by simp) (by simp) x
@[simp] theorem State.setPc_byteAfter (v : Word) (n' : Nat) (x : Word) : (s.setPc v).byteAfter n' x = s.byteAfter n' x := rfl
@[simp] theorem State.setPc_byteAt (v : Word) (x : Word) : (s.setPc v).byteAt x = s.byteAt x := rfl
@[simp] theorem State.setPc_wordAfter (v : Word) (n' : Nat) (x : Word) : (s.setPc v).wordAfter n' x = s.wordAfter n' x := rfl
@[simp] theorem State.setPc_wordAt (v : Word) (x : Word) : (s.setPc v).wordAt x = s.wordAt x := rfl
@[simp] theorem State.setWz_byteAfter (v : Word) (n' : Nat) (x : Word) : (s.setWz v).byteAfter n' x = s.byteAfter n' x := rfl
@[simp] theorem State.setWz_byteAt (v : Word) (x : Word) : (s.setWz v).byteAt x = s.byteAt x := rfl
@[simp] theorem State.setWz_wordAfter (v : Word) (n' : Nat) (x : Word) : (s.setWz v).wordAfter n' x = s.wordAfter n' x := rfl
@[simp] theorem State.setWz_wordAt (v : Word) (x : Word) : (s.setWz v).wordAt x = s.wordAt x := rfl
@[simp] theorem State.setSp_byteAfter (v : Word) (n' : Nat) (x : Word) : (s.setSp v).byteAfter n' x = s.byteAfter n' x := rfl
@[simp] theorem State.setSp_byteAt (v : Word) (x : Word) : (s.setSp v).byteAt x = s.byteAt x := rfl
@[simp] theorem State.setSp_wordAfter (v : Word) (n' : Nat) (x : Word) : (s.setSp v).wordAfter n' x = s.wordAfter n' x := rfl
@[simp] theorem State.setSp_wordAt (v : Word) (x : Word) : (s.setSp v).wordAt x = s.wordAt x := rfl
@[simp] theorem State.setAf_byteAfter (v : Word) (n' : Nat) (x : Word) : (s.setAf v).byteAfter n' x = s.byteAfter n' x := rfl
@[simp] theorem State.setAf_byteAt (v : Word) (x : Word) : (s.setAf v).byteAt x = s.byteAt x := rfl
@[simp] theorem State.setAf_wordAfter (v : Word) (n' : Nat) (x : Word) : (s.setAf v).wordAfter n' x = s.wordAfter n' x := rfl
@[simp] theorem State.setAf_wordAt (v : Word) (x : Word) : (s.setAf v).wordAt x = s.wordAt x := rfl
@[simp] theorem State.setBc_byteAfter (v : Word) (n' : Nat) (x : Word) : (s.setBc v).byteAfter n' x = s.byteAfter n' x := rfl
@[simp] theorem State.setBc_byteAt (v : Word) (x : Word) : (s.setBc v).byteAt x = s.byteAt x := rfl
@[simp] theorem State.setBc_wordAfter (v : Word) (n' : Nat) (x : Word) : (s.setBc v).wordAfter n' x = s.wordAfter n' x := rfl
@[simp] theorem State.setBc_wordAt (v : Word) (x : Word) : (s.setBc v).wordAt x = s.wordAt x := rfl
@[simp] theorem State.setDe_byteAfter (v : Word) (n' : Nat) (x : Word) : (s.setDe v).byteAfter n' x = s.byteAfter n' x := rfl
@[simp] theorem State.setDe_byteAt (v : Word) (x : Word) : (s.setDe v).byteAt x = s.byteAt x := rfl
@[simp] theorem State.setDe_wordAfter (v : Word) (n' : Nat) (x : Word) : (s.setDe v).wordAfter n' x = s.wordAfter n' x := rfl
@[simp] theorem State.setDe_wordAt (v : Word) (x : Word) : (s.setDe v).wordAt x = s.wordAt x := rfl
@[simp] theorem State.setHl_byteAfter (v : Word) (n' : Nat) (x : Word) : (s.setHl v).byteAfter n' x = s.byteAfter n' x := rfl
@[simp] theorem State.setHl_byteAt (v : Word) (x : Word) : (s.setHl v).byteAt x = s.byteAt x := rfl
@[simp] theorem State.setHl_wordAfter (v : Word) (n' : Nat) (x : Word) : (s.setHl v).wordAfter n' x = s.wordAfter n' x := rfl
@[simp] theorem State.setHl_wordAt (v : Word) (x : Word) : (s.setHl v).wordAt x = s.wordAt x := rfl
@[simp] theorem State.setA_byteAfter (v : Byte) (n' : Nat) (x : Word) : (s.setA v).byteAfter n' x = s.byteAfter n' x := rfl
@[simp] theorem State.setA_byteAt (v : Byte) (x : Word) : (s.setA v).byteAt x = s.byteAt x := rfl
@[simp] theorem State.setA_wordAfter (v : Byte) (n' : Nat) (x : Word) : (s.setA v).wordAfter n' x = s.wordAfter n' x := rfl
@[simp] theorem State.setA_wordAt (v : Byte) (x : Word) : (s.setA v).wordAt x = s.wordAt x := rfl
@[simp] theorem State.setF_byteAfter (v : Byte) (n' : Nat) (x : Word) : (s.setF v).byteAfter n' x = s.byteAfter n' x := rfl
@[simp] theorem State.setF_byteAt (v : Byte) (x : Word) : (s.setF v).byteAt x = s.byteAt x := rfl
@[simp] theorem State.setF_wordAfter (v : Byte) (n' : Nat) (x : Word) : (s.setF v).wordAfter n' x = s.wordAfter n' x := rfl
@[simp] theorem State.setF_wordAt (v : Byte) (x : Word) : (s.setF v).wordAt x = s.wordAt x := rfl
@[simp] theorem State.setB_byteAfter (v : Byte) (n' : Nat) (x : Word) : (s.setB v).byteAfter n' x = s.byteAfter n' x := rfl
@[simp] theorem State.setB_byteAt (v : Byte) (x : Word) : (s.setB v).byteAt x = s.byteAt x := rfl
@[simp] theorem State.setB_wordAfter (v : Byte) (n' : Nat) (x : Word) : (s.setB v).wordAfter n' x = s.wordAfter n' x := rfl
@[simp] theorem State.setB_wordAt (v : Byte) (x : Word) : (s.setB v).wordAt x = s.wordAt x := rfl
@[simp] theorem State.setReg_byteAfter (r : Reg8) (v : Byte) (n' : Nat) (x : Word) : (s.setReg r v).byteAfter n' x = s.byteAfter n' x := rfl
@[simp] theorem State.setReg_byteAt (r : Reg8) (v : Byte) (x : Word) : (s.setReg r v).byteAt x = s.byteAt x := rfl
@[simp] theorem State.setReg_wordAfter (r : Reg8) (v : Byte) (n' : Nat) (x : Word) : (s.setReg r v).wordAfter n' x = s.wordAfter n' x := rfl
@[simp] theorem State.setReg_wordAt (r : Reg8) (v : Byte) (x : Word) : (s.setReg r v).wordAt x = s.wordAt x := rfl
@[simp] theorem State.rd_byteAfter (a : Word) (n' : Nat) (x : Word) : (s.rd a).byteAfter n' x = s.byteAfter (n' + 1) x :=
  State.byteAfter_congr (by simp) (by simp) (by simp; omega) x
@[simp] theorem State.rd_byteAt (a : Word) (x : Word) : (s.rd a).byteAt x = s.byteAfter 1 x :=
  State.byteAfter_congr (m := 0) (by simp) (by simp) (by simp) x
@[simp] theorem State.rd_wordAfter (a : Word) (n' : Nat) (x : Word) : (s.rd a).wordAfter n' x = s.wordAfter (n' + 1) x :=
  State.wordAfter_congr (by simp) (by simp) (by simp; omega) x
@[simp] theorem State.rd_wordAt (a : Word) (x : Word) : (s.rd a).wordAt x = s.wordAfter 1 x :=
  State.wordAfter_congr (m := 0) (by simp) (by simp) (by simp) x
@[simp] theorem State.fetch_byteAfter (n' : Nat) (x : Word) : s.fetch.byteAfter n' x = s.byteAfter (n' + 1) x :=
  State.byteAfter_congr (by simp) (by simp) (by simp; omega) x
@[simp] theorem State.fetch_byteAt (x : Word) : s.fetch.byteAt x = s.byteAfter 1 x :=
  State.byteAfter_congr (m := 0) (by simp) (by simp) (by simp) x
@[simp] theorem State.fetch_wordAfter (n' : Nat) (x : Word) : s.fetch.wordAfter n' x = s.wordAfter (n' + 1) x :=
  State.wordAfter_congr (by simp) (by simp) (by simp; omega) x
@[simp] theorem State.fetch_wordAt (x : Word) : s.fetch.wordAt x = s.wordAfter 1 x :=
  State.wordAfter_congr (m := 0) (by simp) (by simp) (by simp) x
@[simp] theorem State.imm8_byteAfter (n' : Nat) (x : Word) : s.imm8.byteAfter n' x = s.byteAfter (n' + 1) x :=
  State.byteAfter_congr (by simp) (by simp) (by simp; omega) x
@[simp] theorem State.imm8_byteAt (x : Word) : s.imm8.byteAt x = s.byteAfter 1 x :=
  State.byteAfter_congr (m := 0) (by simp) (by simp) (by simp) x
@[simp] theorem State.imm8_wordAfter (n' : Nat) (x : Word) : s.imm8.wordAfter n' x = s.wordAfter (n' + 1) x :=
  State.wordAfter_congr (by simp) (by simp) (by simp; omega) x
@[simp] theorem State.imm8_wordAt (x : Word) : s.imm8.wordAt x = s.wordAfter 1 x :=
  State.wordAfter_congr (m := 0) (by simp) (by simp) (by simp) x
@[simp] theorem State.portRd_byteAfter (a : Word) (n' : Nat) (x : Word) : (s.portRd a).byteAfter n' x = s.byteAfter (n' + 1) x :=
  State.byteAfter_congr (by simp) (by simp) (by simp; omega) x
@[simp] theorem State.portRd_byteAt (a : Word) (x : Word) : (s.portRd a).byteAt x = s.byteAfter 1 x :=
  State.byteAfter_congr (m := 0) (by simp) (by simp) (by simp) x
@[simp] theorem State.portRd_wordAfter (a : Word) (n' : Nat) (x : Word) : (s.portRd a).wordAfter n' x = s.wordAfter (n' + 1) x :=
  State.wordAfter_congr (by simp) (by simp) (by simp; omega) x
@[simp] theorem State.portRd_wordAt (a : Word) (x : Word) : (s.portRd a).wordAt x = s.wordAfter 1 x :=
  State.wordAfter_congr (m := 0) (by simp) (by simp) (by simp) x
@[simp] theorem State.portWr_byteAfter (a : Word) (v : Byte) (n' : Nat) (x : Word) : (s.portWr a v).byteAfter n' x = s.byteAfter (n' + 1) x :=
  State.byteAfter_congr (by simp) (by simp) (by simp; omega) x
@[simp] theorem State.portWr_byteAt (a : Word) (v : Byte) (x : Word) : (s.portWr a v).byteAt x = s.byteAfter 1 x :=
  State.byteAfter_congr (m := 0) (by simp) (by simp) (by simp) x
@[simp] theorem State.portWr_wordAfter (a : Word) (v : Byte) (n' : Nat) (x : Word) : (s.portWr a v).wordAfter n' x = s.wordAfter (n' + 1) x :=
  State.wordAfter_congr (by simp) (by simp) (by simp; omega) x
@[simp] theorem State.portWr_wordAt (a : Word) (v : Byte) (x : Word) : (s.portWr a v).wordAt x = s.wordAfter 1 x :=
  State.wordAfter_congr (m := 0) (by simp) (by simp) (by simp) x
@[simp] theorem State.alu_byteAfter (op : AluOp) (v : Byte) (n' : Nat) (x : Word) : (s.alu op v).byteAfter n' x = s.byteAfter n' x := rfl
@[simp] theorem State.alu_byteAt (op : AluOp) (v : Byte) (x : Word) : (s.alu op v).byteAt x = s.byteAt x := rfl
@[simp] theorem State.alu_wordAfter (op : AluOp) (v : Byte) (n' : Nat) (x : Word) : (s.alu op v).wordAfter n' x = s.wordAfter n' x := rfl
@[simp] theorem State.alu_wordAt (op : AluOp) (v : Byte) (x : Word) : (s.alu op v).wordAt x = s.wordAt x := rfl
@[simp] theorem State.incF_byteAfter (v : Byte) (n' : Nat) (x : Word) : (s.incF v).byteAfter n' x = s.byteAfter n' x := rfl
@[simp] theorem State.incF_byteAt (v : Byte) (x : Word) : (s.incF v).byteAt x = s.byteAt x := rfl
@[simp] theorem State.incF_wordAfter (v : Byte) (n' : Nat) (x : Word) : (s.incF v).wordAfter n' x = s.wordAfter n' x := rfl
@[simp] theorem State.incF_wordAt (v : Byte) (x : Word) : (s.incF v).wordAt x = s.wordAt x := rfl
@[simp] theorem State.decF_byteAfter (v : Byte) (n' : Nat) (x : Word) : (s.decF v).byteAfter n' x = s.byteAfter n' x := rfl
@[simp] theorem State.decF_byteAt (v : Byte) (x : Word) : (s.decF v).byteAt x = s.byteAt x := rfl
@[simp] theorem State.decF_wordAfter (v : Byte) (n' : Nat) (x : Word) : (s.decF v).wordAfter n' x = s.wordAfter n' x := rfl
@[simp] theorem State.decF_wordAt (v : Byte) (x : Word) : (s.decF v).wordAt x = s.wordAt x := rfl
@[simp] theorem State.finish_byteAfter (n' : Nat) (x : Word) : s.finish.byteAfter n' x = s.byteAfter n' x := rfl
@[simp] theorem State.finish_byteAt (x : Word) : s.finish.byteAt x = s.byteAt x := rfl
@[simp] theorem State.finish_wordAfter (n' : Nat) (x : Word) : s.finish.wordAfter n' x = s.wordAfter n' x := rfl
@[simp] theorem State.finish_wordAt (x : Word) : s.finish.wordAt x = s.wordAt x := rfl
@[simp] theorem State.fetchOpcode_byteAfter (n' : Nat) (x : Word) : s.fetchOpcode.byteAfter n' x = s.byteAfter (n' + 1) x :=
  State.byteAfter_congr (by simp) (by simp) (by simp; omega) x
@[simp] theorem State.fetchOpcode_byteAt (x : Word) : s.fetchOpcode.byteAt x = s.byteAfter 1 x :=
  State.byteAfter_congr (m := 0) (by simp) (by simp) (by simp) x
@[simp] theorem State.fetchOpcode_wordAfter (n' : Nat) (x : Word) : s.fetchOpcode.wordAfter n' x = s.wordAfter (n' + 1) x :=
  State.wordAfter_congr (by simp) (by simp) (by simp; omega) x
@[simp] theorem State.fetchOpcode_wordAt (x : Word) : s.fetchOpcode.wordAt x = s.wordAfter 1 x :=
  State.wordAfter_congr (m := 0) (by simp) (by simp) (by simp) x
@[simp] theorem State.holdOff_byteAfter (n' : Nat) (x : Word) : s.holdOff.byteAfter n' x = s.byteAfter n' x := rfl
@[simp] theorem State.holdOff_byteAt (x : Word) : s.holdOff.byteAt x = s.byteAt x := rfl
@[simp] theorem State.holdOff_wordAfter (n' : Nat) (x : Word) : s.holdOff.wordAfter n' x = s.wordAfter n' x := rfl
@[simp] theorem State.holdOff_wordAt (x : Word) : s.holdOff.wordAt x = s.wordAt x := rfl

/-! ### `imm16` -/

@[simp] theorem State.imm16_regs : s.imm16.regs = s.regs := by simp [State.imm16]
@[simp] theorem State.imm16_afAlt : s.imm16.afAlt = s.afAlt := by simp [State.imm16]
@[simp] theorem State.imm16_bcAlt : s.imm16.bcAlt = s.bcAlt := by simp [State.imm16]
@[simp] theorem State.imm16_deAlt : s.imm16.deAlt = s.deAlt := by simp [State.imm16]
@[simp] theorem State.imm16_hlAlt : s.imm16.hlAlt = s.hlAlt := by simp [State.imm16]
@[simp] theorem State.imm16_ix : s.imm16.ix = s.ix := by simp [State.imm16]
@[simp] theorem State.imm16_iy : s.imm16.iy = s.iy := by simp [State.imm16]
@[simp] theorem State.imm16_sp : s.imm16.sp = s.sp := by simp [State.imm16]
@[simp] theorem State.imm16_pc : s.imm16.pc = s.pc + 2#16 := by simp [State.imm16, word_add_one_one]
@[simp] theorem State.imm16_wz : s.imm16.wz = s.wz := by simp [State.imm16]
@[simp] theorem State.imm16_iReg : s.imm16.iReg = s.iReg := by simp [State.imm16]
@[simp] theorem State.imm16_rReg : s.imm16.rReg = s.rReg := by simp [State.imm16]
@[simp] theorem State.imm16_iff1 : s.imm16.iff1 = s.iff1 := by simp [State.imm16]
@[simp] theorem State.imm16_iff2 : s.imm16.iff2 = s.iff2 := by simp [State.imm16]
@[simp] theorem State.imm16_im : s.imm16.im = s.im := by simp [State.imm16]
@[simp] theorem State.imm16_sig : s.imm16.sig = s.sig := by simp [State.imm16]
@[simp] theorem State.imm16_blocked : s.imm16.blocked = s.blocked := by simp [State.imm16]
@[simp] theorem State.imm16_inOp : s.imm16.inOp = s.inOp := by simp [State.imm16]
@[simp] theorem State.imm16_prefixMode : s.imm16.prefixMode = s.prefixMode := by simp [State.imm16]
@[simp] theorem State.imm16_indexMode : s.imm16.indexMode = s.indexMode := by simp [State.imm16]
@[simp] theorem State.imm16_opCode : s.imm16.opCode = s.opCode := by simp [State.imm16]
@[simp] theorem State.imm16_tacts : s.imm16.tacts = s.tacts + s.cfg.tact.access + s.cfg.tact.access := by simp [State.imm16, Nat.add_assoc]
@[simp] theorem State.imm16_mem : s.imm16.mem = s.mem := by simp [State.imm16]
@[simp] theorem State.imm16_cfg : s.imm16.cfg = s.cfg := by simp [State.imm16]
@[simp] theorem State.imm16_disp : s.imm16.disp = s.disp := by simp [State.imm16]
@[simp] theorem State.imm16_log : s.imm16.log = ⟨.memRead, s.pc + 1#16, s.byteAfter 1 (s.pc + 1#16), s.tacts + s.cfg.tact.access⟩ :: ⟨.memRead, s.pc, s.byteAt s.pc, s.tacts⟩ :: s.log := by simp [State.imm16]
@[simp] theorem State.imm16_portInputs : s.imm16.portInputs = s.portInputs := by simp [State.imm16]
@[simp] theorem State.imm16_portReads : s.imm16.portReads = s.portReads := by simp [State.imm16]
@[simp] theorem State.imm16_byteAfter (n' : Nat) (x : Word) : s.imm16.byteAfter n' x = s.byteAfter (n' + 2) x :=
  State.byteAfter_congr (by simp) (by simp) (by simp; omega) x
@[simp] theorem State.imm16_byteAt (x : Word) : s.imm16.byteAt x = s.byteAfter 2 x :=
  State.byteAfter_congr (m := 0) (by simp) (by simp) (by simp) x
@[simp] theorem State.imm16_wordAfter (n' : Nat) (x : Word) : s.imm16.wordAfter n' x = s.wordAfter (n' + 2) x :=
  State.wordAfter_congr (by simp) (by simp) (by simp; omega) x
@[simp] theorem State.imm16_wordAt (x : Word) : s.imm16.wordAt x = s.wordAfter 2 x :=
  State.wordAfter_congr (m := 0) (by simp) (by simp) (by simp) x

/-! ### `push16` -/

@[simp] theorem State.push16_regs (v : Word) : (s.push16 v).regs = s.regs := by simp [State.push16]
@[simp] theorem State.push16_afAlt (v : Word) : (s.push16 v).afAlt = s.afAlt := by simp [State.push16]
@[simp] theorem State.push16_bcAlt (v : Word) : (s.push16 v).bcAlt = s.bcAlt := by simp [State.push16]
@[simp] theorem State.push16_deAlt (v : Word) : (s.push16 v).deAlt = s.deAlt := by simp [State.push16]
@[simp] theorem State.push16_hlAlt (v : Word) : (s.push16 v).hlAlt = s.hlAlt := by simp [State.push16]
@[simp] theorem State.push16_ix (v : Word) : (s.push16 v).ix = s.ix := by simp [State.push16]
@[simp] theorem State.push16_iy (v : Word) : (s.push16 v).iy = s.iy := by simp [State.push16]
@[simp] theorem State.push16_sp (v : Word) : (s.push16 v).sp = s.sp - 2#16 := by simp [State.push16]
@[simp] theorem State.push16_pc (v : Word) : (s.push16 v).pc = s.pc := by simp [State.push16]
@[simp] theorem State.push16_wz (v : Word) : (s.push16 v).wz = s.wz := by simp [State.push16]
@[simp] theorem State.push16_iReg (v : Word) : (s.push16 v).iReg = s.iReg := by simp [State.push16]
@[simp] theorem State.push16_rReg (v : Word) : (s.push16 v).rReg = s.rReg := by simp [State.push16]
@[simp] theorem State.push16_iff1 (v : Word) : (s.push16 v).iff1 = s.iff1 := by simp [State.push16]
@[simp] theorem State.push16_iff2 (v : Word) : (s.push16 v).iff2 = s.iff2 := by simp [State.push16]
@[simp] theorem State.push16_im (v : Word) : (s.push16 v).im = s.im := by simp [State.push16]
@[simp] theorem State.push16_sig (v : Word) : (s.push16 v).sig = s.sig := by simp [State.push16]
@[simp] theorem State.push16_blocked (v : Word) : (s.push16 v).blocked = s.blocked := by simp [State.push16]
@[simp] theorem State.push16_inOp (v : Word) : (s.push16 v).inOp = s.inOp := by simp [State.push16]
@[simp] theorem State.push16_prefixMode (v : Word) : (s.push16 v).prefixMode = s.prefixMode := by simp [State.push16]
@[simp] theorem State.push16_indexMode (v : Word) : (s.push16 v).indexMode = s.indexMode := by simp [State.push16]
@[simp] theorem State.push16_opCode (v : Word) : (s.push16 v).opCode = s.opCode := by simp [State.push16]
@[simp] theorem State.push16_tacts (v : Word) : (s.push16 v).tacts = s.tacts + s.cfg.tact.access + s.cfg.tact.access := by simp [State.push16, Nat.add_assoc]
@[simp] theorem State.push16_mem (v : Word) : (s.push16 v).mem = s.cfg.bus.store (s.cfg.bus.store s.mem (s.sp - 1#16) (highByte v)) (s.sp - 2#16) (lowByte v) := by simp [State.push16]
@[simp] theorem State.push16_cfg (v : Word) : (s.push16 v).cfg = s.cfg := by simp [State.push16]
@[simp] theorem State.push16_disp (v : Word) : (s.push16 v).disp = s.disp := by simp [State.push16]
@[simp] theorem State.push16_log (v : Word) : (s.push16 v).log = ⟨.memWrite, s.sp - 2#16, lowByte v, s.tacts + s.cfg.tact.access⟩ :: ⟨.memWrite, s.sp - 1#16, highByte v, s.tacts⟩ :: s.log := by simp [State.push16]
@[simp] theorem State.push16_portInputs (v : Word) : (s.push16 v).portInputs = s.portInputs := by simp [State.push16]
@[simp] theorem State.push16_portReads (v : Word) : (s.push16 v).portReads = s.portReads := by simp [State.push16]

/-! ### `pop16` -/

@[simp] theorem State.pop16_regs : s.pop16.regs = s.regs := by simp [State.pop16]
@[simp] theorem State.pop16_afAlt : s.pop16.afAlt = s.afAlt := by simp [State.pop16]
@[simp] theorem State.pop16_bcAlt : s.pop16.bcAlt = s.bcAlt := by simp [State.pop16]
@[simp] theorem State.pop16_deAlt : s.pop16.deAlt = s.deAlt := by simp [State.pop16]
@[simp] theorem State.pop16_hlAlt : s.pop16.hlAlt = s.hlAlt := by simp [State.pop16]
@[simp] theorem State.pop16_ix : s.pop16.ix = s.ix := by simp [State.pop16]
@[simp] theorem State.pop16_iy : s.pop16.iy = s.iy := by simp [State.pop16]
@[simp] theorem State.pop16_sp : s.pop16.sp = s.sp + 2#16 := by simp [State.pop16]
@[simp] theorem State.pop16_pc : s.pop16.pc = s.pc := by simp [State.pop16]
@[simp] theorem State.pop16_wz : s.pop16.wz = s.wz := by simp [State.pop16]
@[simp] theorem State.pop16_iReg : s.pop16.iReg = s.iReg := by simp [State.pop16]
@[simp] theorem State.pop16_rReg : s.pop16.rReg = s.rReg := by simp [State.pop16]
@[simp] theorem State.pop16_iff1 : s.pop16.iff1 = s.iff1 := by simp [State.pop16]
@[simp] theorem State.pop16_iff2 : s.pop16.iff2 = s.iff2 := by simp [State.pop16]
@[simp] theorem State.pop16_im : s.pop16.im = s.im := by simp [State.pop16]
@[simp] theorem State.pop16_sig : s.pop16.sig = s.sig := by simp [State.pop16]
@[simp] theorem State.pop16_blocked : s.pop16.blocked = s.blocked := by simp [State.pop16]
@[simp] theorem State.pop16_inOp : s.pop16.inOp = s.inOp := by simp [State.pop16]
@[simp] theorem State.pop16_prefixMode : s.pop16.prefixMode = s.prefixMode := by simp [State.pop16]
@[simp] theorem State.pop16_indexMode : s.pop16.indexMode = s.indexMode := by simp [State.pop16]
@[simp] theorem State.pop16_opCode : s.pop16.opCode = s.opCode := by simp [State.pop16]
@[simp] theorem State.pop16_tacts : s.pop16.tacts = s.tacts + s.cfg.tact.access + s.cfg.tact.access := by simp [State.pop16, Nat.add_assoc]
@[simp] theorem State.pop16_mem : s.pop16.mem = s.mem := by simp [State.pop16]
@[simp] theorem State.pop16_cfg : s.pop16.cfg = s.cfg := by simp [State.pop16]
@[simp] theorem State.pop16_disp : s.pop16.disp = s.disp := by simp [State.pop16]
@[simp] theorem State.pop16_log : s.pop16.log = ⟨.memRead, s.sp + 1#16, s.byteAfter 1 (s.sp + 1#16), s.tacts + s.cfg.tact.access⟩ :: ⟨.memRead, s.sp, s.byteAt s.sp, s.tacts⟩ :: s.log := by simp [State.pop16]
@[simp] theorem State.pop16_portInputs : s.pop16.portInputs = s.portInputs := by simp [State.pop16]
@[simp] theorem State.pop16_portReads : s.pop16.portReads = s.portReads := by simp [State.pop16]
@[simp] theorem State.pop16_byteAfter (n' : Nat) (x : Word) : s.pop16.byteAfter n' x = s.byteAfter (n' + 2) x :=
  State.byteAfter_congr (by simp) (by simp) (by simp; omega) x
@[simp] theorem State.pop16_byteAt (x : Word) : s.pop16.byteAt x = s.byteAfter 2 x :=
  State.byteAfter_congr (m := 0) (by simp) (by simp) (by simp) x
@[simp] theorem State.pop16_wordAfter (n' : Nat) (x : Word) : s.pop16.wordAfter n' x = s.wordAfter (n' + 2) x :=
  State.wordAfter_congr (by simp) (by simp) (by simp; omega) x
@[simp] theorem State.pop16_wordAt (x : Word) : s.pop16.wordAt x = s.wordAfter 2 x :=
  State.wordAfter_congr (m := 0) (by simp) (by simp) (by simp) x

/-! ### The tact constants as written -/

@[simp] theorem TactConstants.written_fetch : TactConstants.written.fetch = 4 := rfl
@[simp] theorem TactConstants.written_access : TactConstants.written.access = 3 := rfl
@[simp] theorem TactConstants.written_indexedBit : TactConstants.written.indexedBit = 2 := rfl
@[simp] theorem TactConstants.written_ldSpHl : TactConstants.written.ldSpHl = 2 := rfl
@[simp] theorem TactConstants.written_push : TactConstants.written.push = 1 := rfl
@[simp] theorem TactConstants.written_exSpHlRead : TactConstants.written.exSpHlRead = 1 := rfl
@[simp] theorem TactConstants.written_exSpHlEnd : TactConstants.written.exSpHlEnd = 2 := rfl
@[simp] theorem TactConstants.written_incAtHl : TactConstants.written.incAtHl = 1 := rfl
@[simp] theorem TactConstants.written_decAtHl : TactConstants.written.decAtHl = 1 := rfl
@[simp] theorem TactConstants.written_addHl : TactConstants.written.addHl = 7 := rfl
@[simp] theorem TactConstants.written_incPair : TactConstants.written.incPair = 2 := rfl
@[simp] theorem TactConstants.written_decPair : TactConstants.written.decPair = 2 := rfl
@[simp] theorem TactConstants.written_takenDelay : TactConstants.written.takenDelay = 5 := rfl
@[simp] theorem TactConstants.written_extraRead : TactConstants.written.extraRead = 1 := rfl
@[simp] theorem TactConstants.written_djnz : TactConstants.written.djnz = 1 := rfl
@[simp] theorem TactConstants.written_call : TactConstants.written.call = 1 := rfl
@[simp] theorem TactConstants.written_callCc : TactConstants.written.callCc = 1 := rfl
@[simp] theorem TactConstants.written_retCc : TactConstants.written.retCc = 1 := rfl
@[simp] theorem TactConstants.written_rst : TactConstants.written.rst = 1 := rfl
@[simp] theorem TactConstants.written_penalty : TactConstants.written.penalty = 5 := rfl
@[simp] theorem TactConstants.written_ldSpXy : TactConstants.written.ldSpXy = 2 := rfl
@[simp] theorem TactConstants.written_pushXy : TactConstants.written.pushXy = 1 := rfl
@[simp] theorem TactConstants.written_exSpXyRead : TactConstants.written.exSpXyRead = 1 := rfl
@[simp] theorem TactConstants.written_exSpXyEnd : TactConstants.written.exSpXyEnd = 2 := rfl
@[simp] theorem TactConstants.written_addXy : TactConstants.written.addXy = 7 := rfl
@[simp] theorem TactConstants.written_incXy : TactConstants.written.incXy = 2 := rfl
@[simp] theorem TactConstants.written_decXy : TactConstants.written.decXy = 2 := rfl
@[simp] theorem TactConstants.written_ldXydImm : TactConstants.written.ldXydImm = 2 := rfl
@[simp] theorem TactConstants.written_incXyd : TactConstants.written.incXyd = 1 := rfl
@[simp] theorem TactConstants.written_decXyd : TactConstants.written.decXyd = 1 := rfl
@[simp] theorem TactConstants.written_modifyAtHl : TactConstants.written.modifyAtHl = 1 := rfl
@[simp] theorem TactConstants.written_bitAtHl : TactConstants.written.bitAtHl = 1 := rfl
@[simp] theorem TactConstants.written_modifyXyd : TactConstants.written.modifyXyd = 1 := rfl
@[simp] theorem TactConstants.written_bitXyd : TactConstants.written.bitXyd = 1 := rfl
@[simp] theorem TactConstants.written_sbcHl : TactConstants.written.sbcHl = 7 := rfl
@[simp] theorem TactConstants.written_adcHl : TactConstants.written.adcHl = 7 := rfl
@[simp] theorem TactConstants.written_ldIA : TactConstants.written.ldIA = 1 := rfl
@[simp] theorem TactConstants.written_ldRA : TactConstants.written.ldRA = 1 := rfl
@[simp] theorem TactConstants.written_ldAI : TactConstants.written.ldAI = 1 := rfl
@[simp] theorem TactConstants.written_ldAR : TactConstants.written.ldAR = 1 := rfl
@[simp] theorem TactConstants.written_rrd : TactConstants.written.rrd = 4 := rfl
@[simp] theorem TactConstants.written_rld : TactConstants.written.rld = 4 := rfl
@[simp] theorem TactConstants.written_blockLoad : TactConstants.written.blockLoad = 2 := rfl
@[simp] theorem TactConstants.written_blockLoadRepeat : TactConstants.written.blockLoadRepeat = 5 := rfl
@[simp] theorem TactConstants.written_blockCompare : TactConstants.written.blockCompare = 5 := rfl
@[simp] theorem TactConstants.written_blockCompareRepeat : TactConstants.written.blockCompareRepeat = 5 := rfl
@[simp] theorem TactConstants.written_blockIn : TactConstants.written.blockIn = 1 := rfl
@[simp] theorem TactConstants.written_blockInRepeat : TactConstants.written.blockInRepeat = 5 := rfl
@[simp] theorem TactConstants.written_blockOut : TactConstants.written.blockOut = 1 := rfl
@[simp] theorem TactConstants.written_blockOutRepeat : TactConstants.written.blockOutRepeat = 5 := rfl
@[simp] theorem TactConstants.written_halted : TactConstants.written.halted = 4 := rfl
@[simp] theorem TactConstants.written_intPush : TactConstants.written.intPush = 1 := rfl
@[simp] theorem TactConstants.written_intJump : TactConstants.written.intJump = 6 := rfl
@[simp] theorem TactConstants.written_nmiPush : TactConstants.written.nmiPush = 1 := rfl
@[simp] theorem TactConstants.written_nmiJump : TactConstants.written.nmiJump = 4 := rfl

/-! ### Writes by name -/

@[simp] theorem State.setPair_bc (v : Word) : s.setPair .bc v = s.setBc v := rfl
@[simp] theorem State.setQPair_bc (v : Word) : s.setQPair .bc v = s.setBc v := rfl
@[simp] theorem State.setPair_de (v : Word) : s.setPair .de v = s.setDe v := rfl
@[simp] theorem State.setQPair_de (v : Word) : s.setQPair .de v = s.setDe v := rfl
@[simp] theorem State.setPair_hl (v : Word) : s.setPair .hl v = s.setHl v := rfl
@[simp] theorem State.setQPair_hl (v : Word) : s.setQPair .hl v = s.setHl v := rfl
@[simp] theorem State.setPair_sp (v : Word) : s.setPair .sp v = s.setSp v := rfl
@[simp] theorem State.setQPair_af (v : Word) : s.setQPair .af v = s.setAf v := rfl
@[simp] theorem State.xy_ix : s.xy .ix = s.ix := rfl
@[simp] theorem State.setXy_ix_ix (v : Word) : (s.setXy .ix v).ix = v := rfl
@[simp] theorem State.setXy_ix_iy (v : Word) : (s.setXy .ix v).iy = s.iy := rfl
@[simp] theorem State.xy_iy : s.xy .iy = s.iy := rfl
@[simp] theorem State.setXy_iy_ix (v : Word) : (s.setXy .iy v).ix = s.ix := rfl
@[simp] theorem State.setXy_iy_iy (v : Word) : (s.setXy .iy v).iy = v := rfl
@[simp] theorem State.setHalf_high (x : XY) (v : Byte) :
    s.setHalf x .high v = s.setXy x (pairOf v (lowByte (s.xy x))) := rfl
@[simp] theorem State.setHalf_low (x : XY) (v : Byte) :
    s.setHalf x .low v = s.setXy x (pairOf (highByte (s.xy x)) v) := rfl
@[simp] theorem State.half_high (x : XY) : s.half x .high = highByte (s.xy x) := rfl
@[simp] theorem State.half_low (x : XY) : s.half x .low = lowByte (s.xy x) := rfl

/-! ### Registers -/

@[simp] theorem Regs.get_set_same (g : Regs) (r : Reg8) (v : Byte) : (g.set r v).get r = v := by
  cases r <;> rfl

theorem Regs.get_set_other (g : Regs) {r q : Reg8} (v : Byte) (h : q ≠ r) : (g.set r v).get q = g.get q := by
  cases r <;> cases q <;> first | rfl | exact absurd rfl h

@[simp] theorem Regs.set_f (g : Regs) (r : Reg8) (v : Byte) : (g.set r v).f = g.f := by
  cases r <;> rfl

/-! ### `settle` -/

@[simp] theorem State.settle_regs (n : Nat) : (s.settle n).regs = s.regs := rfl
@[simp] theorem State.settle_afAlt (n : Nat) : (s.settle n).afAlt = s.afAlt := rfl
@[simp] theorem State.settle_bcAlt (n : Nat) : (s.settle n).bcAlt = s.bcAlt := rfl
@[simp] theorem State.settle_deAlt (n : Nat) : (s.settle n).deAlt = s.deAlt := rfl
@[simp] theorem State.settle_hlAlt (n : Nat) : (s.settle n).hlAlt = s.hlAlt := rfl
@[simp] theorem State.settle_ix (n : Nat) : (s.settle n).ix = s.ix := rfl
@[simp] theorem State.settle_iy (n : Nat) : (s.settle n).iy = s.iy := rfl
@[simp] theorem State.settle_sp (n : Nat) : (s.settle n).sp = s.sp := rfl
@[simp] theorem State.settle_pc (n : Nat) : (s.settle n).pc = s.pc := rfl
@[simp] theorem State.settle_wz (n : Nat) : (s.settle n).wz = s.wz := rfl
@[simp] theorem State.settle_iReg (n : Nat) : (s.settle n).iReg = s.iReg := rfl
@[simp] theorem State.settle_rReg (n : Nat) : (s.settle n).rReg = s.rReg := rfl
@[simp] theorem State.settle_iff1 (n : Nat) : (s.settle n).iff1 = s.iff1 := rfl
@[simp] theorem State.settle_iff2 (n : Nat) : (s.settle n).iff2 = s.iff2 := rfl
@[simp] theorem State.settle_im (n : Nat) : (s.settle n).im = s.im := rfl
@[simp] theorem State.settle_sig (n : Nat) : (s.settle n).sig = s.sig := rfl
@[simp] theorem State.settle_blocked (n : Nat) : (s.settle n).blocked = s.blocked := rfl
@[simp] theorem State.settle_inOp (n : Nat) : (s.settle n).inOp = s.inOp := rfl
@[simp] theorem State.settle_prefixMode (n : Nat) : (s.settle n).prefixMode = s.prefixMode := rfl
@[simp] theorem State.settle_indexMode (n : Nat) : (s.settle n).indexMode = s.indexMode := rfl
@[simp] theorem State.settle_opCode (n : Nat) : (s.settle n).opCode = s.opCode := rfl
@[simp] theorem State.settle_mem (n : Nat) : (s.settle n).mem = s.mem := rfl
@[simp] theorem State.settle_cfg (n : Nat) : (s.settle n).cfg = s.cfg := rfl
@[simp] theorem State.settle_disp (n : Nat) : (s.settle n).disp = s.disp := rfl
@[simp] theorem State.settle_portInputs (n : Nat) : (s.settle n).portInputs = s.portInputs := rfl
@[simp] theorem State.settle_portReads (n : Nat) : (s.settle n).portReads = s.portReads := rfl

/-! ### The loops -/

theorem State.extraReads_eq (da : Word) (n : Nat) :
    s.extraReads da n = { s with tacts := s.tacts + n * s.cfg.tact.extraRead, log := (s.extraReads da n).log } := by
  induction n generalizing s with
  | zero => simp [State.extraReads]
  | succ n ih =>
    unfold State.extraReads
    rw [ih]
    apply State.eq_of_fields <;> simp
    rw [Nat.add_mul]; omega

/-- A taken-branch delay adds tacts and, in the mode without gate-array contention, log entries; nothing else. -/
theorem State.takenDelay_eq (da : Word) :
    s.takenDelay da = { s with tacts := (s.takenDelay da).tacts, log := (s.takenDelay da).log } := by
  unfold State.takenDelay
  split
  · rfl
  · rw [State.extraReads_eq]

@[simp] theorem State.takenDelay_regs (da : Word) : (s.takenDelay da).regs = s.regs := by rw [State.takenDelay_eq]
@[simp] theorem State.takenDelay_afAlt (da : Word) : (s.takenDelay da).afAlt = s.afAlt := by rw [State.takenDelay_eq]
@[simp] theorem State.takenDelay_bcAlt (da : Word) : (s.takenDelay da).bcAlt = s.bcAlt := by rw [State.takenDelay_eq]
@[simp] theorem State.takenDelay_deAlt (da : Word) : (s.takenDelay da).deAlt = s.deAlt := by rw [State.takenDelay_eq]
@[simp] theorem State.takenDelay_hlAlt (da : Word) : (s.takenDelay da).hlAlt = s.hlAlt := by rw [State.takenDelay_eq]
@[simp] theorem State.takenDelay_ix (da : Word) : (s.takenDelay da).ix = s.ix := by rw [State.takenDelay_eq]
@[simp] theorem State.takenDelay_iy (da : Word) : (s.takenDelay da).iy = s.iy := by rw [State.takenDelay_eq]
@[simp] theorem State.takenDelay_sp (da : Word) : (s.takenDelay da).sp = s.sp := by rw [State.takenDelay_eq]
@[simp] theorem State.takenDelay_pc (da : Word) : (s.takenDelay da).pc = s.pc := by rw [State.takenDelay_eq]
@[simp] theorem State.takenDelay_wz (da : Word) : (s.takenDelay da).wz = s.wz := by rw [State.takenDelay_eq]
@[simp] theorem State.takenDelay_iReg (da : Word) : (s.takenDelay da).iReg = s.iReg := by rw [State.takenDelay_eq]
@[simp] theorem State.takenDelay_rReg (da : Word) : (s.takenDelay da).rReg = s.rReg := by rw [State.takenDelay_eq]
@[simp] theorem State.takenDelay_iff1 (da : Word) : (s.takenDelay da).iff1 = s.iff1 := by rw [State.takenDelay_eq]
@[simp] theorem State.takenDelay_iff2 (da : Word) : (s.takenDelay da).iff2 = s.iff2 := by rw [State.takenDelay_eq]
@[simp] theorem State.takenDelay_im (da : Word) : (s.takenDelay da).im = s.im := by rw [State.takenDelay_eq]
@[simp] theorem State.takenDelay_sig (da : Word) : (s.takenDelay da).sig = s.sig := by rw [State.takenDelay_eq]
@[simp] theorem State.takenDelay_blocked (da : Word) : (s.takenDelay da).blocked = s.blocked := by rw [State.takenDelay_eq]
@[simp] theorem State.takenDelay_inOp (da : Word) : (s.takenDelay da).inOp = s.inOp := by rw [State.takenDelay_eq]
@[simp] theorem State.takenDelay_prefixMode (da : Word) : (s.takenDelay da).prefixMode = s.prefixMode := by rw [State.takenDelay_eq]
@[simp] theorem State.takenDelay_indexMode (da : Word) : (s.takenDelay da).indexMode = s.indexMode := by rw [State.takenDelay_eq]
@[simp] theorem State.takenDelay_opCode (da : Word) : (s.takenDelay da).opCode = s.opCode := by rw [State.takenDelay_eq]
@[simp] theorem State.takenDelay_mem (da : Word) : (s.takenDelay da).mem = s.mem := by rw [State.takenDelay_eq]
@[simp] theorem State.takenDelay_cfg (da : Word) : (s.takenDelay da).cfg = s.cfg := by rw [State.takenDelay_eq]
@[simp] theorem State.takenDelay_disp (da : Word) : (s.takenDelay da).disp = s.disp := by rw [State.takenDelay_eq]
@[simp] theorem State.takenDelay_portInputs (da : Word) : (s.takenDelay da).portInputs = s.portInputs := by rw [State.takenDelay_eq]
@[simp] theorem State.takenDelay_portReads (da : Word) : (s.takenDelay da).portReads = s.portReads := by rw [State.takenDelay_eq]

end Sys2Proof.Machine
end

