-- ==== Sys2Proof/Laws/Memory.lean ====
section
/-! SUPPORT. The laws of memory: a read after a write, and that every write keeps the canonical form. -/

namespace Sys2Proof.Machine

theorem Memory.read_erase_same (m : List Host.Cell) (a : Nat) : Memory.read (Memory.erase m a) a = Config.unlistedByte := by
  induction m with
  | nil => rfl
  | cons c rest ih =>
    obtain ⟨k, w⟩ := c
    by_cases h : k = a <;> simp [Memory.erase, Memory.read, h, ih]

theorem Memory.read_erase_other (m : List Host.Cell) {a b : Nat} (hab : b ≠ a) :
    Memory.read (Memory.erase m a) b = Memory.read m b := by
  induction m with
  | nil => rfl
  | cons c rest ih =>
    obtain ⟨k, w⟩ := c
    by_cases h : k = a
    · have hb : k ≠ b := fun e => hab (e.symm.trans h)
      rw [Memory.erase, if_pos h, ih, Memory.read, if_neg hb]
    · rw [Memory.erase, if_neg h, Memory.read, Memory.read, ih]

theorem Memory.read_insert_same (m : List Host.Cell) (a : Nat) (v : Byte)
    (h : ∀ w, (a, w) ∉ m) : Memory.read (Memory.insert m a v) a = v := by
  induction m with
  | nil => simp [Memory.insert, Memory.read]
  | cons c rest ih =>
    obtain ⟨k, w⟩ := c
    have hk : k ≠ a := fun e => h w (by simp [e])
    have hr : ∀ w, (a, w) ∉ rest := fun w hw => h w (by simp [hw])
    by_cases hlt : a < k <;> simp [Memory.insert, Memory.read, hlt, hk, ih hr]

theorem Memory.read_insert_other (m : List Host.Cell) {a b : Nat} (v : Byte) (hab : b ≠ a) :
    Memory.read (Memory.insert m a v) b = Memory.read m b := by
  have hab' : a ≠ b := fun e => hab e.symm
  induction m with
  | nil => simp [Memory.insert, Memory.read, hab']
  | cons c rest ih =>
    obtain ⟨k, w⟩ := c
    by_cases hlt : a < k
    · rw [Memory.insert, if_pos hlt, Memory.read, if_neg hab']
    · rw [Memory.insert, if_neg hlt, Memory.read, Memory.read, ih]

theorem Memory.not_mem_erase (m : List Host.Cell) (a : Nat) (w : Byte) : (a, w) ∉ Memory.erase m a := by
  induction m with
  | nil => simp [Memory.erase]
  | cons c rest ih =>
    obtain ⟨k, u⟩ := c
    by_cases h : k = a
    · simp [Memory.erase, h, ih]
    · simp [Memory.erase, h, ih]
      intro e
      exact absurd e.symm h

/-- A read after a write to the same address gives the value written. -/
theorem Memory.read_write_same (m : List Host.Cell) (a : Nat) (v : Byte) : Memory.read (Memory.write m a v) a = v := by
  unfold Memory.write
  split
  · rename_i h; rw [Memory.read_erase_same, h]
  · exact Memory.read_insert_same _ _ _ (Memory.not_mem_erase m a)

/-- A write leaves every other address alone. -/
theorem Memory.read_write_other (m : List Host.Cell) {a b : Nat} (v : Byte) (h : b ≠ a) :
    Memory.read (Memory.write m a v) b = Memory.read m b := by
  unfold Memory.write
  split
  · exact Memory.read_erase_other m h
  · rw [Memory.read_insert_other _ _ h, Memory.read_erase_other m h]

theorem Memory.wfFrom_erase (m : List Host.Cell) (a : Nat) :
    ∀ low, Memory.wfFrom low m = true → Memory.wfFrom low (Memory.erase m a) = true := by
  have mono : ∀ (m : List Host.Cell) (lo hi : Nat), lo ≤ hi → Memory.wfFrom hi m = true → Memory.wfFrom lo m = true := by
    intro m lo hi h hm
    cases m with
    | nil => rfl
    | cons c rest =>
      obtain ⟨k, w⟩ := c
      simp only [Memory.wfFrom, Bool.and_eq_true, decide_eq_true_eq] at hm ⊢
      exact ⟨⟨⟨le_trans h hm.1.1.1, hm.1.1.2⟩, hm.1.2⟩, hm.2⟩
  induction m with
  | nil => intro low h; exact h
  | cons c rest ih =>
    obtain ⟨k, w⟩ := c
    intro low h
    simp only [Memory.wfFrom, Bool.and_eq_true, decide_eq_true_eq] at h
    by_cases hk : k = a
    · simp only [Memory.erase, hk, if_true]
      exact mono _ _ _ (by omega) (ih _ h.2)
    · simp only [Memory.erase, hk, if_false, Memory.wfFrom, Bool.and_eq_true, decide_eq_true_eq]
      exact ⟨h.1, ih _ h.2⟩

theorem Memory.wfFrom_insert (m : List Host.Cell) {a : Nat} {v : Byte} (ha : a < 65536) (hv : v ≠ Config.unlistedByte)
    (hm : ∀ w, (a, w) ∉ m) :
    ∀ low, low ≤ a → Memory.wfFrom low m = true → Memory.wfFrom low (Memory.insert m a v) = true := by
  induction m with
  | nil => intro low hl _; simp [Memory.insert, Memory.wfFrom, hl, ha, hv]
  | cons c rest ih =>
    obtain ⟨k, w⟩ := c
    intro low hl h
    simp only [Memory.wfFrom, Bool.and_eq_true, decide_eq_true_eq] at h
    have hk : k ≠ a := fun e => hm w (by simp [e])
    by_cases hlt : a < k
    · simp only [Memory.insert, hlt, if_true, Memory.wfFrom, Bool.and_eq_true, decide_eq_true_eq]
      exact ⟨⟨⟨hl, ha⟩, by simpa using hv⟩, ⟨⟨by omega, h.1.1.2⟩, h.1.2⟩, h.2⟩
    · simp only [Memory.insert, hlt, if_false, Memory.wfFrom, Bool.and_eq_true, decide_eq_true_eq]
      exact ⟨h.1, ih (fun w hw => hm w (by simp [hw])) _ (by omega) h.2⟩

/-- A write keeps the canonical form. -/
theorem Memory.wf_write (m : List Host.Cell) (a : Word) (v : Byte) (h : Memory.wf m = true) :
    Memory.wf (Memory.write m a.toNat v) = true := by
  unfold Memory.wf Memory.write at *
  split
  · exact Memory.wfFrom_erase m _ _ h
  · rename_i hv
    exact Memory.wfFrom_insert _ a.isLt hv (Memory.not_mem_erase m _) _ (Nat.zero_le _) (Memory.wfFrom_erase m _ _ h)

/-! ## Behind the Bus (R61, R67) -/

/-- A write call keeps the canonical form, whatever stands at the address. -/
theorem Bus.wf_store (b : Bus) (m : List Host.Cell) (a : Word) (v : Byte) (h : Memory.wf m = true) :
    Memory.wf (b.store m a v) = true := by
  unfold Bus.store
  split
  · exact Memory.wf_write m a v h
  · exact h

variable {s t : State}

/-- What a reader sees after one write call, where no device stands: the byte, if the address is writable; everything else as
before. -/
theorem State.byteAt_of_store {a : Word} {v : Byte} (h : t.mem = s.cfg.bus.store s.mem a v) (hc : t.cfg = s.cfg)
    (x : Word) (hx : kindAt s.cfg.bus.windows x ≠ .device) :
    t.byteAt x = if x = a ∧ s.cfg.bus.writable a = true then v else s.byteAt x := by
  unfold State.byteAt State.byteAfter
  rw [h, hc]
  unfold Bus.store
  cases hw : s.cfg.bus.writable a
  · cases hk : kindAt s.cfg.bus.windows x <;> simp
    exact absurd hk hx
  · by_cases hxa : x = a
    · have hk : kindAt s.cfg.bus.windows a = .ram := by simpa [Bus.writable] using hw
      simp [hxa, hk, Memory.read_write_same]
    · have ho : Memory.read (Memory.write s.mem a.toNat v) x.toNat = Memory.read s.mem x.toNat :=
        Memory.read_write_other _ v fun e => hxa (BitVec.eq_of_toNat_eq e)
      cases hk : kindAt s.cfg.bus.windows x <;> simp [hxa, ho]
      exact absurd hk hx

/-- What a reader sees after one write of the core (R7). -/
theorem State.byteAt_wr (s : State) (a x : Word) (v : Byte) (hx : kindAt s.cfg.bus.windows x ≠ .device) :
    (s.wr a v).byteAt x = if x = a ∧ s.cfg.bus.writable a = true then v else s.byteAt x :=
  State.byteAt_of_store (by rfl) (by rfl) x hx

/-- A host's change of memory is read back, unless a device stands at the address. -/
theorem State.byteAt_poke_same (s : State) (a : Word) (v : Byte) (h : kindAt s.cfg.bus.windows a ≠ .device) :
    (s.poke a v).byteAt a = v := by
  unfold State.byteAt State.byteAfter
  cases hk : kindAt s.cfg.bus.windows a
  · simp [hk, Memory.read_write_same]
  · simp [hk, Memory.read_write_same]
  · exact absurd hk h

theorem State.byteAfter_poke_other (s : State) (n : Nat) {a b : Word} (v : Byte) (h : b ≠ a) :
    (s.poke a v).byteAfter n b = s.byteAfter n b := by
  unfold State.byteAfter
  simp [Memory.read_write_other _ v fun e => h (BitVec.eq_of_toNat_eq e)]

/-! ## What the end of a cycle charges (R66, R67) -/

/-- The calls keep everything but their stamps. -/
theorem Bus.retime_calls (b : Bus) (l : List BusCall) :
    (b.retime l).1.map (fun c => (c.kind, c.address, c.value)) = l.map fun c => (c.kind, c.address, c.value) := by
  induction l with
  | nil => rfl
  | cons c rest ih => simp [Bus.retime, ih]

@[simp] theorem Bus.retime_length (b : Bus) (l : List BusCall) : (b.retime l).1.length = l.length := by
  simpa using congrArg List.length (Bus.retime_calls b l)

/-- A Bus that adds no tacts of its own leaves the calls as they are. -/
theorem Bus.retime_plain {b : Bus} (hm : b.memDelay = .constant 0) (hp : b.portDelay ≠ .platform) (l : List BusCall) :
    b.retime l = (l, 0) := by
  have hz : ∀ c : BusCall, b.callTacts c = 0 := by
    intro c
    unfold Bus.callTacts Bus.memTacts Bus.lateTacts
    rw [hm]
    cases hk : b.portDelay with
    | constant n => cases c.kind <;> rfl
    | platform => exact absurd hk hp
  induction l with
  | nil => rfl
  | cons c rest ih => simp [Bus.retime, ih, hz]

/-- The end of a cycle under a Bus that adds no tacts of its own, as the default Bus is. -/
theorem State.settle_plain (hm : s.cfg.bus.memDelay = .constant 0) (hp : s.cfg.bus.portDelay ≠ .platform) (n : Nat) :
    s.settle n = s := by
  unfold State.settle
  simp [Bus.retime_plain hm hp]

/-- The end of a cycle keeps the calls of the earlier cycles, and removes none of this one. -/
theorem State.settle_log {c old : List BusCall} (h : s.log = c ++ old) :
    (s.settle old.length).log = (s.cfg.bus.retime c).1 ++ old ∧
    (s.settle old.length).tacts = s.tacts + (s.cfg.bus.retime c).2 := by
  unfold State.settle
  simp [h]

/-- A cycle without a bus call adds no tacts on any Bus. -/
theorem State.settle_no_calls (s : State) : s.settle s.log.length = s := by
  unfold State.settle
  simp [Bus.retime]

theorem State.settle_tacts_le (s : State) (n : Nat) : s.tacts ≤ (s.settle n).tacts := Nat.le_add_right _ _

end Sys2Proof.Machine
end

