-- ==== Sys2Proof/Laws/Quiet.lean ====
section
/-! SUPPORT. What every form's operation leaves alone. `Quiet s t`: from `s` to `t` only the general registers, `IX IY SP PC WZ`,
the bytes of memory, the port inputs, `tacts` and the call log may have changed. Each primitive keeps it, so each form but the
few that write another register keeps it; those few are listed by `quietForm`. -/

namespace Sys2Proof.Machine

/-- What every operation leaves: the parameters, the opcode byte, the model's displacement, the canonical form of memory,
the earlier calls, and a tact counter that has not fallen. -/
structure Steady (s t : State) : Prop where
  cfg : t.cfg = s.cfg
  opCode : t.opCode = s.opCode
  disp : t.disp = s.disp
  memWf : Memory.wf s.mem = true → Memory.wf t.mem = true
  calls : ∃ c, t.log = c ++ s.log
  tacts : s.tacts ≤ t.tacts

/-- `Steady`, and no write to a control register, a signal, a latch, an alternate register, `I` or `R`. -/
structure Quiet (s t : State) : Prop extends Steady s t where
  sig : t.sig = s.sig
  iff1 : t.iff1 = s.iff1
  iff2 : t.iff2 = s.iff2
  im : t.im = s.im
  blocked : t.blocked = s.blocked
  inOp : t.inOp = s.inOp
  prefixMode : t.prefixMode = s.prefixMode
  indexMode : t.indexMode = s.indexMode
  iReg : t.iReg = s.iReg
  rReg : t.rReg = s.rReg
  afAlt : t.afAlt = s.afAlt
  bcAlt : t.bcAlt = s.bcAlt
  deAlt : t.deAlt = s.deAlt
  hlAlt : t.hlAlt = s.hlAlt

theorem Steady.refl (s : State) : Steady s s := ⟨rfl, rfl, rfl, id, ⟨[], rfl⟩, Nat.le_refl _⟩

theorem Quiet.refl (s : State) : Quiet s s := ⟨.refl s, rfl, rfl, rfl, rfl, rfl, rfl, rfl, rfl, rfl, rfl, rfl, rfl, rfl, rfl⟩

theorem Steady.trans {s t u : State} (h : Steady s t) (k : Steady t u) : Steady s u :=
  ⟨k.cfg.trans h.cfg, k.opCode.trans h.opCode, k.disp.trans h.disp, fun w => k.memWf (h.memWf w),
    by obtain ⟨c, hc⟩ := h.calls; obtain ⟨d, hd⟩ := k.calls; exact ⟨d ++ c, by rw [hd, hc, List.append_assoc]⟩,
    Nat.le_trans h.tacts k.tacts⟩

theorem Steady.calls_cons {s t : State} (h : Steady s t) (b : BusCall) : ∃ c, b :: t.log = c ++ s.log := by
  obtain ⟨c, hc⟩ := h.calls; exact ⟨b :: c, by rw [hc]; rfl⟩

/-! ## The primitives -/

variable {s t : State}

/-- A write to the registers, the pairs or the port inputs is quiet. -/
theorem Quiet.quietWrite (h : Quiet s t) (u : State) (e : u = { t with
    regs := u.regs, ix := u.ix, iy := u.iy, sp := u.sp, pc := u.pc, wz := u.wz
    portInputs := u.portInputs, portReads := u.portReads }) : Quiet s u := by
  rw [e]
  exact ⟨⟨h.cfg, h.opCode, h.disp, h.memWf, h.calls, h.tacts⟩, h.sig, h.iff1, h.iff2, h.im, h.blocked, h.inOp, h.prefixMode, h.indexMode, h.iReg, h.rReg, h.afAlt, h.bcAlt, h.deAlt, h.hlAlt⟩

theorem Quiet.setPc (h : Quiet s t) (v : Word) : Quiet s (t.setPc v) := h.quietWrite _ rfl
theorem Quiet.setWz (h : Quiet s t) (v : Word) : Quiet s (t.setWz v) := h.quietWrite _ rfl
theorem Quiet.setSp (h : Quiet s t) (v : Word) : Quiet s (t.setSp v) := h.quietWrite _ rfl
theorem Quiet.setReg (h : Quiet s t) (r : Reg8) (v : Byte) : Quiet s (t.setReg r v) := h.quietWrite _ rfl
theorem Quiet.setA (h : Quiet s t) (v : Byte) : Quiet s (t.setA v) := h.quietWrite _ rfl
theorem Quiet.setF (h : Quiet s t) (v : Byte) : Quiet s (t.setF v) := h.quietWrite _ rfl
theorem Quiet.setB (h : Quiet s t) (v : Byte) : Quiet s (t.setB v) := h.quietWrite _ rfl
theorem Quiet.setBc (h : Quiet s t) (v : Word) : Quiet s (t.setBc v) := h.quietWrite _ rfl
theorem Quiet.setDe (h : Quiet s t) (v : Word) : Quiet s (t.setDe v) := h.quietWrite _ rfl
theorem Quiet.setHl (h : Quiet s t) (v : Word) : Quiet s (t.setHl v) := h.quietWrite _ rfl
theorem Quiet.setAf (h : Quiet s t) (v : Word) : Quiet s (t.setAf v) := h.quietWrite _ rfl
theorem Quiet.setPair (h : Quiet s t) (p : Pair) (v : Word) : Quiet s (t.setPair p v) := by cases p <;> exact h.quietWrite _ rfl
theorem Quiet.setQPair (h : Quiet s t) (p : QPair) (v : Word) : Quiet s (t.setQPair p v) := by cases p <;> exact h.quietWrite _ rfl
theorem Quiet.setXy (h : Quiet s t) (x : XY) (v : Word) : Quiet s (t.setXy x v) := by cases x <;> exact h.quietWrite _ rfl
theorem Quiet.setHalf (h : Quiet s t) (x : XY) (k : Half) (v : Byte) : Quiet s (t.setHalf x k v) := by cases x <;> cases k <;> exact h.quietWrite _ rfl
theorem Quiet.alu (h : Quiet s t) (op : AluOp) (v : Byte) : Quiet s (t.alu op v) := h.quietWrite _ rfl
theorem Quiet.incF (h : Quiet s t) (v : Byte) : Quiet s (t.incF v) := h.quietWrite _ rfl
theorem Quiet.decF (h : Quiet s t) (v : Byte) : Quiet s (t.decF v) := h.quietWrite _ rfl
theorem Quiet.rotA (h : Quiet s t) (k : RotOp) : Quiet s (t.rotA k) := h.quietWrite _ rfl
theorem Quiet.tick (h : Quiet s t) (n : Nat) : Quiet s (t.tick n) :=
  ⟨⟨h.cfg, h.opCode, h.disp, h.memWf, h.calls, Nat.le_trans h.tacts (Nat.le_add_right _ _)⟩,
    h.sig, h.iff1, h.iff2, h.im, h.blocked, h.inOp, h.prefixMode, h.indexMode, h.iReg, h.rReg, h.afAlt, h.bcAlt, h.deAlt, h.hlAlt⟩
theorem Quiet.rd (h : Quiet s t) (a : Word) : Quiet s (t.rd a) :=
  ⟨⟨h.cfg, h.opCode, h.disp, h.memWf, h.calls_cons _, Nat.le_trans h.tacts (Nat.le_add_right _ _)⟩,
    h.sig, h.iff1, h.iff2, h.im, h.blocked, h.inOp, h.prefixMode, h.indexMode, h.iReg, h.rReg, h.afAlt, h.bcAlt, h.deAlt, h.hlAlt⟩
theorem Quiet.imm8 (h : Quiet s t)  : Quiet s (t.imm8 ) :=
  ⟨⟨h.cfg, h.opCode, h.disp, h.memWf, h.calls_cons _, Nat.le_trans h.tacts (Nat.le_add_right _ _)⟩,
    h.sig, h.iff1, h.iff2, h.im, h.blocked, h.inOp, h.prefixMode, h.indexMode, h.iReg, h.rReg, h.afAlt, h.bcAlt, h.deAlt, h.hlAlt⟩
theorem Quiet.wr (h : Quiet s t) (a : Word) (v : Byte) : Quiet s (t.wr a v) :=
  ⟨⟨h.cfg, h.opCode, h.disp, fun w => Bus.wf_store _ _ _ _ (h.memWf w), h.calls_cons _, Nat.le_trans h.tacts (Nat.le_add_right _ _)⟩,
    h.sig, h.iff1, h.iff2, h.im, h.blocked, h.inOp, h.prefixMode, h.indexMode, h.iReg, h.rReg, h.afAlt, h.bcAlt, h.deAlt, h.hlAlt⟩
theorem Quiet.note (h : Quiet s t) (k : BusKind) (a : Word) (v : Byte) : Quiet s (t.note k a v) :=
  ⟨⟨h.cfg, h.opCode, h.disp, h.memWf, h.calls_cons _, h.tacts⟩,
    h.sig, h.iff1, h.iff2, h.im, h.blocked, h.inOp, h.prefixMode, h.indexMode, h.iReg, h.rReg, h.afAlt, h.bcAlt, h.deAlt, h.hlAlt⟩
theorem Quiet.portRd (h : Quiet s t) (a : Word) : Quiet s (t.portRd a) :=
  ⟨⟨h.cfg, h.opCode, h.disp, h.memWf, h.calls_cons _, Nat.le_trans h.tacts (Nat.le_add_right _ _)⟩,
    h.sig, h.iff1, h.iff2, h.im, h.blocked, h.inOp, h.prefixMode, h.indexMode, h.iReg, h.rReg, h.afAlt, h.bcAlt, h.deAlt, h.hlAlt⟩
theorem Quiet.portWr (h : Quiet s t) (a : Word) (v : Byte) : Quiet s (t.portWr a v) :=
  ⟨⟨h.cfg, h.opCode, h.disp, h.memWf, h.calls_cons _, Nat.le_trans h.tacts (Nat.le_add_right _ _)⟩,
    h.sig, h.iff1, h.iff2, h.im, h.blocked, h.inOp, h.prefixMode, h.indexMode, h.iReg, h.rReg, h.afAlt, h.bcAlt, h.deAlt, h.hlAlt⟩
theorem Quiet.imm16 (h : Quiet s t) : Quiet s t.imm16 := h.imm8.imm8
theorem Quiet.push16 (h : Quiet s t) (v : Word) : Quiet s (t.push16 v) :=
  (((h.setSp _).wr _ _).setSp _).wr _ _
theorem Quiet.pop16 (h : Quiet s t) : Quiet s t.pop16 := (((h.rd _).setSp _).rd _).setSp _
theorem Quiet.extraReads (h : Quiet s t) (da : Word) (n : Nat) : Quiet s (t.extraReads da n) := by
  induction n generalizing t with
  | zero => exact h
  | succ n ih => exact ih ((h.note _ _ _).tick _)
theorem Quiet.takenDelay (h : Quiet s t) (da : Word) : Quiet s (t.takenDelay da) := by
  unfold State.takenDelay
  split
  · exact h.tick _
  · exact h.extraReads da 5

/-! ## The forms -/

/-- The forms whose operation writes none of the fields that `Quiet` keeps. -/
def quietForm : Form → Bool
  | .exAf => false
  | .exx => false
  | .halt => false
  | .di => false
  | .ei => false
  | .prefixCb => false
  | .prefixDd => false
  | .prefixEd => false
  | .prefixFd => false
  | .retn _ => false
  | .reti => false
  | .im _ _ => false
  | .ldIA => false
  | .ldRA => false
  | _ => true

/-- The forms of the four prefix bytes. -/
def prefixForm : Form → Bool
  | .prefixCb => true
  | .prefixDd => true
  | .prefixEd => true
  | .prefixFd => true
  | _ => false

/-! ## The shared operations below the forms -/

theorem Quiet.loadA (h : Quiet s t) (a : Word) : Quiet s (t.loadA a) := by
  unfold State.loadA
  repeat (first | with_reducible exact h | with_reducible apply Quiet.setPc | with_reducible apply Quiet.setWz | with_reducible apply Quiet.setSp | with_reducible apply Quiet.setReg | with_reducible apply Quiet.setA | with_reducible apply Quiet.setF | with_reducible apply Quiet.setB | with_reducible apply Quiet.setBc | with_reducible apply Quiet.setDe | with_reducible apply Quiet.setHl | with_reducible apply Quiet.setAf | with_reducible apply Quiet.setPair | with_reducible apply Quiet.setQPair | with_reducible apply Quiet.setXy | with_reducible apply Quiet.setHalf | with_reducible apply Quiet.alu | with_reducible apply Quiet.incF | with_reducible apply Quiet.decF | with_reducible apply Quiet.rotA | with_reducible apply Quiet.tick | with_reducible apply Quiet.rd | with_reducible apply Quiet.imm8 | with_reducible apply Quiet.wr | with_reducible apply Quiet.note | with_reducible apply Quiet.portRd | with_reducible apply Quiet.portWr | with_reducible apply Quiet.imm16 | with_reducible apply Quiet.push16 | with_reducible apply Quiet.pop16 | with_reducible apply Quiet.takenDelay)

theorem Quiet.storeA (h : Quiet s t) (a : Word) : Quiet s (t.storeA a) := by
  unfold State.storeA
  repeat (first | with_reducible exact h | with_reducible apply Quiet.setPc | with_reducible apply Quiet.setWz | with_reducible apply Quiet.setSp | with_reducible apply Quiet.setReg | with_reducible apply Quiet.setA | with_reducible apply Quiet.setF | with_reducible apply Quiet.setB | with_reducible apply Quiet.setBc | with_reducible apply Quiet.setDe | with_reducible apply Quiet.setHl | with_reducible apply Quiet.setAf | with_reducible apply Quiet.setPair | with_reducible apply Quiet.setQPair | with_reducible apply Quiet.setXy | with_reducible apply Quiet.setHalf | with_reducible apply Quiet.alu | with_reducible apply Quiet.incF | with_reducible apply Quiet.decF | with_reducible apply Quiet.rotA | with_reducible apply Quiet.tick | with_reducible apply Quiet.rd | with_reducible apply Quiet.imm8 | with_reducible apply Quiet.wr | with_reducible apply Quiet.note | with_reducible apply Quiet.portRd | with_reducible apply Quiet.portWr | with_reducible apply Quiet.imm16 | with_reducible apply Quiet.push16 | with_reducible apply Quiet.pop16 | with_reducible apply Quiet.takenDelay | with_reducible apply Quiet.loadA)

theorem Quiet.readWord (h : Quiet s t) (nn : Word) : Quiet s (t.readWord nn) := by
  unfold State.readWord
  repeat (first | with_reducible exact h | with_reducible apply Quiet.setPc | with_reducible apply Quiet.setWz | with_reducible apply Quiet.setSp | with_reducible apply Quiet.setReg | with_reducible apply Quiet.setA | with_reducible apply Quiet.setF | with_reducible apply Quiet.setB | with_reducible apply Quiet.setBc | with_reducible apply Quiet.setDe | with_reducible apply Quiet.setHl | with_reducible apply Quiet.setAf | with_reducible apply Quiet.setPair | with_reducible apply Quiet.setQPair | with_reducible apply Quiet.setXy | with_reducible apply Quiet.setHalf | with_reducible apply Quiet.alu | with_reducible apply Quiet.incF | with_reducible apply Quiet.decF | with_reducible apply Quiet.rotA | with_reducible apply Quiet.tick | with_reducible apply Quiet.rd | with_reducible apply Quiet.imm8 | with_reducible apply Quiet.wr | with_reducible apply Quiet.note | with_reducible apply Quiet.portRd | with_reducible apply Quiet.portWr | with_reducible apply Quiet.imm16 | with_reducible apply Quiet.push16 | with_reducible apply Quiet.pop16 | with_reducible apply Quiet.takenDelay | with_reducible apply Quiet.loadA | with_reducible apply Quiet.storeA)

theorem Quiet.writeWord (h : Quiet s t) (nn v : Word) : Quiet s (t.writeWord nn v) := by
  unfold State.writeWord
  repeat (first | with_reducible exact h | with_reducible apply Quiet.setPc | with_reducible apply Quiet.setWz | with_reducible apply Quiet.setSp | with_reducible apply Quiet.setReg | with_reducible apply Quiet.setA | with_reducible apply Quiet.setF | with_reducible apply Quiet.setB | with_reducible apply Quiet.setBc | with_reducible apply Quiet.setDe | with_reducible apply Quiet.setHl | with_reducible apply Quiet.setAf | with_reducible apply Quiet.setPair | with_reducible apply Quiet.setQPair | with_reducible apply Quiet.setXy | with_reducible apply Quiet.setHalf | with_reducible apply Quiet.alu | with_reducible apply Quiet.incF | with_reducible apply Quiet.decF | with_reducible apply Quiet.rotA | with_reducible apply Quiet.tick | with_reducible apply Quiet.rd | with_reducible apply Quiet.imm8 | with_reducible apply Quiet.wr | with_reducible apply Quiet.note | with_reducible apply Quiet.portRd | with_reducible apply Quiet.portWr | with_reducible apply Quiet.imm16 | with_reducible apply Quiet.push16 | with_reducible apply Quiet.pop16 | with_reducible apply Quiet.takenDelay | with_reducible apply Quiet.loadA | with_reducible apply Quiet.storeA | with_reducible apply Quiet.readWord)

theorem Quiet.exchangeTop (h : Quiet s t) (v : Word) (m n : Nat) : Quiet s (t.exchangeTop v m n) := by
  unfold State.exchangeTop
  dsimp only
  repeat (first | with_reducible exact h | with_reducible apply Quiet.setPc | with_reducible apply Quiet.setWz | with_reducible apply Quiet.setSp | with_reducible apply Quiet.setReg | with_reducible apply Quiet.setA | with_reducible apply Quiet.setF | with_reducible apply Quiet.setB | with_reducible apply Quiet.setBc | with_reducible apply Quiet.setDe | with_reducible apply Quiet.setHl | with_reducible apply Quiet.setAf | with_reducible apply Quiet.setPair | with_reducible apply Quiet.setQPair | with_reducible apply Quiet.setXy | with_reducible apply Quiet.setHalf | with_reducible apply Quiet.alu | with_reducible apply Quiet.incF | with_reducible apply Quiet.decF | with_reducible apply Quiet.rotA | with_reducible apply Quiet.tick | with_reducible apply Quiet.rd | with_reducible apply Quiet.imm8 | with_reducible apply Quiet.wr | with_reducible apply Quiet.note | with_reducible apply Quiet.portRd | with_reducible apply Quiet.portWr | with_reducible apply Quiet.imm16 | with_reducible apply Quiet.push16 | with_reducible apply Quiet.pop16 | with_reducible apply Quiet.takenDelay | with_reducible apply Quiet.loadA | with_reducible apply Quiet.storeA | with_reducible apply Quiet.readWord | with_reducible apply Quiet.writeWord)

theorem Quiet.incMem (h : Quiet s t) (a : Word) (n : Nat) : Quiet s (t.incMem a n) := by
  unfold State.incMem
  repeat (first | with_reducible exact h | with_reducible apply Quiet.setPc | with_reducible apply Quiet.setWz | with_reducible apply Quiet.setSp | with_reducible apply Quiet.setReg | with_reducible apply Quiet.setA | with_reducible apply Quiet.setF | with_reducible apply Quiet.setB | with_reducible apply Quiet.setBc | with_reducible apply Quiet.setDe | with_reducible apply Quiet.setHl | with_reducible apply Quiet.setAf | with_reducible apply Quiet.setPair | with_reducible apply Quiet.setQPair | with_reducible apply Quiet.setXy | with_reducible apply Quiet.setHalf | with_reducible apply Quiet.alu | with_reducible apply Quiet.incF | with_reducible apply Quiet.decF | with_reducible apply Quiet.rotA | with_reducible apply Quiet.tick | with_reducible apply Quiet.rd | with_reducible apply Quiet.imm8 | with_reducible apply Quiet.wr | with_reducible apply Quiet.note | with_reducible apply Quiet.portRd | with_reducible apply Quiet.portWr | with_reducible apply Quiet.imm16 | with_reducible apply Quiet.push16 | with_reducible apply Quiet.pop16 | with_reducible apply Quiet.takenDelay | with_reducible apply Quiet.loadA | with_reducible apply Quiet.storeA | with_reducible apply Quiet.readWord | with_reducible apply Quiet.writeWord | with_reducible apply Quiet.exchangeTop)

theorem Quiet.decMem (h : Quiet s t) (a : Word) (n : Nat) : Quiet s (t.decMem a n) := by
  unfold State.decMem
  repeat (first | with_reducible exact h | with_reducible apply Quiet.setPc | with_reducible apply Quiet.setWz | with_reducible apply Quiet.setSp | with_reducible apply Quiet.setReg | with_reducible apply Quiet.setA | with_reducible apply Quiet.setF | with_reducible apply Quiet.setB | with_reducible apply Quiet.setBc | with_reducible apply Quiet.setDe | with_reducible apply Quiet.setHl | with_reducible apply Quiet.setAf | with_reducible apply Quiet.setPair | with_reducible apply Quiet.setQPair | with_reducible apply Quiet.setXy | with_reducible apply Quiet.setHalf | with_reducible apply Quiet.alu | with_reducible apply Quiet.incF | with_reducible apply Quiet.decF | with_reducible apply Quiet.rotA | with_reducible apply Quiet.tick | with_reducible apply Quiet.rd | with_reducible apply Quiet.imm8 | with_reducible apply Quiet.wr | with_reducible apply Quiet.note | with_reducible apply Quiet.portRd | with_reducible apply Quiet.portWr | with_reducible apply Quiet.imm16 | with_reducible apply Quiet.push16 | with_reducible apply Quiet.pop16 | with_reducible apply Quiet.takenDelay | with_reducible apply Quiet.loadA | with_reducible apply Quiet.storeA | with_reducible apply Quiet.readWord | with_reducible apply Quiet.writeWord | with_reducible apply Quiet.exchangeTop | with_reducible apply Quiet.incMem)

theorem Quiet.jumpRelative (h : Quiet s t) (da : Word) (e : Byte) : Quiet s (t.jumpRelative da e) := by
  unfold State.jumpRelative
  dsimp only
  repeat (first | with_reducible exact h | with_reducible apply Quiet.setPc | with_reducible apply Quiet.setWz | with_reducible apply Quiet.setSp | with_reducible apply Quiet.setReg | with_reducible apply Quiet.setA | with_reducible apply Quiet.setF | with_reducible apply Quiet.setB | with_reducible apply Quiet.setBc | with_reducible apply Quiet.setDe | with_reducible apply Quiet.setHl | with_reducible apply Quiet.setAf | with_reducible apply Quiet.setPair | with_reducible apply Quiet.setQPair | with_reducible apply Quiet.setXy | with_reducible apply Quiet.setHalf | with_reducible apply Quiet.alu | with_reducible apply Quiet.incF | with_reducible apply Quiet.decF | with_reducible apply Quiet.rotA | with_reducible apply Quiet.tick | with_reducible apply Quiet.rd | with_reducible apply Quiet.imm8 | with_reducible apply Quiet.wr | with_reducible apply Quiet.note | with_reducible apply Quiet.portRd | with_reducible apply Quiet.portWr | with_reducible apply Quiet.imm16 | with_reducible apply Quiet.push16 | with_reducible apply Quiet.pop16 | with_reducible apply Quiet.takenDelay | with_reducible apply Quiet.loadA | with_reducible apply Quiet.storeA | with_reducible apply Quiet.readWord | with_reducible apply Quiet.writeWord | with_reducible apply Quiet.exchangeTop | with_reducible apply Quiet.incMem | with_reducible apply Quiet.decMem)

theorem Quiet.callTo (h : Quiet s t) (a : Word) (n : Nat) : Quiet s (t.callTo a n) := by
  unfold State.callTo
  repeat (first | with_reducible exact h | with_reducible apply Quiet.setPc | with_reducible apply Quiet.setWz | with_reducible apply Quiet.setSp | with_reducible apply Quiet.setReg | with_reducible apply Quiet.setA | with_reducible apply Quiet.setF | with_reducible apply Quiet.setB | with_reducible apply Quiet.setBc | with_reducible apply Quiet.setDe | with_reducible apply Quiet.setHl | with_reducible apply Quiet.setAf | with_reducible apply Quiet.setPair | with_reducible apply Quiet.setQPair | with_reducible apply Quiet.setXy | with_reducible apply Quiet.setHalf | with_reducible apply Quiet.alu | with_reducible apply Quiet.incF | with_reducible apply Quiet.decF | with_reducible apply Quiet.rotA | with_reducible apply Quiet.tick | with_reducible apply Quiet.rd | with_reducible apply Quiet.imm8 | with_reducible apply Quiet.wr | with_reducible apply Quiet.note | with_reducible apply Quiet.portRd | with_reducible apply Quiet.portWr | with_reducible apply Quiet.imm16 | with_reducible apply Quiet.push16 | with_reducible apply Quiet.pop16 | with_reducible apply Quiet.takenDelay | with_reducible apply Quiet.loadA | with_reducible apply Quiet.storeA | with_reducible apply Quiet.readWord | with_reducible apply Quiet.writeWord | with_reducible apply Quiet.exchangeTop | with_reducible apply Quiet.incMem | with_reducible apply Quiet.decMem | with_reducible apply Quiet.jumpRelative)

theorem Quiet.returnTo (h : Quiet s t)  : Quiet s (t.returnTo ) := by
  unfold State.returnTo
  repeat (first | with_reducible exact h | with_reducible apply Quiet.setPc | with_reducible apply Quiet.setWz | with_reducible apply Quiet.setSp | with_reducible apply Quiet.setReg | with_reducible apply Quiet.setA | with_reducible apply Quiet.setF | with_reducible apply Quiet.setB | with_reducible apply Quiet.setBc | with_reducible apply Quiet.setDe | with_reducible apply Quiet.setHl | with_reducible apply Quiet.setAf | with_reducible apply Quiet.setPair | with_reducible apply Quiet.setQPair | with_reducible apply Quiet.setXy | with_reducible apply Quiet.setHalf | with_reducible apply Quiet.alu | with_reducible apply Quiet.incF | with_reducible apply Quiet.decF | with_reducible apply Quiet.rotA | with_reducible apply Quiet.tick | with_reducible apply Quiet.rd | with_reducible apply Quiet.imm8 | with_reducible apply Quiet.wr | with_reducible apply Quiet.note | with_reducible apply Quiet.portRd | with_reducible apply Quiet.portWr | with_reducible apply Quiet.imm16 | with_reducible apply Quiet.push16 | with_reducible apply Quiet.pop16 | with_reducible apply Quiet.takenDelay | with_reducible apply Quiet.loadA | with_reducible apply Quiet.storeA | with_reducible apply Quiet.readWord | with_reducible apply Quiet.writeWord | with_reducible apply Quiet.exchangeTop | with_reducible apply Quiet.incMem | with_reducible apply Quiet.decMem | with_reducible apply Quiet.jumpRelative | with_reducible apply Quiet.callTo)

theorem Quiet.readDisplacement (h : Quiet s t) (x : XY) : Quiet s (t.readDisplacement x) := by
  unfold State.readDisplacement
  repeat (first | with_reducible exact h | with_reducible apply Quiet.setPc | with_reducible apply Quiet.setWz | with_reducible apply Quiet.setSp | with_reducible apply Quiet.setReg | with_reducible apply Quiet.setA | with_reducible apply Quiet.setF | with_reducible apply Quiet.setB | with_reducible apply Quiet.setBc | with_reducible apply Quiet.setDe | with_reducible apply Quiet.setHl | with_reducible apply Quiet.setAf | with_reducible apply Quiet.setPair | with_reducible apply Quiet.setQPair | with_reducible apply Quiet.setXy | with_reducible apply Quiet.setHalf | with_reducible apply Quiet.alu | with_reducible apply Quiet.incF | with_reducible apply Quiet.decF | with_reducible apply Quiet.rotA | with_reducible apply Quiet.tick | with_reducible apply Quiet.rd | with_reducible apply Quiet.imm8 | with_reducible apply Quiet.wr | with_reducible apply Quiet.note | with_reducible apply Quiet.portRd | with_reducible apply Quiet.portWr | with_reducible apply Quiet.imm16 | with_reducible apply Quiet.push16 | with_reducible apply Quiet.pop16 | with_reducible apply Quiet.takenDelay | with_reducible apply Quiet.loadA | with_reducible apply Quiet.storeA | with_reducible apply Quiet.readWord | with_reducible apply Quiet.writeWord | with_reducible apply Quiet.exchangeTop | with_reducible apply Quiet.incMem | with_reducible apply Quiet.decMem | with_reducible apply Quiet.jumpRelative | with_reducible apply Quiet.callTo | with_reducible apply Quiet.returnTo)

theorem Quiet.rdModify (h : Quiet s t) (a : Word) (n : Nat) : Quiet s (t.rdModify a n) := by
  unfold State.rdModify
  repeat (first | with_reducible exact h | with_reducible apply Quiet.setPc | with_reducible apply Quiet.setWz | with_reducible apply Quiet.setSp | with_reducible apply Quiet.setReg | with_reducible apply Quiet.setA | with_reducible apply Quiet.setF | with_reducible apply Quiet.setB | with_reducible apply Quiet.setBc | with_reducible apply Quiet.setDe | with_reducible apply Quiet.setHl | with_reducible apply Quiet.setAf | with_reducible apply Quiet.setPair | with_reducible apply Quiet.setQPair | with_reducible apply Quiet.setXy | with_reducible apply Quiet.setHalf | with_reducible apply Quiet.alu | with_reducible apply Quiet.incF | with_reducible apply Quiet.decF | with_reducible apply Quiet.rotA | with_reducible apply Quiet.tick | with_reducible apply Quiet.rd | with_reducible apply Quiet.imm8 | with_reducible apply Quiet.wr | with_reducible apply Quiet.note | with_reducible apply Quiet.portRd | with_reducible apply Quiet.portWr | with_reducible apply Quiet.imm16 | with_reducible apply Quiet.push16 | with_reducible apply Quiet.pop16 | with_reducible apply Quiet.takenDelay | with_reducible apply Quiet.loadA | with_reducible apply Quiet.storeA | with_reducible apply Quiet.readWord | with_reducible apply Quiet.writeWord | with_reducible apply Quiet.exchangeTop | with_reducible apply Quiet.incMem | with_reducible apply Quiet.decMem | with_reducible apply Quiet.jumpRelative | with_reducible apply Quiet.callTo | with_reducible apply Quiet.returnTo | with_reducible apply Quiet.readDisplacement)

theorem Quiet.rotMem (h : Quiet s t) (k : RotOp) (a : Word) (n : Nat) : Quiet s (t.rotMem k a n) := by
  unfold State.rotMem
  dsimp only
  repeat (first | with_reducible exact h | with_reducible apply Quiet.setPc | with_reducible apply Quiet.setWz | with_reducible apply Quiet.setSp | with_reducible apply Quiet.setReg | with_reducible apply Quiet.setA | with_reducible apply Quiet.setF | with_reducible apply Quiet.setB | with_reducible apply Quiet.setBc | with_reducible apply Quiet.setDe | with_reducible apply Quiet.setHl | with_reducible apply Quiet.setAf | with_reducible apply Quiet.setPair | with_reducible apply Quiet.setQPair | with_reducible apply Quiet.setXy | with_reducible apply Quiet.setHalf | with_reducible apply Quiet.alu | with_reducible apply Quiet.incF | with_reducible apply Quiet.decF | with_reducible apply Quiet.rotA | with_reducible apply Quiet.tick | with_reducible apply Quiet.rd | with_reducible apply Quiet.imm8 | with_reducible apply Quiet.wr | with_reducible apply Quiet.note | with_reducible apply Quiet.portRd | with_reducible apply Quiet.portWr | with_reducible apply Quiet.imm16 | with_reducible apply Quiet.push16 | with_reducible apply Quiet.pop16 | with_reducible apply Quiet.takenDelay | with_reducible apply Quiet.loadA | with_reducible apply Quiet.storeA | with_reducible apply Quiet.readWord | with_reducible apply Quiet.writeWord | with_reducible apply Quiet.exchangeTop | with_reducible apply Quiet.incMem | with_reducible apply Quiet.decMem | with_reducible apply Quiet.jumpRelative | with_reducible apply Quiet.callTo | with_reducible apply Quiet.returnTo | with_reducible apply Quiet.readDisplacement | with_reducible apply Quiet.rdModify)

theorem Quiet.atDisplacement (h : Quiet s t) (x : XY) : Quiet s (t.atDisplacement x) := by
  unfold State.atDisplacement
  repeat (first | with_reducible exact h | with_reducible apply Quiet.setPc | with_reducible apply Quiet.setWz | with_reducible apply Quiet.setSp | with_reducible apply Quiet.setReg | with_reducible apply Quiet.setA | with_reducible apply Quiet.setF | with_reducible apply Quiet.setB | with_reducible apply Quiet.setBc | with_reducible apply Quiet.setDe | with_reducible apply Quiet.setHl | with_reducible apply Quiet.setAf | with_reducible apply Quiet.setPair | with_reducible apply Quiet.setQPair | with_reducible apply Quiet.setXy | with_reducible apply Quiet.setHalf | with_reducible apply Quiet.alu | with_reducible apply Quiet.incF | with_reducible apply Quiet.decF | with_reducible apply Quiet.rotA | with_reducible apply Quiet.tick | with_reducible apply Quiet.rd | with_reducible apply Quiet.imm8 | with_reducible apply Quiet.wr | with_reducible apply Quiet.note | with_reducible apply Quiet.portRd | with_reducible apply Quiet.portWr | with_reducible apply Quiet.imm16 | with_reducible apply Quiet.push16 | with_reducible apply Quiet.pop16 | with_reducible apply Quiet.takenDelay | with_reducible apply Quiet.loadA | with_reducible apply Quiet.storeA | with_reducible apply Quiet.readWord | with_reducible apply Quiet.writeWord | with_reducible apply Quiet.exchangeTop | with_reducible apply Quiet.incMem | with_reducible apply Quiet.decMem | with_reducible apply Quiet.jumpRelative | with_reducible apply Quiet.callTo | with_reducible apply Quiet.returnTo | with_reducible apply Quiet.readDisplacement | with_reducible apply Quiet.rdModify | with_reducible apply Quiet.rotMem)

theorem Quiet.inputC (h : Quiet s t)  : Quiet s (t.inputC ) := by
  unfold State.inputC
  dsimp only
  repeat (first | with_reducible exact h | with_reducible apply Quiet.setPc | with_reducible apply Quiet.setWz | with_reducible apply Quiet.setSp | with_reducible apply Quiet.setReg | with_reducible apply Quiet.setA | with_reducible apply Quiet.setF | with_reducible apply Quiet.setB | with_reducible apply Quiet.setBc | with_reducible apply Quiet.setDe | with_reducible apply Quiet.setHl | with_reducible apply Quiet.setAf | with_reducible apply Quiet.setPair | with_reducible apply Quiet.setQPair | with_reducible apply Quiet.setXy | with_reducible apply Quiet.setHalf | with_reducible apply Quiet.alu | with_reducible apply Quiet.incF | with_reducible apply Quiet.decF | with_reducible apply Quiet.rotA | with_reducible apply Quiet.tick | with_reducible apply Quiet.rd | with_reducible apply Quiet.imm8 | with_reducible apply Quiet.wr | with_reducible apply Quiet.note | with_reducible apply Quiet.portRd | with_reducible apply Quiet.portWr | with_reducible apply Quiet.imm16 | with_reducible apply Quiet.push16 | with_reducible apply Quiet.pop16 | with_reducible apply Quiet.takenDelay | with_reducible apply Quiet.loadA | with_reducible apply Quiet.storeA | with_reducible apply Quiet.readWord | with_reducible apply Quiet.writeWord | with_reducible apply Quiet.exchangeTop | with_reducible apply Quiet.incMem | with_reducible apply Quiet.decMem | with_reducible apply Quiet.jumpRelative | with_reducible apply Quiet.callTo | with_reducible apply Quiet.returnTo | with_reducible apply Quiet.readDisplacement | with_reducible apply Quiet.rdModify | with_reducible apply Quiet.rotMem | with_reducible apply Quiet.atDisplacement)

theorem Quiet.loadIR (h : Quiet s t) (v : Byte) (n : Nat) : Quiet s (t.loadIR v n) := by
  unfold State.loadIR
  repeat (first | with_reducible exact h | with_reducible apply Quiet.setPc | with_reducible apply Quiet.setWz | with_reducible apply Quiet.setSp | with_reducible apply Quiet.setReg | with_reducible apply Quiet.setA | with_reducible apply Quiet.setF | with_reducible apply Quiet.setB | with_reducible apply Quiet.setBc | with_reducible apply Quiet.setDe | with_reducible apply Quiet.setHl | with_reducible apply Quiet.setAf | with_reducible apply Quiet.setPair | with_reducible apply Quiet.setQPair | with_reducible apply Quiet.setXy | with_reducible apply Quiet.setHalf | with_reducible apply Quiet.alu | with_reducible apply Quiet.incF | with_reducible apply Quiet.decF | with_reducible apply Quiet.rotA | with_reducible apply Quiet.tick | with_reducible apply Quiet.rd | with_reducible apply Quiet.imm8 | with_reducible apply Quiet.wr | with_reducible apply Quiet.note | with_reducible apply Quiet.portRd | with_reducible apply Quiet.portWr | with_reducible apply Quiet.imm16 | with_reducible apply Quiet.push16 | with_reducible apply Quiet.pop16 | with_reducible apply Quiet.takenDelay | with_reducible apply Quiet.loadA | with_reducible apply Quiet.storeA | with_reducible apply Quiet.readWord | with_reducible apply Quiet.writeWord | with_reducible apply Quiet.exchangeTop | with_reducible apply Quiet.incMem | with_reducible apply Quiet.decMem | with_reducible apply Quiet.jumpRelative | with_reducible apply Quiet.callTo | with_reducible apply Quiet.returnTo | with_reducible apply Quiet.readDisplacement | with_reducible apply Quiet.rdModify | with_reducible apply Quiet.rotMem | with_reducible apply Quiet.atDisplacement | with_reducible apply Quiet.inputC)

theorem Quiet.nibbleRotate (h : Quiet s t) (w a : Byte) (n : Nat) : Quiet s (t.nibbleRotate w a n) := by
  unfold State.nibbleRotate
  dsimp only
  repeat (first | with_reducible exact h | with_reducible apply Quiet.setPc | with_reducible apply Quiet.setWz | with_reducible apply Quiet.setSp | with_reducible apply Quiet.setReg | with_reducible apply Quiet.setA | with_reducible apply Quiet.setF | with_reducible apply Quiet.setB | with_reducible apply Quiet.setBc | with_reducible apply Quiet.setDe | with_reducible apply Quiet.setHl | with_reducible apply Quiet.setAf | with_reducible apply Quiet.setPair | with_reducible apply Quiet.setQPair | with_reducible apply Quiet.setXy | with_reducible apply Quiet.setHalf | with_reducible apply Quiet.alu | with_reducible apply Quiet.incF | with_reducible apply Quiet.decF | with_reducible apply Quiet.rotA | with_reducible apply Quiet.tick | with_reducible apply Quiet.rd | with_reducible apply Quiet.imm8 | with_reducible apply Quiet.wr | with_reducible apply Quiet.note | with_reducible apply Quiet.portRd | with_reducible apply Quiet.portWr | with_reducible apply Quiet.imm16 | with_reducible apply Quiet.push16 | with_reducible apply Quiet.pop16 | with_reducible apply Quiet.takenDelay | with_reducible apply Quiet.loadA | with_reducible apply Quiet.storeA | with_reducible apply Quiet.readWord | with_reducible apply Quiet.writeWord | with_reducible apply Quiet.exchangeTop | with_reducible apply Quiet.incMem | with_reducible apply Quiet.decMem | with_reducible apply Quiet.jumpRelative | with_reducible apply Quiet.callTo | with_reducible apply Quiet.returnTo | with_reducible apply Quiet.readDisplacement | with_reducible apply Quiet.rdModify | with_reducible apply Quiet.rotMem | with_reducible apply Quiet.atDisplacement | with_reducible apply Quiet.inputC | with_reducible apply Quiet.loadIR)

theorem Quiet.repeatWz (h : Quiet s t) (n : Nat) : Quiet s (t.repeatWz n) := by
  unfold State.repeatWz
  repeat (first | with_reducible exact h | with_reducible apply Quiet.setPc | with_reducible apply Quiet.setWz | with_reducible apply Quiet.setSp | with_reducible apply Quiet.setReg | with_reducible apply Quiet.setA | with_reducible apply Quiet.setF | with_reducible apply Quiet.setB | with_reducible apply Quiet.setBc | with_reducible apply Quiet.setDe | with_reducible apply Quiet.setHl | with_reducible apply Quiet.setAf | with_reducible apply Quiet.setPair | with_reducible apply Quiet.setQPair | with_reducible apply Quiet.setXy | with_reducible apply Quiet.setHalf | with_reducible apply Quiet.alu | with_reducible apply Quiet.incF | with_reducible apply Quiet.decF | with_reducible apply Quiet.rotA | with_reducible apply Quiet.tick | with_reducible apply Quiet.rd | with_reducible apply Quiet.imm8 | with_reducible apply Quiet.wr | with_reducible apply Quiet.note | with_reducible apply Quiet.portRd | with_reducible apply Quiet.portWr | with_reducible apply Quiet.imm16 | with_reducible apply Quiet.push16 | with_reducible apply Quiet.pop16 | with_reducible apply Quiet.takenDelay | with_reducible apply Quiet.loadA | with_reducible apply Quiet.storeA | with_reducible apply Quiet.readWord | with_reducible apply Quiet.writeWord | with_reducible apply Quiet.exchangeTop | with_reducible apply Quiet.incMem | with_reducible apply Quiet.decMem | with_reducible apply Quiet.jumpRelative | with_reducible apply Quiet.callTo | with_reducible apply Quiet.returnTo | with_reducible apply Quiet.readDisplacement | with_reducible apply Quiet.rdModify | with_reducible apply Quiet.rotMem | with_reducible apply Quiet.atDisplacement | with_reducible apply Quiet.inputC | with_reducible apply Quiet.loadIR | with_reducible apply Quiet.nibbleRotate)

theorem Quiet.repeatPc (h : Quiet s t) (n : Nat) : Quiet s (t.repeatPc n) := by
  unfold State.repeatPc
  repeat (first | with_reducible exact h | with_reducible apply Quiet.setPc | with_reducible apply Quiet.setWz | with_reducible apply Quiet.setSp | with_reducible apply Quiet.setReg | with_reducible apply Quiet.setA | with_reducible apply Quiet.setF | with_reducible apply Quiet.setB | with_reducible apply Quiet.setBc | with_reducible apply Quiet.setDe | with_reducible apply Quiet.setHl | with_reducible apply Quiet.setAf | with_reducible apply Quiet.setPair | with_reducible apply Quiet.setQPair | with_reducible apply Quiet.setXy | with_reducible apply Quiet.setHalf | with_reducible apply Quiet.alu | with_reducible apply Quiet.incF | with_reducible apply Quiet.decF | with_reducible apply Quiet.rotA | with_reducible apply Quiet.tick | with_reducible apply Quiet.rd | with_reducible apply Quiet.imm8 | with_reducible apply Quiet.wr | with_reducible apply Quiet.note | with_reducible apply Quiet.portRd | with_reducible apply Quiet.portWr | with_reducible apply Quiet.imm16 | with_reducible apply Quiet.push16 | with_reducible apply Quiet.pop16 | with_reducible apply Quiet.takenDelay | with_reducible apply Quiet.loadA | with_reducible apply Quiet.storeA | with_reducible apply Quiet.readWord | with_reducible apply Quiet.writeWord | with_reducible apply Quiet.exchangeTop | with_reducible apply Quiet.incMem | with_reducible apply Quiet.decMem | with_reducible apply Quiet.jumpRelative | with_reducible apply Quiet.callTo | with_reducible apply Quiet.returnTo | with_reducible apply Quiet.readDisplacement | with_reducible apply Quiet.rdModify | with_reducible apply Quiet.rotMem | with_reducible apply Quiet.atDisplacement | with_reducible apply Quiet.inputC | with_reducible apply Quiet.loadIR | with_reducible apply Quiet.nibbleRotate | with_reducible apply Quiet.repeatWz)

theorem Quiet.blockLoad (h : Quiet s t) (d : Word) : Quiet s (t.blockLoad d) := by
  unfold State.blockLoad
  dsimp only
  repeat (first | with_reducible exact h | with_reducible apply Quiet.setPc | with_reducible apply Quiet.setWz | with_reducible apply Quiet.setSp | with_reducible apply Quiet.setReg | with_reducible apply Quiet.setA | with_reducible apply Quiet.setF | with_reducible apply Quiet.setB | with_reducible apply Quiet.setBc | with_reducible apply Quiet.setDe | with_reducible apply Quiet.setHl | with_reducible apply Quiet.setAf | with_reducible apply Quiet.setPair | with_reducible apply Quiet.setQPair | with_reducible apply Quiet.setXy | with_reducible apply Quiet.setHalf | with_reducible apply Quiet.alu | with_reducible apply Quiet.incF | with_reducible apply Quiet.decF | with_reducible apply Quiet.rotA | with_reducible apply Quiet.tick | with_reducible apply Quiet.rd | with_reducible apply Quiet.imm8 | with_reducible apply Quiet.wr | with_reducible apply Quiet.note | with_reducible apply Quiet.portRd | with_reducible apply Quiet.portWr | with_reducible apply Quiet.imm16 | with_reducible apply Quiet.push16 | with_reducible apply Quiet.pop16 | with_reducible apply Quiet.takenDelay | with_reducible apply Quiet.loadA | with_reducible apply Quiet.storeA | with_reducible apply Quiet.readWord | with_reducible apply Quiet.writeWord | with_reducible apply Quiet.exchangeTop | with_reducible apply Quiet.incMem | with_reducible apply Quiet.decMem | with_reducible apply Quiet.jumpRelative | with_reducible apply Quiet.callTo | with_reducible apply Quiet.returnTo | with_reducible apply Quiet.readDisplacement | with_reducible apply Quiet.rdModify | with_reducible apply Quiet.rotMem | with_reducible apply Quiet.atDisplacement | with_reducible apply Quiet.inputC | with_reducible apply Quiet.loadIR | with_reducible apply Quiet.nibbleRotate | with_reducible apply Quiet.repeatWz | with_reducible apply Quiet.repeatPc)

theorem Quiet.blockLoadRepeat (h : Quiet s t) (d : Word) : Quiet s (t.blockLoadRepeat d) := by
  unfold State.blockLoadRepeat
  split
  all_goals repeat (first | with_reducible exact h | with_reducible apply Quiet.setPc | with_reducible apply Quiet.setWz | with_reducible apply Quiet.setSp | with_reducible apply Quiet.setReg | with_reducible apply Quiet.setA | with_reducible apply Quiet.setF | with_reducible apply Quiet.setB | with_reducible apply Quiet.setBc | with_reducible apply Quiet.setDe | with_reducible apply Quiet.setHl | with_reducible apply Quiet.setAf | with_reducible apply Quiet.setPair | with_reducible apply Quiet.setQPair | with_reducible apply Quiet.setXy | with_reducible apply Quiet.setHalf | with_reducible apply Quiet.alu | with_reducible apply Quiet.incF | with_reducible apply Quiet.decF | with_reducible apply Quiet.rotA | with_reducible apply Quiet.tick | with_reducible apply Quiet.rd | with_reducible apply Quiet.imm8 | with_reducible apply Quiet.wr | with_reducible apply Quiet.note | with_reducible apply Quiet.portRd | with_reducible apply Quiet.portWr | with_reducible apply Quiet.imm16 | with_reducible apply Quiet.push16 | with_reducible apply Quiet.pop16 | with_reducible apply Quiet.takenDelay | with_reducible apply Quiet.loadA | with_reducible apply Quiet.storeA | with_reducible apply Quiet.readWord | with_reducible apply Quiet.writeWord | with_reducible apply Quiet.exchangeTop | with_reducible apply Quiet.incMem | with_reducible apply Quiet.decMem | with_reducible apply Quiet.jumpRelative | with_reducible apply Quiet.callTo | with_reducible apply Quiet.returnTo | with_reducible apply Quiet.readDisplacement | with_reducible apply Quiet.rdModify | with_reducible apply Quiet.rotMem | with_reducible apply Quiet.atDisplacement | with_reducible apply Quiet.inputC | with_reducible apply Quiet.loadIR | with_reducible apply Quiet.nibbleRotate | with_reducible apply Quiet.repeatWz | with_reducible apply Quiet.repeatPc | with_reducible apply Quiet.blockLoad)

theorem Quiet.blockCompare (h : Quiet s t) (d : Word) : Quiet s (t.blockCompare d) := by
  unfold State.blockCompare
  dsimp only
  repeat (first | with_reducible exact h | with_reducible apply Quiet.setPc | with_reducible apply Quiet.setWz | with_reducible apply Quiet.setSp | with_reducible apply Quiet.setReg | with_reducible apply Quiet.setA | with_reducible apply Quiet.setF | with_reducible apply Quiet.setB | with_reducible apply Quiet.setBc | with_reducible apply Quiet.setDe | with_reducible apply Quiet.setHl | with_reducible apply Quiet.setAf | with_reducible apply Quiet.setPair | with_reducible apply Quiet.setQPair | with_reducible apply Quiet.setXy | with_reducible apply Quiet.setHalf | with_reducible apply Quiet.alu | with_reducible apply Quiet.incF | with_reducible apply Quiet.decF | with_reducible apply Quiet.rotA | with_reducible apply Quiet.tick | with_reducible apply Quiet.rd | with_reducible apply Quiet.imm8 | with_reducible apply Quiet.wr | with_reducible apply Quiet.note | with_reducible apply Quiet.portRd | with_reducible apply Quiet.portWr | with_reducible apply Quiet.imm16 | with_reducible apply Quiet.push16 | with_reducible apply Quiet.pop16 | with_reducible apply Quiet.takenDelay | with_reducible apply Quiet.loadA | with_reducible apply Quiet.storeA | with_reducible apply Quiet.readWord | with_reducible apply Quiet.writeWord | with_reducible apply Quiet.exchangeTop | with_reducible apply Quiet.incMem | with_reducible apply Quiet.decMem | with_reducible apply Quiet.jumpRelative | with_reducible apply Quiet.callTo | with_reducible apply Quiet.returnTo | with_reducible apply Quiet.readDisplacement | with_reducible apply Quiet.rdModify | with_reducible apply Quiet.rotMem | with_reducible apply Quiet.atDisplacement | with_reducible apply Quiet.inputC | with_reducible apply Quiet.loadIR | with_reducible apply Quiet.nibbleRotate | with_reducible apply Quiet.repeatWz | with_reducible apply Quiet.repeatPc | with_reducible apply Quiet.blockLoad | with_reducible apply Quiet.blockLoadRepeat)

theorem Quiet.blockCompareRepeat (h : Quiet s t) (d : Word) : Quiet s (t.blockCompareRepeat d) := by
  unfold State.blockCompareRepeat
  split
  all_goals repeat (first | with_reducible exact h | with_reducible apply Quiet.setPc | with_reducible apply Quiet.setWz | with_reducible apply Quiet.setSp | with_reducible apply Quiet.setReg | with_reducible apply Quiet.setA | with_reducible apply Quiet.setF | with_reducible apply Quiet.setB | with_reducible apply Quiet.setBc | with_reducible apply Quiet.setDe | with_reducible apply Quiet.setHl | with_reducible apply Quiet.setAf | with_reducible apply Quiet.setPair | with_reducible apply Quiet.setQPair | with_reducible apply Quiet.setXy | with_reducible apply Quiet.setHalf | with_reducible apply Quiet.alu | with_reducible apply Quiet.incF | with_reducible apply Quiet.decF | with_reducible apply Quiet.rotA | with_reducible apply Quiet.tick | with_reducible apply Quiet.rd | with_reducible apply Quiet.imm8 | with_reducible apply Quiet.wr | with_reducible apply Quiet.note | with_reducible apply Quiet.portRd | with_reducible apply Quiet.portWr | with_reducible apply Quiet.imm16 | with_reducible apply Quiet.push16 | with_reducible apply Quiet.pop16 | with_reducible apply Quiet.takenDelay | with_reducible apply Quiet.loadA | with_reducible apply Quiet.storeA | with_reducible apply Quiet.readWord | with_reducible apply Quiet.writeWord | with_reducible apply Quiet.exchangeTop | with_reducible apply Quiet.incMem | with_reducible apply Quiet.decMem | with_reducible apply Quiet.jumpRelative | with_reducible apply Quiet.callTo | with_reducible apply Quiet.returnTo | with_reducible apply Quiet.readDisplacement | with_reducible apply Quiet.rdModify | with_reducible apply Quiet.rotMem | with_reducible apply Quiet.atDisplacement | with_reducible apply Quiet.inputC | with_reducible apply Quiet.loadIR | with_reducible apply Quiet.nibbleRotate | with_reducible apply Quiet.repeatWz | with_reducible apply Quiet.repeatPc | with_reducible apply Quiet.blockLoad | with_reducible apply Quiet.blockLoadRepeat | with_reducible apply Quiet.blockCompare)

theorem Quiet.blockIn (h : Quiet s t) (d : Word) : Quiet s (t.blockIn d) := by
  unfold State.blockIn
  dsimp only
  repeat (first | with_reducible exact h | with_reducible apply Quiet.setPc | with_reducible apply Quiet.setWz | with_reducible apply Quiet.setSp | with_reducible apply Quiet.setReg | with_reducible apply Quiet.setA | with_reducible apply Quiet.setF | with_reducible apply Quiet.setB | with_reducible apply Quiet.setBc | with_reducible apply Quiet.setDe | with_reducible apply Quiet.setHl | with_reducible apply Quiet.setAf | with_reducible apply Quiet.setPair | with_reducible apply Quiet.setQPair | with_reducible apply Quiet.setXy | with_reducible apply Quiet.setHalf | with_reducible apply Quiet.alu | with_reducible apply Quiet.incF | with_reducible apply Quiet.decF | with_reducible apply Quiet.rotA | with_reducible apply Quiet.tick | with_reducible apply Quiet.rd | with_reducible apply Quiet.imm8 | with_reducible apply Quiet.wr | with_reducible apply Quiet.note | with_reducible apply Quiet.portRd | with_reducible apply Quiet.portWr | with_reducible apply Quiet.imm16 | with_reducible apply Quiet.push16 | with_reducible apply Quiet.pop16 | with_reducible apply Quiet.takenDelay | with_reducible apply Quiet.loadA | with_reducible apply Quiet.storeA | with_reducible apply Quiet.readWord | with_reducible apply Quiet.writeWord | with_reducible apply Quiet.exchangeTop | with_reducible apply Quiet.incMem | with_reducible apply Quiet.decMem | with_reducible apply Quiet.jumpRelative | with_reducible apply Quiet.callTo | with_reducible apply Quiet.returnTo | with_reducible apply Quiet.readDisplacement | with_reducible apply Quiet.rdModify | with_reducible apply Quiet.rotMem | with_reducible apply Quiet.atDisplacement | with_reducible apply Quiet.inputC | with_reducible apply Quiet.loadIR | with_reducible apply Quiet.nibbleRotate | with_reducible apply Quiet.repeatWz | with_reducible apply Quiet.repeatPc | with_reducible apply Quiet.blockLoad | with_reducible apply Quiet.blockLoadRepeat | with_reducible apply Quiet.blockCompare | with_reducible apply Quiet.blockCompareRepeat)

theorem Quiet.blockInRepeat (h : Quiet s t) (d : Word) : Quiet s (t.blockInRepeat d) := by
  unfold State.blockInRepeat
  split
  all_goals repeat (first | with_reducible exact h | with_reducible apply Quiet.setPc | with_reducible apply Quiet.setWz | with_reducible apply Quiet.setSp | with_reducible apply Quiet.setReg | with_reducible apply Quiet.setA | with_reducible apply Quiet.setF | with_reducible apply Quiet.setB | with_reducible apply Quiet.setBc | with_reducible apply Quiet.setDe | with_reducible apply Quiet.setHl | with_reducible apply Quiet.setAf | with_reducible apply Quiet.setPair | with_reducible apply Quiet.setQPair | with_reducible apply Quiet.setXy | with_reducible apply Quiet.setHalf | with_reducible apply Quiet.alu | with_reducible apply Quiet.incF | with_reducible apply Quiet.decF | with_reducible apply Quiet.rotA | with_reducible apply Quiet.tick | with_reducible apply Quiet.rd | with_reducible apply Quiet.imm8 | with_reducible apply Quiet.wr | with_reducible apply Quiet.note | with_reducible apply Quiet.portRd | with_reducible apply Quiet.portWr | with_reducible apply Quiet.imm16 | with_reducible apply Quiet.push16 | with_reducible apply Quiet.pop16 | with_reducible apply Quiet.takenDelay | with_reducible apply Quiet.loadA | with_reducible apply Quiet.storeA | with_reducible apply Quiet.readWord | with_reducible apply Quiet.writeWord | with_reducible apply Quiet.exchangeTop | with_reducible apply Quiet.incMem | with_reducible apply Quiet.decMem | with_reducible apply Quiet.jumpRelative | with_reducible apply Quiet.callTo | with_reducible apply Quiet.returnTo | with_reducible apply Quiet.readDisplacement | with_reducible apply Quiet.rdModify | with_reducible apply Quiet.rotMem | with_reducible apply Quiet.atDisplacement | with_reducible apply Quiet.inputC | with_reducible apply Quiet.loadIR | with_reducible apply Quiet.nibbleRotate | with_reducible apply Quiet.repeatWz | with_reducible apply Quiet.repeatPc | with_reducible apply Quiet.blockLoad | with_reducible apply Quiet.blockLoadRepeat | with_reducible apply Quiet.blockCompare | with_reducible apply Quiet.blockCompareRepeat | with_reducible apply Quiet.blockIn)

theorem Quiet.blockOut (h : Quiet s t) (d : Word) : Quiet s (t.blockOut d) := by
  unfold State.blockOut
  dsimp only
  repeat (first | with_reducible exact h | with_reducible apply Quiet.setPc | with_reducible apply Quiet.setWz | with_reducible apply Quiet.setSp | with_reducible apply Quiet.setReg | with_reducible apply Quiet.setA | with_reducible apply Quiet.setF | with_reducible apply Quiet.setB | with_reducible apply Quiet.setBc | with_reducible apply Quiet.setDe | with_reducible apply Quiet.setHl | with_reducible apply Quiet.setAf | with_reducible apply Quiet.setPair | with_reducible apply Quiet.setQPair | with_reducible apply Quiet.setXy | with_reducible apply Quiet.setHalf | with_reducible apply Quiet.alu | with_reducible apply Quiet.incF | with_reducible apply Quiet.decF | with_reducible apply Quiet.rotA | with_reducible apply Quiet.tick | with_reducible apply Quiet.rd | with_reducible apply Quiet.imm8 | with_reducible apply Quiet.wr | with_reducible apply Quiet.note | with_reducible apply Quiet.portRd | with_reducible apply Quiet.portWr | with_reducible apply Quiet.imm16 | with_reducible apply Quiet.push16 | with_reducible apply Quiet.pop16 | with_reducible apply Quiet.takenDelay | with_reducible apply Quiet.loadA | with_reducible apply Quiet.storeA | with_reducible apply Quiet.readWord | with_reducible apply Quiet.writeWord | with_reducible apply Quiet.exchangeTop | with_reducible apply Quiet.incMem | with_reducible apply Quiet.decMem | with_reducible apply Quiet.jumpRelative | with_reducible apply Quiet.callTo | with_reducible apply Quiet.returnTo | with_reducible apply Quiet.readDisplacement | with_reducible apply Quiet.rdModify | with_reducible apply Quiet.rotMem | with_reducible apply Quiet.atDisplacement | with_reducible apply Quiet.inputC | with_reducible apply Quiet.loadIR | with_reducible apply Quiet.nibbleRotate | with_reducible apply Quiet.repeatWz | with_reducible apply Quiet.repeatPc | with_reducible apply Quiet.blockLoad | with_reducible apply Quiet.blockLoadRepeat | with_reducible apply Quiet.blockCompare | with_reducible apply Quiet.blockCompareRepeat | with_reducible apply Quiet.blockIn | with_reducible apply Quiet.blockInRepeat)

theorem Quiet.blockOutRepeat (h : Quiet s t) (d : Word) : Quiet s (t.blockOutRepeat d) := by
  unfold State.blockOutRepeat
  split
  all_goals repeat (first | with_reducible exact h | with_reducible apply Quiet.setPc | with_reducible apply Quiet.setWz | with_reducible apply Quiet.setSp | with_reducible apply Quiet.setReg | with_reducible apply Quiet.setA | with_reducible apply Quiet.setF | with_reducible apply Quiet.setB | with_reducible apply Quiet.setBc | with_reducible apply Quiet.setDe | with_reducible apply Quiet.setHl | with_reducible apply Quiet.setAf | with_reducible apply Quiet.setPair | with_reducible apply Quiet.setQPair | with_reducible apply Quiet.setXy | with_reducible apply Quiet.setHalf | with_reducible apply Quiet.alu | with_reducible apply Quiet.incF | with_reducible apply Quiet.decF | with_reducible apply Quiet.rotA | with_reducible apply Quiet.tick | with_reducible apply Quiet.rd | with_reducible apply Quiet.imm8 | with_reducible apply Quiet.wr | with_reducible apply Quiet.note | with_reducible apply Quiet.portRd | with_reducible apply Quiet.portWr | with_reducible apply Quiet.imm16 | with_reducible apply Quiet.push16 | with_reducible apply Quiet.pop16 | with_reducible apply Quiet.takenDelay | with_reducible apply Quiet.loadA | with_reducible apply Quiet.storeA | with_reducible apply Quiet.readWord | with_reducible apply Quiet.writeWord | with_reducible apply Quiet.exchangeTop | with_reducible apply Quiet.incMem | with_reducible apply Quiet.decMem | with_reducible apply Quiet.jumpRelative | with_reducible apply Quiet.callTo | with_reducible apply Quiet.returnTo | with_reducible apply Quiet.readDisplacement | with_reducible apply Quiet.rdModify | with_reducible apply Quiet.rotMem | with_reducible apply Quiet.atDisplacement | with_reducible apply Quiet.inputC | with_reducible apply Quiet.loadIR | with_reducible apply Quiet.nibbleRotate | with_reducible apply Quiet.repeatWz | with_reducible apply Quiet.repeatPc | with_reducible apply Quiet.blockLoad | with_reducible apply Quiet.blockLoadRepeat | with_reducible apply Quiet.blockCompare | with_reducible apply Quiet.blockCompareRepeat | with_reducible apply Quiet.blockIn | with_reducible apply Quiet.blockInRepeat | with_reducible apply Quiet.blockOut)

/-! ## The operations of the forms -/

theorem Quiet.rotXyd (x : XY) (k : RotOp) (hq : Quiet s t) : Quiet s (Sys2Proof.Machine.rotXyd x k t) := by
  unfold Sys2Proof.Machine.rotXyd
  repeat (first | with_reducible exact hq | with_reducible apply Quiet.setPc | with_reducible apply Quiet.setWz | with_reducible apply Quiet.setSp | with_reducible apply Quiet.setReg | with_reducible apply Quiet.setA | with_reducible apply Quiet.setF | with_reducible apply Quiet.setB | with_reducible apply Quiet.setBc | with_reducible apply Quiet.setDe | with_reducible apply Quiet.setHl | with_reducible apply Quiet.setAf | with_reducible apply Quiet.setPair | with_reducible apply Quiet.setQPair | with_reducible apply Quiet.setXy | with_reducible apply Quiet.setHalf | with_reducible apply Quiet.alu | with_reducible apply Quiet.incF | with_reducible apply Quiet.decF | with_reducible apply Quiet.rotA | with_reducible apply Quiet.tick | with_reducible apply Quiet.rd | with_reducible apply Quiet.imm8 | with_reducible apply Quiet.wr | with_reducible apply Quiet.note | with_reducible apply Quiet.portRd | with_reducible apply Quiet.portWr | with_reducible apply Quiet.imm16 | with_reducible apply Quiet.push16 | with_reducible apply Quiet.pop16 | with_reducible apply Quiet.takenDelay | with_reducible apply Quiet.loadA | with_reducible apply Quiet.storeA | with_reducible apply Quiet.readWord | with_reducible apply Quiet.writeWord | with_reducible apply Quiet.exchangeTop | with_reducible apply Quiet.incMem | with_reducible apply Quiet.decMem | with_reducible apply Quiet.jumpRelative | with_reducible apply Quiet.callTo | with_reducible apply Quiet.returnTo | with_reducible apply Quiet.readDisplacement | with_reducible apply Quiet.rdModify | with_reducible apply Quiet.rotMem | with_reducible apply Quiet.atDisplacement | with_reducible apply Quiet.inputC | with_reducible apply Quiet.loadIR | with_reducible apply Quiet.nibbleRotate | with_reducible apply Quiet.repeatWz | with_reducible apply Quiet.repeatPc | with_reducible apply Quiet.blockLoad | with_reducible apply Quiet.blockLoadRepeat | with_reducible apply Quiet.blockCompare | with_reducible apply Quiet.blockCompareRepeat | with_reducible apply Quiet.blockIn | with_reducible apply Quiet.blockInRepeat | with_reducible apply Quiet.blockOut | with_reducible apply Quiet.blockOutRepeat)

theorem Quiet.resXyd (x : XY) (b : BitNo) (hq : Quiet s t) : Quiet s (Sys2Proof.Machine.resXyd x b t) := by
  unfold Sys2Proof.Machine.resXyd
  dsimp only
  repeat (first | with_reducible exact hq | with_reducible apply Quiet.setPc | with_reducible apply Quiet.setWz | with_reducible apply Quiet.setSp | with_reducible apply Quiet.setReg | with_reducible apply Quiet.setA | with_reducible apply Quiet.setF | with_reducible apply Quiet.setB | with_reducible apply Quiet.setBc | with_reducible apply Quiet.setDe | with_reducible apply Quiet.setHl | with_reducible apply Quiet.setAf | with_reducible apply Quiet.setPair | with_reducible apply Quiet.setQPair | with_reducible apply Quiet.setXy | with_reducible apply Quiet.setHalf | with_reducible apply Quiet.alu | with_reducible apply Quiet.incF | with_reducible apply Quiet.decF | with_reducible apply Quiet.rotA | with_reducible apply Quiet.tick | with_reducible apply Quiet.rd | with_reducible apply Quiet.imm8 | with_reducible apply Quiet.wr | with_reducible apply Quiet.note | with_reducible apply Quiet.portRd | with_reducible apply Quiet.portWr | with_reducible apply Quiet.imm16 | with_reducible apply Quiet.push16 | with_reducible apply Quiet.pop16 | with_reducible apply Quiet.takenDelay | with_reducible apply Quiet.loadA | with_reducible apply Quiet.storeA | with_reducible apply Quiet.readWord | with_reducible apply Quiet.writeWord | with_reducible apply Quiet.exchangeTop | with_reducible apply Quiet.incMem | with_reducible apply Quiet.decMem | with_reducible apply Quiet.jumpRelative | with_reducible apply Quiet.callTo | with_reducible apply Quiet.returnTo | with_reducible apply Quiet.readDisplacement | with_reducible apply Quiet.rdModify | with_reducible apply Quiet.rotMem | with_reducible apply Quiet.atDisplacement | with_reducible apply Quiet.inputC | with_reducible apply Quiet.loadIR | with_reducible apply Quiet.nibbleRotate | with_reducible apply Quiet.repeatWz | with_reducible apply Quiet.repeatPc | with_reducible apply Quiet.blockLoad | with_reducible apply Quiet.blockLoadRepeat | with_reducible apply Quiet.blockCompare | with_reducible apply Quiet.blockCompareRepeat | with_reducible apply Quiet.blockIn | with_reducible apply Quiet.blockInRepeat | with_reducible apply Quiet.blockOut | with_reducible apply Quiet.blockOutRepeat | with_reducible apply Quiet.rotXyd)

theorem Quiet.setXyd (x : XY) (b : BitNo) (hq : Quiet s t) : Quiet s (Sys2Proof.Machine.setXyd x b t) := by
  unfold Sys2Proof.Machine.setXyd
  dsimp only
  repeat (first | with_reducible exact hq | with_reducible apply Quiet.setPc | with_reducible apply Quiet.setWz | with_reducible apply Quiet.setSp | with_reducible apply Quiet.setReg | with_reducible apply Quiet.setA | with_reducible apply Quiet.setF | with_reducible apply Quiet.setB | with_reducible apply Quiet.setBc | with_reducible apply Quiet.setDe | with_reducible apply Quiet.setHl | with_reducible apply Quiet.setAf | with_reducible apply Quiet.setPair | with_reducible apply Quiet.setQPair | with_reducible apply Quiet.setXy | with_reducible apply Quiet.setHalf | with_reducible apply Quiet.alu | with_reducible apply Quiet.incF | with_reducible apply Quiet.decF | with_reducible apply Quiet.rotA | with_reducible apply Quiet.tick | with_reducible apply Quiet.rd | with_reducible apply Quiet.imm8 | with_reducible apply Quiet.wr | with_reducible apply Quiet.note | with_reducible apply Quiet.portRd | with_reducible apply Quiet.portWr | with_reducible apply Quiet.imm16 | with_reducible apply Quiet.push16 | with_reducible apply Quiet.pop16 | with_reducible apply Quiet.takenDelay | with_reducible apply Quiet.loadA | with_reducible apply Quiet.storeA | with_reducible apply Quiet.readWord | with_reducible apply Quiet.writeWord | with_reducible apply Quiet.exchangeTop | with_reducible apply Quiet.incMem | with_reducible apply Quiet.decMem | with_reducible apply Quiet.jumpRelative | with_reducible apply Quiet.callTo | with_reducible apply Quiet.returnTo | with_reducible apply Quiet.readDisplacement | with_reducible apply Quiet.rdModify | with_reducible apply Quiet.rotMem | with_reducible apply Quiet.atDisplacement | with_reducible apply Quiet.inputC | with_reducible apply Quiet.loadIR | with_reducible apply Quiet.nibbleRotate | with_reducible apply Quiet.repeatWz | with_reducible apply Quiet.repeatPc | with_reducible apply Quiet.blockLoad | with_reducible apply Quiet.blockLoadRepeat | with_reducible apply Quiet.blockCompare | with_reducible apply Quiet.blockCompareRepeat | with_reducible apply Quiet.blockIn | with_reducible apply Quiet.blockInRepeat | with_reducible apply Quiet.blockOut | with_reducible apply Quiet.blockOutRepeat | with_reducible apply Quiet.rotXyd | with_reducible apply Quiet.resXyd)

theorem Quiet.bitXyd (x : XY) (b : BitNo) (hq : Quiet s t) : Quiet s (Sys2Proof.Machine.bitXyd x b t) := by
  unfold Sys2Proof.Machine.bitXyd
  dsimp only
  repeat (first | with_reducible exact hq | with_reducible apply Quiet.setPc | with_reducible apply Quiet.setWz | with_reducible apply Quiet.setSp | with_reducible apply Quiet.setReg | with_reducible apply Quiet.setA | with_reducible apply Quiet.setF | with_reducible apply Quiet.setB | with_reducible apply Quiet.setBc | with_reducible apply Quiet.setDe | with_reducible apply Quiet.setHl | with_reducible apply Quiet.setAf | with_reducible apply Quiet.setPair | with_reducible apply Quiet.setQPair | with_reducible apply Quiet.setXy | with_reducible apply Quiet.setHalf | with_reducible apply Quiet.alu | with_reducible apply Quiet.incF | with_reducible apply Quiet.decF | with_reducible apply Quiet.rotA | with_reducible apply Quiet.tick | with_reducible apply Quiet.rd | with_reducible apply Quiet.imm8 | with_reducible apply Quiet.wr | with_reducible apply Quiet.note | with_reducible apply Quiet.portRd | with_reducible apply Quiet.portWr | with_reducible apply Quiet.imm16 | with_reducible apply Quiet.push16 | with_reducible apply Quiet.pop16 | with_reducible apply Quiet.takenDelay | with_reducible apply Quiet.loadA | with_reducible apply Quiet.storeA | with_reducible apply Quiet.readWord | with_reducible apply Quiet.writeWord | with_reducible apply Quiet.exchangeTop | with_reducible apply Quiet.incMem | with_reducible apply Quiet.decMem | with_reducible apply Quiet.jumpRelative | with_reducible apply Quiet.callTo | with_reducible apply Quiet.returnTo | with_reducible apply Quiet.readDisplacement | with_reducible apply Quiet.rdModify | with_reducible apply Quiet.rotMem | with_reducible apply Quiet.atDisplacement | with_reducible apply Quiet.inputC | with_reducible apply Quiet.loadIR | with_reducible apply Quiet.nibbleRotate | with_reducible apply Quiet.repeatWz | with_reducible apply Quiet.repeatPc | with_reducible apply Quiet.blockLoad | with_reducible apply Quiet.blockLoadRepeat | with_reducible apply Quiet.blockCompare | with_reducible apply Quiet.blockCompareRepeat | with_reducible apply Quiet.blockIn | with_reducible apply Quiet.blockInRepeat | with_reducible apply Quiet.blockOut | with_reducible apply Quiet.blockOutRepeat | with_reducible apply Quiet.rotXyd | with_reducible apply Quiet.resXyd | with_reducible apply Quiet.setXyd)

theorem Quiet.ldRegReg (r : Reg8) (q : Reg8) (hq : Quiet s t) : Quiet s (Sys2Proof.Machine.ldRegReg r q t) := by
  unfold Sys2Proof.Machine.ldRegReg
  repeat (first | with_reducible exact hq | with_reducible apply Quiet.setPc | with_reducible apply Quiet.setWz | with_reducible apply Quiet.setSp | with_reducible apply Quiet.setReg | with_reducible apply Quiet.setA | with_reducible apply Quiet.setF | with_reducible apply Quiet.setB | with_reducible apply Quiet.setBc | with_reducible apply Quiet.setDe | with_reducible apply Quiet.setHl | with_reducible apply Quiet.setAf | with_reducible apply Quiet.setPair | with_reducible apply Quiet.setQPair | with_reducible apply Quiet.setXy | with_reducible apply Quiet.setHalf | with_reducible apply Quiet.alu | with_reducible apply Quiet.incF | with_reducible apply Quiet.decF | with_reducible apply Quiet.rotA | with_reducible apply Quiet.tick | with_reducible apply Quiet.rd | with_reducible apply Quiet.imm8 | with_reducible apply Quiet.wr | with_reducible apply Quiet.note | with_reducible apply Quiet.portRd | with_reducible apply Quiet.portWr | with_reducible apply Quiet.imm16 | with_reducible apply Quiet.push16 | with_reducible apply Quiet.pop16 | with_reducible apply Quiet.takenDelay | with_reducible apply Quiet.loadA | with_reducible apply Quiet.storeA | with_reducible apply Quiet.readWord | with_reducible apply Quiet.writeWord | with_reducible apply Quiet.exchangeTop | with_reducible apply Quiet.incMem | with_reducible apply Quiet.decMem | with_reducible apply Quiet.jumpRelative | with_reducible apply Quiet.callTo | with_reducible apply Quiet.returnTo | with_reducible apply Quiet.readDisplacement | with_reducible apply Quiet.rdModify | with_reducible apply Quiet.rotMem | with_reducible apply Quiet.atDisplacement | with_reducible apply Quiet.inputC | with_reducible apply Quiet.loadIR | with_reducible apply Quiet.nibbleRotate | with_reducible apply Quiet.repeatWz | with_reducible apply Quiet.repeatPc | with_reducible apply Quiet.blockLoad | with_reducible apply Quiet.blockLoadRepeat | with_reducible apply Quiet.blockCompare | with_reducible apply Quiet.blockCompareRepeat | with_reducible apply Quiet.blockIn | with_reducible apply Quiet.blockInRepeat | with_reducible apply Quiet.blockOut | with_reducible apply Quiet.blockOutRepeat | with_reducible apply Quiet.rotXyd | with_reducible apply Quiet.resXyd | with_reducible apply Quiet.setXyd | with_reducible apply Quiet.bitXyd)

theorem Quiet.ldRegImm (r : Reg8) (hq : Quiet s t) : Quiet s (Sys2Proof.Machine.ldRegImm r t) := by
  unfold Sys2Proof.Machine.ldRegImm
  repeat (first | with_reducible exact hq | with_reducible apply Quiet.setPc | with_reducible apply Quiet.setWz | with_reducible apply Quiet.setSp | with_reducible apply Quiet.setReg | with_reducible apply Quiet.setA | with_reducible apply Quiet.setF | with_reducible apply Quiet.setB | with_reducible apply Quiet.setBc | with_reducible apply Quiet.setDe | with_reducible apply Quiet.setHl | with_reducible apply Quiet.setAf | with_reducible apply Quiet.setPair | with_reducible apply Quiet.setQPair | with_reducible apply Quiet.setXy | with_reducible apply Quiet.setHalf | with_reducible apply Quiet.alu | with_reducible apply Quiet.incF | with_reducible apply Quiet.decF | with_reducible apply Quiet.rotA | with_reducible apply Quiet.tick | with_reducible apply Quiet.rd | with_reducible apply Quiet.imm8 | with_reducible apply Quiet.wr | with_reducible apply Quiet.note | with_reducible apply Quiet.portRd | with_reducible apply Quiet.portWr | with_reducible apply Quiet.imm16 | with_reducible apply Quiet.push16 | with_reducible apply Quiet.pop16 | with_reducible apply Quiet.takenDelay | with_reducible apply Quiet.loadA | with_reducible apply Quiet.storeA | with_reducible apply Quiet.readWord | with_reducible apply Quiet.writeWord | with_reducible apply Quiet.exchangeTop | with_reducible apply Quiet.incMem | with_reducible apply Quiet.decMem | with_reducible apply Quiet.jumpRelative | with_reducible apply Quiet.callTo | with_reducible apply Quiet.returnTo | with_reducible apply Quiet.readDisplacement | with_reducible apply Quiet.rdModify | with_reducible apply Quiet.rotMem | with_reducible apply Quiet.atDisplacement | with_reducible apply Quiet.inputC | with_reducible apply Quiet.loadIR | with_reducible apply Quiet.nibbleRotate | with_reducible apply Quiet.repeatWz | with_reducible apply Quiet.repeatPc | with_reducible apply Quiet.blockLoad | with_reducible apply Quiet.blockLoadRepeat | with_reducible apply Quiet.blockCompare | with_reducible apply Quiet.blockCompareRepeat | with_reducible apply Quiet.blockIn | with_reducible apply Quiet.blockInRepeat | with_reducible apply Quiet.blockOut | with_reducible apply Quiet.blockOutRepeat | with_reducible apply Quiet.rotXyd | with_reducible apply Quiet.resXyd | with_reducible apply Quiet.setXyd | with_reducible apply Quiet.bitXyd)

theorem Quiet.ldRegAtHl (r : Reg8) (hq : Quiet s t) : Quiet s (Sys2Proof.Machine.ldRegAtHl r t) := by
  unfold Sys2Proof.Machine.ldRegAtHl
  repeat (first | with_reducible exact hq | with_reducible apply Quiet.setPc | with_reducible apply Quiet.setWz | with_reducible apply Quiet.setSp | with_reducible apply Quiet.setReg | with_reducible apply Quiet.setA | with_reducible apply Quiet.setF | with_reducible apply Quiet.setB | with_reducible apply Quiet.setBc | with_reducible apply Quiet.setDe | with_reducible apply Quiet.setHl | with_reducible apply Quiet.setAf | with_reducible apply Quiet.setPair | with_reducible apply Quiet.setQPair | with_reducible apply Quiet.setXy | with_reducible apply Quiet.setHalf | with_reducible apply Quiet.alu | with_reducible apply Quiet.incF | with_reducible apply Quiet.decF | with_reducible apply Quiet.rotA | with_reducible apply Quiet.tick | with_reducible apply Quiet.rd | with_reducible apply Quiet.imm8 | with_reducible apply Quiet.wr | with_reducible apply Quiet.note | with_reducible apply Quiet.portRd | with_reducible apply Quiet.portWr | with_reducible apply Quiet.imm16 | with_reducible apply Quiet.push16 | with_reducible apply Quiet.pop16 | with_reducible apply Quiet.takenDelay | with_reducible apply Quiet.loadA | with_reducible apply Quiet.storeA | with_reducible apply Quiet.readWord | with_reducible apply Quiet.writeWord | with_reducible apply Quiet.exchangeTop | with_reducible apply Quiet.incMem | with_reducible apply Quiet.decMem | with_reducible apply Quiet.jumpRelative | with_reducible apply Quiet.callTo | with_reducible apply Quiet.returnTo | with_reducible apply Quiet.readDisplacement | with_reducible apply Quiet.rdModify | with_reducible apply Quiet.rotMem | with_reducible apply Quiet.atDisplacement | with_reducible apply Quiet.inputC | with_reducible apply Quiet.loadIR | with_reducible apply Quiet.nibbleRotate | with_reducible apply Quiet.repeatWz | with_reducible apply Quiet.repeatPc | with_reducible apply Quiet.blockLoad | with_reducible apply Quiet.blockLoadRepeat | with_reducible apply Quiet.blockCompare | with_reducible apply Quiet.blockCompareRepeat | with_reducible apply Quiet.blockIn | with_reducible apply Quiet.blockInRepeat | with_reducible apply Quiet.blockOut | with_reducible apply Quiet.blockOutRepeat | with_reducible apply Quiet.rotXyd | with_reducible apply Quiet.resXyd | with_reducible apply Quiet.setXyd | with_reducible apply Quiet.bitXyd)

theorem Quiet.ldAtHlReg (r : Reg8) (hq : Quiet s t) : Quiet s (Sys2Proof.Machine.ldAtHlReg r t) := by
  unfold Sys2Proof.Machine.ldAtHlReg
  repeat (first | with_reducible exact hq | with_reducible apply Quiet.setPc | with_reducible apply Quiet.setWz | with_reducible apply Quiet.setSp | with_reducible apply Quiet.setReg | with_reducible apply Quiet.setA | with_reducible apply Quiet.setF | with_reducible apply Quiet.setB | with_reducible apply Quiet.setBc | with_reducible apply Quiet.setDe | with_reducible apply Quiet.setHl | with_reducible apply Quiet.setAf | with_reducible apply Quiet.setPair | with_reducible apply Quiet.setQPair | with_reducible apply Quiet.setXy | with_reducible apply Quiet.setHalf | with_reducible apply Quiet.alu | with_reducible apply Quiet.incF | with_reducible apply Quiet.decF | with_reducible apply Quiet.rotA | with_reducible apply Quiet.tick | with_reducible apply Quiet.rd | with_reducible apply Quiet.imm8 | with_reducible apply Quiet.wr | with_reducible apply Quiet.note | with_reducible apply Quiet.portRd | with_reducible apply Quiet.portWr | with_reducible apply Quiet.imm16 | with_reducible apply Quiet.push16 | with_reducible apply Quiet.pop16 | with_reducible apply Quiet.takenDelay | with_reducible apply Quiet.loadA | with_reducible apply Quiet.storeA | with_reducible apply Quiet.readWord | with_reducible apply Quiet.writeWord | with_reducible apply Quiet.exchangeTop | with_reducible apply Quiet.incMem | with_reducible apply Quiet.decMem | with_reducible apply Quiet.jumpRelative | with_reducible apply Quiet.callTo | with_reducible apply Quiet.returnTo | with_reducible apply Quiet.readDisplacement | with_reducible apply Quiet.rdModify | with_reducible apply Quiet.rotMem | with_reducible apply Quiet.atDisplacement | with_reducible apply Quiet.inputC | with_reducible apply Quiet.loadIR | with_reducible apply Quiet.nibbleRotate | with_reducible apply Quiet.repeatWz | with_reducible apply Quiet.repeatPc | with_reducible apply Quiet.blockLoad | with_reducible apply Quiet.blockLoadRepeat | with_reducible apply Quiet.blockCompare | with_reducible apply Quiet.blockCompareRepeat | with_reducible apply Quiet.blockIn | with_reducible apply Quiet.blockInRepeat | with_reducible apply Quiet.blockOut | with_reducible apply Quiet.blockOutRepeat | with_reducible apply Quiet.rotXyd | with_reducible apply Quiet.resXyd | with_reducible apply Quiet.setXyd | with_reducible apply Quiet.bitXyd)

theorem Quiet.ldAtHlImm (hq : Quiet s t) : Quiet s (Sys2Proof.Machine.ldAtHlImm t) := by
  unfold Sys2Proof.Machine.ldAtHlImm
  repeat (first | with_reducible exact hq | with_reducible apply Quiet.setPc | with_reducible apply Quiet.setWz | with_reducible apply Quiet.setSp | with_reducible apply Quiet.setReg | with_reducible apply Quiet.setA | with_reducible apply Quiet.setF | with_reducible apply Quiet.setB | with_reducible apply Quiet.setBc | with_reducible apply Quiet.setDe | with_reducible apply Quiet.setHl | with_reducible apply Quiet.setAf | with_reducible apply Quiet.setPair | with_reducible apply Quiet.setQPair | with_reducible apply Quiet.setXy | with_reducible apply Quiet.setHalf | with_reducible apply Quiet.alu | with_reducible apply Quiet.incF | with_reducible apply Quiet.decF | with_reducible apply Quiet.rotA | with_reducible apply Quiet.tick | with_reducible apply Quiet.rd | with_reducible apply Quiet.imm8 | with_reducible apply Quiet.wr | with_reducible apply Quiet.note | with_reducible apply Quiet.portRd | with_reducible apply Quiet.portWr | with_reducible apply Quiet.imm16 | with_reducible apply Quiet.push16 | with_reducible apply Quiet.pop16 | with_reducible apply Quiet.takenDelay | with_reducible apply Quiet.loadA | with_reducible apply Quiet.storeA | with_reducible apply Quiet.readWord | with_reducible apply Quiet.writeWord | with_reducible apply Quiet.exchangeTop | with_reducible apply Quiet.incMem | with_reducible apply Quiet.decMem | with_reducible apply Quiet.jumpRelative | with_reducible apply Quiet.callTo | with_reducible apply Quiet.returnTo | with_reducible apply Quiet.readDisplacement | with_reducible apply Quiet.rdModify | with_reducible apply Quiet.rotMem | with_reducible apply Quiet.atDisplacement | with_reducible apply Quiet.inputC | with_reducible apply Quiet.loadIR | with_reducible apply Quiet.nibbleRotate | with_reducible apply Quiet.repeatWz | with_reducible apply Quiet.repeatPc | with_reducible apply Quiet.blockLoad | with_reducible apply Quiet.blockLoadRepeat | with_reducible apply Quiet.blockCompare | with_reducible apply Quiet.blockCompareRepeat | with_reducible apply Quiet.blockIn | with_reducible apply Quiet.blockInRepeat | with_reducible apply Quiet.blockOut | with_reducible apply Quiet.blockOutRepeat | with_reducible apply Quiet.rotXyd | with_reducible apply Quiet.resXyd | with_reducible apply Quiet.setXyd | with_reducible apply Quiet.bitXyd)

theorem Quiet.ldAAtBc (hq : Quiet s t) : Quiet s (Sys2Proof.Machine.ldAAtBc t) := by
  unfold Sys2Proof.Machine.ldAAtBc
  repeat (first | with_reducible exact hq | with_reducible apply Quiet.setPc | with_reducible apply Quiet.setWz | with_reducible apply Quiet.setSp | with_reducible apply Quiet.setReg | with_reducible apply Quiet.setA | with_reducible apply Quiet.setF | with_reducible apply Quiet.setB | with_reducible apply Quiet.setBc | with_reducible apply Quiet.setDe | with_reducible apply Quiet.setHl | with_reducible apply Quiet.setAf | with_reducible apply Quiet.setPair | with_reducible apply Quiet.setQPair | with_reducible apply Quiet.setXy | with_reducible apply Quiet.setHalf | with_reducible apply Quiet.alu | with_reducible apply Quiet.incF | with_reducible apply Quiet.decF | with_reducible apply Quiet.rotA | with_reducible apply Quiet.tick | with_reducible apply Quiet.rd | with_reducible apply Quiet.imm8 | with_reducible apply Quiet.wr | with_reducible apply Quiet.note | with_reducible apply Quiet.portRd | with_reducible apply Quiet.portWr | with_reducible apply Quiet.imm16 | with_reducible apply Quiet.push16 | with_reducible apply Quiet.pop16 | with_reducible apply Quiet.takenDelay | with_reducible apply Quiet.loadA | with_reducible apply Quiet.storeA | with_reducible apply Quiet.readWord | with_reducible apply Quiet.writeWord | with_reducible apply Quiet.exchangeTop | with_reducible apply Quiet.incMem | with_reducible apply Quiet.decMem | with_reducible apply Quiet.jumpRelative | with_reducible apply Quiet.callTo | with_reducible apply Quiet.returnTo | with_reducible apply Quiet.readDisplacement | with_reducible apply Quiet.rdModify | with_reducible apply Quiet.rotMem | with_reducible apply Quiet.atDisplacement | with_reducible apply Quiet.inputC | with_reducible apply Quiet.loadIR | with_reducible apply Quiet.nibbleRotate | with_reducible apply Quiet.repeatWz | with_reducible apply Quiet.repeatPc | with_reducible apply Quiet.blockLoad | with_reducible apply Quiet.blockLoadRepeat | with_reducible apply Quiet.blockCompare | with_reducible apply Quiet.blockCompareRepeat | with_reducible apply Quiet.blockIn | with_reducible apply Quiet.blockInRepeat | with_reducible apply Quiet.blockOut | with_reducible apply Quiet.blockOutRepeat | with_reducible apply Quiet.rotXyd | with_reducible apply Quiet.resXyd | with_reducible apply Quiet.setXyd | with_reducible apply Quiet.bitXyd)

theorem Quiet.ldAAtDe (hq : Quiet s t) : Quiet s (Sys2Proof.Machine.ldAAtDe t) := by
  unfold Sys2Proof.Machine.ldAAtDe
  repeat (first | with_reducible exact hq | with_reducible apply Quiet.setPc | with_reducible apply Quiet.setWz | with_reducible apply Quiet.setSp | with_reducible apply Quiet.setReg | with_reducible apply Quiet.setA | with_reducible apply Quiet.setF | with_reducible apply Quiet.setB | with_reducible apply Quiet.setBc | with_reducible apply Quiet.setDe | with_reducible apply Quiet.setHl | with_reducible apply Quiet.setAf | with_reducible apply Quiet.setPair | with_reducible apply Quiet.setQPair | with_reducible apply Quiet.setXy | with_reducible apply Quiet.setHalf | with_reducible apply Quiet.alu | with_reducible apply Quiet.incF | with_reducible apply Quiet.decF | with_reducible apply Quiet.rotA | with_reducible apply Quiet.tick | with_reducible apply Quiet.rd | with_reducible apply Quiet.imm8 | with_reducible apply Quiet.wr | with_reducible apply Quiet.note | with_reducible apply Quiet.portRd | with_reducible apply Quiet.portWr | with_reducible apply Quiet.imm16 | with_reducible apply Quiet.push16 | with_reducible apply Quiet.pop16 | with_reducible apply Quiet.takenDelay | with_reducible apply Quiet.loadA | with_reducible apply Quiet.storeA | with_reducible apply Quiet.readWord | with_reducible apply Quiet.writeWord | with_reducible apply Quiet.exchangeTop | with_reducible apply Quiet.incMem | with_reducible apply Quiet.decMem | with_reducible apply Quiet.jumpRelative | with_reducible apply Quiet.callTo | with_reducible apply Quiet.returnTo | with_reducible apply Quiet.readDisplacement | with_reducible apply Quiet.rdModify | with_reducible apply Quiet.rotMem | with_reducible apply Quiet.atDisplacement | with_reducible apply Quiet.inputC | with_reducible apply Quiet.loadIR | with_reducible apply Quiet.nibbleRotate | with_reducible apply Quiet.repeatWz | with_reducible apply Quiet.repeatPc | with_reducible apply Quiet.blockLoad | with_reducible apply Quiet.blockLoadRepeat | with_reducible apply Quiet.blockCompare | with_reducible apply Quiet.blockCompareRepeat | with_reducible apply Quiet.blockIn | with_reducible apply Quiet.blockInRepeat | with_reducible apply Quiet.blockOut | with_reducible apply Quiet.blockOutRepeat | with_reducible apply Quiet.rotXyd | with_reducible apply Quiet.resXyd | with_reducible apply Quiet.setXyd | with_reducible apply Quiet.bitXyd)

theorem Quiet.ldAAtNn (hq : Quiet s t) : Quiet s (Sys2Proof.Machine.ldAAtNn t) := by
  unfold Sys2Proof.Machine.ldAAtNn
  repeat (first | with_reducible exact hq | with_reducible apply Quiet.setPc | with_reducible apply Quiet.setWz | with_reducible apply Quiet.setSp | with_reducible apply Quiet.setReg | with_reducible apply Quiet.setA | with_reducible apply Quiet.setF | with_reducible apply Quiet.setB | with_reducible apply Quiet.setBc | with_reducible apply Quiet.setDe | with_reducible apply Quiet.setHl | with_reducible apply Quiet.setAf | with_reducible apply Quiet.setPair | with_reducible apply Quiet.setQPair | with_reducible apply Quiet.setXy | with_reducible apply Quiet.setHalf | with_reducible apply Quiet.alu | with_reducible apply Quiet.incF | with_reducible apply Quiet.decF | with_reducible apply Quiet.rotA | with_reducible apply Quiet.tick | with_reducible apply Quiet.rd | with_reducible apply Quiet.imm8 | with_reducible apply Quiet.wr | with_reducible apply Quiet.note | with_reducible apply Quiet.portRd | with_reducible apply Quiet.portWr | with_reducible apply Quiet.imm16 | with_reducible apply Quiet.push16 | with_reducible apply Quiet.pop16 | with_reducible apply Quiet.takenDelay | with_reducible apply Quiet.loadA | with_reducible apply Quiet.storeA | with_reducible apply Quiet.readWord | with_reducible apply Quiet.writeWord | with_reducible apply Quiet.exchangeTop | with_reducible apply Quiet.incMem | with_reducible apply Quiet.decMem | with_reducible apply Quiet.jumpRelative | with_reducible apply Quiet.callTo | with_reducible apply Quiet.returnTo | with_reducible apply Quiet.readDisplacement | with_reducible apply Quiet.rdModify | with_reducible apply Quiet.rotMem | with_reducible apply Quiet.atDisplacement | with_reducible apply Quiet.inputC | with_reducible apply Quiet.loadIR | with_reducible apply Quiet.nibbleRotate | with_reducible apply Quiet.repeatWz | with_reducible apply Quiet.repeatPc | with_reducible apply Quiet.blockLoad | with_reducible apply Quiet.blockLoadRepeat | with_reducible apply Quiet.blockCompare | with_reducible apply Quiet.blockCompareRepeat | with_reducible apply Quiet.blockIn | with_reducible apply Quiet.blockInRepeat | with_reducible apply Quiet.blockOut | with_reducible apply Quiet.blockOutRepeat | with_reducible apply Quiet.rotXyd | with_reducible apply Quiet.resXyd | with_reducible apply Quiet.setXyd | with_reducible apply Quiet.bitXyd)

theorem Quiet.ldAtBcA (hq : Quiet s t) : Quiet s (Sys2Proof.Machine.ldAtBcA t) := by
  unfold Sys2Proof.Machine.ldAtBcA
  repeat (first | with_reducible exact hq | with_reducible apply Quiet.setPc | with_reducible apply Quiet.setWz | with_reducible apply Quiet.setSp | with_reducible apply Quiet.setReg | with_reducible apply Quiet.setA | with_reducible apply Quiet.setF | with_reducible apply Quiet.setB | with_reducible apply Quiet.setBc | with_reducible apply Quiet.setDe | with_reducible apply Quiet.setHl | with_reducible apply Quiet.setAf | with_reducible apply Quiet.setPair | with_reducible apply Quiet.setQPair | with_reducible apply Quiet.setXy | with_reducible apply Quiet.setHalf | with_reducible apply Quiet.alu | with_reducible apply Quiet.incF | with_reducible apply Quiet.decF | with_reducible apply Quiet.rotA | with_reducible apply Quiet.tick | with_reducible apply Quiet.rd | with_reducible apply Quiet.imm8 | with_reducible apply Quiet.wr | with_reducible apply Quiet.note | with_reducible apply Quiet.portRd | with_reducible apply Quiet.portWr | with_reducible apply Quiet.imm16 | with_reducible apply Quiet.push16 | with_reducible apply Quiet.pop16 | with_reducible apply Quiet.takenDelay | with_reducible apply Quiet.loadA | with_reducible apply Quiet.storeA | with_reducible apply Quiet.readWord | with_reducible apply Quiet.writeWord | with_reducible apply Quiet.exchangeTop | with_reducible apply Quiet.incMem | with_reducible apply Quiet.decMem | with_reducible apply Quiet.jumpRelative | with_reducible apply Quiet.callTo | with_reducible apply Quiet.returnTo | with_reducible apply Quiet.readDisplacement | with_reducible apply Quiet.rdModify | with_reducible apply Quiet.rotMem | with_reducible apply Quiet.atDisplacement | with_reducible apply Quiet.inputC | with_reducible apply Quiet.loadIR | with_reducible apply Quiet.nibbleRotate | with_reducible apply Quiet.repeatWz | with_reducible apply Quiet.repeatPc | with_reducible apply Quiet.blockLoad | with_reducible apply Quiet.blockLoadRepeat | with_reducible apply Quiet.blockCompare | with_reducible apply Quiet.blockCompareRepeat | with_reducible apply Quiet.blockIn | with_reducible apply Quiet.blockInRepeat | with_reducible apply Quiet.blockOut | with_reducible apply Quiet.blockOutRepeat | with_reducible apply Quiet.rotXyd | with_reducible apply Quiet.resXyd | with_reducible apply Quiet.setXyd | with_reducible apply Quiet.bitXyd)

theorem Quiet.ldAtDeA (hq : Quiet s t) : Quiet s (Sys2Proof.Machine.ldAtDeA t) := by
  unfold Sys2Proof.Machine.ldAtDeA
  repeat (first | with_reducible exact hq | with_reducible apply Quiet.setPc | with_reducible apply Quiet.setWz | with_reducible apply Quiet.setSp | with_reducible apply Quiet.setReg | with_reducible apply Quiet.setA | with_reducible apply Quiet.setF | with_reducible apply Quiet.setB | with_reducible apply Quiet.setBc | with_reducible apply Quiet.setDe | with_reducible apply Quiet.setHl | with_reducible apply Quiet.setAf | with_reducible apply Quiet.setPair | with_reducible apply Quiet.setQPair | with_reducible apply Quiet.setXy | with_reducible apply Quiet.setHalf | with_reducible apply Quiet.alu | with_reducible apply Quiet.incF | with_reducible apply Quiet.decF | with_reducible apply Quiet.rotA | with_reducible apply Quiet.tick | with_reducible apply Quiet.rd | with_reducible apply Quiet.imm8 | with_reducible apply Quiet.wr | with_reducible apply Quiet.note | with_reducible apply Quiet.portRd | with_reducible apply Quiet.portWr | with_reducible apply Quiet.imm16 | with_reducible apply Quiet.push16 | with_reducible apply Quiet.pop16 | with_reducible apply Quiet.takenDelay | with_reducible apply Quiet.loadA | with_reducible apply Quiet.storeA | with_reducible apply Quiet.readWord | with_reducible apply Quiet.writeWord | with_reducible apply Quiet.exchangeTop | with_reducible apply Quiet.incMem | with_reducible apply Quiet.decMem | with_reducible apply Quiet.jumpRelative | with_reducible apply Quiet.callTo | with_reducible apply Quiet.returnTo | with_reducible apply Quiet.readDisplacement | with_reducible apply Quiet.rdModify | with_reducible apply Quiet.rotMem | with_reducible apply Quiet.atDisplacement | with_reducible apply Quiet.inputC | with_reducible apply Quiet.loadIR | with_reducible apply Quiet.nibbleRotate | with_reducible apply Quiet.repeatWz | with_reducible apply Quiet.repeatPc | with_reducible apply Quiet.blockLoad | with_reducible apply Quiet.blockLoadRepeat | with_reducible apply Quiet.blockCompare | with_reducible apply Quiet.blockCompareRepeat | with_reducible apply Quiet.blockIn | with_reducible apply Quiet.blockInRepeat | with_reducible apply Quiet.blockOut | with_reducible apply Quiet.blockOutRepeat | with_reducible apply Quiet.rotXyd | with_reducible apply Quiet.resXyd | with_reducible apply Quiet.setXyd | with_reducible apply Quiet.bitXyd)

theorem Quiet.ldAtNnA (hq : Quiet s t) : Quiet s (Sys2Proof.Machine.ldAtNnA t) := by
  unfold Sys2Proof.Machine.ldAtNnA
  repeat (first | with_reducible exact hq | with_reducible apply Quiet.setPc | with_reducible apply Quiet.setWz | with_reducible apply Quiet.setSp | with_reducible apply Quiet.setReg | with_reducible apply Quiet.setA | with_reducible apply Quiet.setF | with_reducible apply Quiet.setB | with_reducible apply Quiet.setBc | with_reducible apply Quiet.setDe | with_reducible apply Quiet.setHl | with_reducible apply Quiet.setAf | with_reducible apply Quiet.setPair | with_reducible apply Quiet.setQPair | with_reducible apply Quiet.setXy | with_reducible apply Quiet.setHalf | with_reducible apply Quiet.alu | with_reducible apply Quiet.incF | with_reducible apply Quiet.decF | with_reducible apply Quiet.rotA | with_reducible apply Quiet.tick | with_reducible apply Quiet.rd | with_reducible apply Quiet.imm8 | with_reducible apply Quiet.wr | with_reducible apply Quiet.note | with_reducible apply Quiet.portRd | with_reducible apply Quiet.portWr | with_reducible apply Quiet.imm16 | with_reducible apply Quiet.push16 | with_reducible apply Quiet.pop16 | with_reducible apply Quiet.takenDelay | with_reducible apply Quiet.loadA | with_reducible apply Quiet.storeA | with_reducible apply Quiet.readWord | with_reducible apply Quiet.writeWord | with_reducible apply Quiet.exchangeTop | with_reducible apply Quiet.incMem | with_reducible apply Quiet.decMem | with_reducible apply Quiet.jumpRelative | with_reducible apply Quiet.callTo | with_reducible apply Quiet.returnTo | with_reducible apply Quiet.readDisplacement | with_reducible apply Quiet.rdModify | with_reducible apply Quiet.rotMem | with_reducible apply Quiet.atDisplacement | with_reducible apply Quiet.inputC | with_reducible apply Quiet.loadIR | with_reducible apply Quiet.nibbleRotate | with_reducible apply Quiet.repeatWz | with_reducible apply Quiet.repeatPc | with_reducible apply Quiet.blockLoad | with_reducible apply Quiet.blockLoadRepeat | with_reducible apply Quiet.blockCompare | with_reducible apply Quiet.blockCompareRepeat | with_reducible apply Quiet.blockIn | with_reducible apply Quiet.blockInRepeat | with_reducible apply Quiet.blockOut | with_reducible apply Quiet.blockOutRepeat | with_reducible apply Quiet.rotXyd | with_reducible apply Quiet.resXyd | with_reducible apply Quiet.setXyd | with_reducible apply Quiet.bitXyd)

theorem Quiet.ldPairImm (p : Pair) (hq : Quiet s t) : Quiet s (Sys2Proof.Machine.ldPairImm p t) := by
  unfold Sys2Proof.Machine.ldPairImm
  repeat (first | with_reducible exact hq | with_reducible apply Quiet.setPc | with_reducible apply Quiet.setWz | with_reducible apply Quiet.setSp | with_reducible apply Quiet.setReg | with_reducible apply Quiet.setA | with_reducible apply Quiet.setF | with_reducible apply Quiet.setB | with_reducible apply Quiet.setBc | with_reducible apply Quiet.setDe | with_reducible apply Quiet.setHl | with_reducible apply Quiet.setAf | with_reducible apply Quiet.setPair | with_reducible apply Quiet.setQPair | with_reducible apply Quiet.setXy | with_reducible apply Quiet.setHalf | with_reducible apply Quiet.alu | with_reducible apply Quiet.incF | with_reducible apply Quiet.decF | with_reducible apply Quiet.rotA | with_reducible apply Quiet.tick | with_reducible apply Quiet.rd | with_reducible apply Quiet.imm8 | with_reducible apply Quiet.wr | with_reducible apply Quiet.note | with_reducible apply Quiet.portRd | with_reducible apply Quiet.portWr | with_reducible apply Quiet.imm16 | with_reducible apply Quiet.push16 | with_reducible apply Quiet.pop16 | with_reducible apply Quiet.takenDelay | with_reducible apply Quiet.loadA | with_reducible apply Quiet.storeA | with_reducible apply Quiet.readWord | with_reducible apply Quiet.writeWord | with_reducible apply Quiet.exchangeTop | with_reducible apply Quiet.incMem | with_reducible apply Quiet.decMem | with_reducible apply Quiet.jumpRelative | with_reducible apply Quiet.callTo | with_reducible apply Quiet.returnTo | with_reducible apply Quiet.readDisplacement | with_reducible apply Quiet.rdModify | with_reducible apply Quiet.rotMem | with_reducible apply Quiet.atDisplacement | with_reducible apply Quiet.inputC | with_reducible apply Quiet.loadIR | with_reducible apply Quiet.nibbleRotate | with_reducible apply Quiet.repeatWz | with_reducible apply Quiet.repeatPc | with_reducible apply Quiet.blockLoad | with_reducible apply Quiet.blockLoadRepeat | with_reducible apply Quiet.blockCompare | with_reducible apply Quiet.blockCompareRepeat | with_reducible apply Quiet.blockIn | with_reducible apply Quiet.blockInRepeat | with_reducible apply Quiet.blockOut | with_reducible apply Quiet.blockOutRepeat | with_reducible apply Quiet.rotXyd | with_reducible apply Quiet.resXyd | with_reducible apply Quiet.setXyd | with_reducible apply Quiet.bitXyd)

theorem Quiet.ldHlAtNn (hq : Quiet s t) : Quiet s (Sys2Proof.Machine.ldHlAtNn t) := by
  unfold Sys2Proof.Machine.ldHlAtNn
  dsimp only
  repeat (first | with_reducible exact hq | with_reducible apply Quiet.setPc | with_reducible apply Quiet.setWz | with_reducible apply Quiet.setSp | with_reducible apply Quiet.setReg | with_reducible apply Quiet.setA | with_reducible apply Quiet.setF | with_reducible apply Quiet.setB | with_reducible apply Quiet.setBc | with_reducible apply Quiet.setDe | with_reducible apply Quiet.setHl | with_reducible apply Quiet.setAf | with_reducible apply Quiet.setPair | with_reducible apply Quiet.setQPair | with_reducible apply Quiet.setXy | with_reducible apply Quiet.setHalf | with_reducible apply Quiet.alu | with_reducible apply Quiet.incF | with_reducible apply Quiet.decF | with_reducible apply Quiet.rotA | with_reducible apply Quiet.tick | with_reducible apply Quiet.rd | with_reducible apply Quiet.imm8 | with_reducible apply Quiet.wr | with_reducible apply Quiet.note | with_reducible apply Quiet.portRd | with_reducible apply Quiet.portWr | with_reducible apply Quiet.imm16 | with_reducible apply Quiet.push16 | with_reducible apply Quiet.pop16 | with_reducible apply Quiet.takenDelay | with_reducible apply Quiet.loadA | with_reducible apply Quiet.storeA | with_reducible apply Quiet.readWord | with_reducible apply Quiet.writeWord | with_reducible apply Quiet.exchangeTop | with_reducible apply Quiet.incMem | with_reducible apply Quiet.decMem | with_reducible apply Quiet.jumpRelative | with_reducible apply Quiet.callTo | with_reducible apply Quiet.returnTo | with_reducible apply Quiet.readDisplacement | with_reducible apply Quiet.rdModify | with_reducible apply Quiet.rotMem | with_reducible apply Quiet.atDisplacement | with_reducible apply Quiet.inputC | with_reducible apply Quiet.loadIR | with_reducible apply Quiet.nibbleRotate | with_reducible apply Quiet.repeatWz | with_reducible apply Quiet.repeatPc | with_reducible apply Quiet.blockLoad | with_reducible apply Quiet.blockLoadRepeat | with_reducible apply Quiet.blockCompare | with_reducible apply Quiet.blockCompareRepeat | with_reducible apply Quiet.blockIn | with_reducible apply Quiet.blockInRepeat | with_reducible apply Quiet.blockOut | with_reducible apply Quiet.blockOutRepeat | with_reducible apply Quiet.rotXyd | with_reducible apply Quiet.resXyd | with_reducible apply Quiet.setXyd | with_reducible apply Quiet.bitXyd)

theorem Quiet.ldAtNnHl (hq : Quiet s t) : Quiet s (Sys2Proof.Machine.ldAtNnHl t) := by
  unfold Sys2Proof.Machine.ldAtNnHl
  repeat (first | with_reducible exact hq | with_reducible apply Quiet.setPc | with_reducible apply Quiet.setWz | with_reducible apply Quiet.setSp | with_reducible apply Quiet.setReg | with_reducible apply Quiet.setA | with_reducible apply Quiet.setF | with_reducible apply Quiet.setB | with_reducible apply Quiet.setBc | with_reducible apply Quiet.setDe | with_reducible apply Quiet.setHl | with_reducible apply Quiet.setAf | with_reducible apply Quiet.setPair | with_reducible apply Quiet.setQPair | with_reducible apply Quiet.setXy | with_reducible apply Quiet.setHalf | with_reducible apply Quiet.alu | with_reducible apply Quiet.incF | with_reducible apply Quiet.decF | with_reducible apply Quiet.rotA | with_reducible apply Quiet.tick | with_reducible apply Quiet.rd | with_reducible apply Quiet.imm8 | with_reducible apply Quiet.wr | with_reducible apply Quiet.note | with_reducible apply Quiet.portRd | with_reducible apply Quiet.portWr | with_reducible apply Quiet.imm16 | with_reducible apply Quiet.push16 | with_reducible apply Quiet.pop16 | with_reducible apply Quiet.takenDelay | with_reducible apply Quiet.loadA | with_reducible apply Quiet.storeA | with_reducible apply Quiet.readWord | with_reducible apply Quiet.writeWord | with_reducible apply Quiet.exchangeTop | with_reducible apply Quiet.incMem | with_reducible apply Quiet.decMem | with_reducible apply Quiet.jumpRelative | with_reducible apply Quiet.callTo | with_reducible apply Quiet.returnTo | with_reducible apply Quiet.readDisplacement | with_reducible apply Quiet.rdModify | with_reducible apply Quiet.rotMem | with_reducible apply Quiet.atDisplacement | with_reducible apply Quiet.inputC | with_reducible apply Quiet.loadIR | with_reducible apply Quiet.nibbleRotate | with_reducible apply Quiet.repeatWz | with_reducible apply Quiet.repeatPc | with_reducible apply Quiet.blockLoad | with_reducible apply Quiet.blockLoadRepeat | with_reducible apply Quiet.blockCompare | with_reducible apply Quiet.blockCompareRepeat | with_reducible apply Quiet.blockIn | with_reducible apply Quiet.blockInRepeat | with_reducible apply Quiet.blockOut | with_reducible apply Quiet.blockOutRepeat | with_reducible apply Quiet.rotXyd | with_reducible apply Quiet.resXyd | with_reducible apply Quiet.setXyd | with_reducible apply Quiet.bitXyd)

theorem Quiet.ldSpHl (hq : Quiet s t) : Quiet s (Sys2Proof.Machine.ldSpHl t) := by
  unfold Sys2Proof.Machine.ldSpHl
  repeat (first | with_reducible exact hq | with_reducible apply Quiet.setPc | with_reducible apply Quiet.setWz | with_reducible apply Quiet.setSp | with_reducible apply Quiet.setReg | with_reducible apply Quiet.setA | with_reducible apply Quiet.setF | with_reducible apply Quiet.setB | with_reducible apply Quiet.setBc | with_reducible apply Quiet.setDe | with_reducible apply Quiet.setHl | with_reducible apply Quiet.setAf | with_reducible apply Quiet.setPair | with_reducible apply Quiet.setQPair | with_reducible apply Quiet.setXy | with_reducible apply Quiet.setHalf | with_reducible apply Quiet.alu | with_reducible apply Quiet.incF | with_reducible apply Quiet.decF | with_reducible apply Quiet.rotA | with_reducible apply Quiet.tick | with_reducible apply Quiet.rd | with_reducible apply Quiet.imm8 | with_reducible apply Quiet.wr | with_reducible apply Quiet.note | with_reducible apply Quiet.portRd | with_reducible apply Quiet.portWr | with_reducible apply Quiet.imm16 | with_reducible apply Quiet.push16 | with_reducible apply Quiet.pop16 | with_reducible apply Quiet.takenDelay | with_reducible apply Quiet.loadA | with_reducible apply Quiet.storeA | with_reducible apply Quiet.readWord | with_reducible apply Quiet.writeWord | with_reducible apply Quiet.exchangeTop | with_reducible apply Quiet.incMem | with_reducible apply Quiet.decMem | with_reducible apply Quiet.jumpRelative | with_reducible apply Quiet.callTo | with_reducible apply Quiet.returnTo | with_reducible apply Quiet.readDisplacement | with_reducible apply Quiet.rdModify | with_reducible apply Quiet.rotMem | with_reducible apply Quiet.atDisplacement | with_reducible apply Quiet.inputC | with_reducible apply Quiet.loadIR | with_reducible apply Quiet.nibbleRotate | with_reducible apply Quiet.repeatWz | with_reducible apply Quiet.repeatPc | with_reducible apply Quiet.blockLoad | with_reducible apply Quiet.blockLoadRepeat | with_reducible apply Quiet.blockCompare | with_reducible apply Quiet.blockCompareRepeat | with_reducible apply Quiet.blockIn | with_reducible apply Quiet.blockInRepeat | with_reducible apply Quiet.blockOut | with_reducible apply Quiet.blockOutRepeat | with_reducible apply Quiet.rotXyd | with_reducible apply Quiet.resXyd | with_reducible apply Quiet.setXyd | with_reducible apply Quiet.bitXyd)

theorem Quiet.push (p : QPair) (hq : Quiet s t) : Quiet s (Sys2Proof.Machine.push p t) := by
  unfold Sys2Proof.Machine.push
  repeat (first | with_reducible exact hq | with_reducible apply Quiet.setPc | with_reducible apply Quiet.setWz | with_reducible apply Quiet.setSp | with_reducible apply Quiet.setReg | with_reducible apply Quiet.setA | with_reducible apply Quiet.setF | with_reducible apply Quiet.setB | with_reducible apply Quiet.setBc | with_reducible apply Quiet.setDe | with_reducible apply Quiet.setHl | with_reducible apply Quiet.setAf | with_reducible apply Quiet.setPair | with_reducible apply Quiet.setQPair | with_reducible apply Quiet.setXy | with_reducible apply Quiet.setHalf | with_reducible apply Quiet.alu | with_reducible apply Quiet.incF | with_reducible apply Quiet.decF | with_reducible apply Quiet.rotA | with_reducible apply Quiet.tick | with_reducible apply Quiet.rd | with_reducible apply Quiet.imm8 | with_reducible apply Quiet.wr | with_reducible apply Quiet.note | with_reducible apply Quiet.portRd | with_reducible apply Quiet.portWr | with_reducible apply Quiet.imm16 | with_reducible apply Quiet.push16 | with_reducible apply Quiet.pop16 | with_reducible apply Quiet.takenDelay | with_reducible apply Quiet.loadA | with_reducible apply Quiet.storeA | with_reducible apply Quiet.readWord | with_reducible apply Quiet.writeWord | with_reducible apply Quiet.exchangeTop | with_reducible apply Quiet.incMem | with_reducible apply Quiet.decMem | with_reducible apply Quiet.jumpRelative | with_reducible apply Quiet.callTo | with_reducible apply Quiet.returnTo | with_reducible apply Quiet.readDisplacement | with_reducible apply Quiet.rdModify | with_reducible apply Quiet.rotMem | with_reducible apply Quiet.atDisplacement | with_reducible apply Quiet.inputC | with_reducible apply Quiet.loadIR | with_reducible apply Quiet.nibbleRotate | with_reducible apply Quiet.repeatWz | with_reducible apply Quiet.repeatPc | with_reducible apply Quiet.blockLoad | with_reducible apply Quiet.blockLoadRepeat | with_reducible apply Quiet.blockCompare | with_reducible apply Quiet.blockCompareRepeat | with_reducible apply Quiet.blockIn | with_reducible apply Quiet.blockInRepeat | with_reducible apply Quiet.blockOut | with_reducible apply Quiet.blockOutRepeat | with_reducible apply Quiet.rotXyd | with_reducible apply Quiet.resXyd | with_reducible apply Quiet.setXyd | with_reducible apply Quiet.bitXyd)

theorem Quiet.pop (p : QPair) (hq : Quiet s t) : Quiet s (Sys2Proof.Machine.pop p t) := by
  unfold Sys2Proof.Machine.pop
  repeat (first | with_reducible exact hq | with_reducible apply Quiet.setPc | with_reducible apply Quiet.setWz | with_reducible apply Quiet.setSp | with_reducible apply Quiet.setReg | with_reducible apply Quiet.setA | with_reducible apply Quiet.setF | with_reducible apply Quiet.setB | with_reducible apply Quiet.setBc | with_reducible apply Quiet.setDe | with_reducible apply Quiet.setHl | with_reducible apply Quiet.setAf | with_reducible apply Quiet.setPair | with_reducible apply Quiet.setQPair | with_reducible apply Quiet.setXy | with_reducible apply Quiet.setHalf | with_reducible apply Quiet.alu | with_reducible apply Quiet.incF | with_reducible apply Quiet.decF | with_reducible apply Quiet.rotA | with_reducible apply Quiet.tick | with_reducible apply Quiet.rd | with_reducible apply Quiet.imm8 | with_reducible apply Quiet.wr | with_reducible apply Quiet.note | with_reducible apply Quiet.portRd | with_reducible apply Quiet.portWr | with_reducible apply Quiet.imm16 | with_reducible apply Quiet.push16 | with_reducible apply Quiet.pop16 | with_reducible apply Quiet.takenDelay | with_reducible apply Quiet.loadA | with_reducible apply Quiet.storeA | with_reducible apply Quiet.readWord | with_reducible apply Quiet.writeWord | with_reducible apply Quiet.exchangeTop | with_reducible apply Quiet.incMem | with_reducible apply Quiet.decMem | with_reducible apply Quiet.jumpRelative | with_reducible apply Quiet.callTo | with_reducible apply Quiet.returnTo | with_reducible apply Quiet.readDisplacement | with_reducible apply Quiet.rdModify | with_reducible apply Quiet.rotMem | with_reducible apply Quiet.atDisplacement | with_reducible apply Quiet.inputC | with_reducible apply Quiet.loadIR | with_reducible apply Quiet.nibbleRotate | with_reducible apply Quiet.repeatWz | with_reducible apply Quiet.repeatPc | with_reducible apply Quiet.blockLoad | with_reducible apply Quiet.blockLoadRepeat | with_reducible apply Quiet.blockCompare | with_reducible apply Quiet.blockCompareRepeat | with_reducible apply Quiet.blockIn | with_reducible apply Quiet.blockInRepeat | with_reducible apply Quiet.blockOut | with_reducible apply Quiet.blockOutRepeat | with_reducible apply Quiet.rotXyd | with_reducible apply Quiet.resXyd | with_reducible apply Quiet.setXyd | with_reducible apply Quiet.bitXyd)

theorem Quiet.exDeHl (hq : Quiet s t) : Quiet s (Sys2Proof.Machine.exDeHl t) := by
  unfold Sys2Proof.Machine.exDeHl
  repeat (first | with_reducible exact hq | with_reducible apply Quiet.setPc | with_reducible apply Quiet.setWz | with_reducible apply Quiet.setSp | with_reducible apply Quiet.setReg | with_reducible apply Quiet.setA | with_reducible apply Quiet.setF | with_reducible apply Quiet.setB | with_reducible apply Quiet.setBc | with_reducible apply Quiet.setDe | with_reducible apply Quiet.setHl | with_reducible apply Quiet.setAf | with_reducible apply Quiet.setPair | with_reducible apply Quiet.setQPair | with_reducible apply Quiet.setXy | with_reducible apply Quiet.setHalf | with_reducible apply Quiet.alu | with_reducible apply Quiet.incF | with_reducible apply Quiet.decF | with_reducible apply Quiet.rotA | with_reducible apply Quiet.tick | with_reducible apply Quiet.rd | with_reducible apply Quiet.imm8 | with_reducible apply Quiet.wr | with_reducible apply Quiet.note | with_reducible apply Quiet.portRd | with_reducible apply Quiet.portWr | with_reducible apply Quiet.imm16 | with_reducible apply Quiet.push16 | with_reducible apply Quiet.pop16 | with_reducible apply Quiet.takenDelay | with_reducible apply Quiet.loadA | with_reducible apply Quiet.storeA | with_reducible apply Quiet.readWord | with_reducible apply Quiet.writeWord | with_reducible apply Quiet.exchangeTop | with_reducible apply Quiet.incMem | with_reducible apply Quiet.decMem | with_reducible apply Quiet.jumpRelative | with_reducible apply Quiet.callTo | with_reducible apply Quiet.returnTo | with_reducible apply Quiet.readDisplacement | with_reducible apply Quiet.rdModify | with_reducible apply Quiet.rotMem | with_reducible apply Quiet.atDisplacement | with_reducible apply Quiet.inputC | with_reducible apply Quiet.loadIR | with_reducible apply Quiet.nibbleRotate | with_reducible apply Quiet.repeatWz | with_reducible apply Quiet.repeatPc | with_reducible apply Quiet.blockLoad | with_reducible apply Quiet.blockLoadRepeat | with_reducible apply Quiet.blockCompare | with_reducible apply Quiet.blockCompareRepeat | with_reducible apply Quiet.blockIn | with_reducible apply Quiet.blockInRepeat | with_reducible apply Quiet.blockOut | with_reducible apply Quiet.blockOutRepeat | with_reducible apply Quiet.rotXyd | with_reducible apply Quiet.resXyd | with_reducible apply Quiet.setXyd | with_reducible apply Quiet.bitXyd)

theorem Quiet.exSpHl (hq : Quiet s t) : Quiet s (Sys2Proof.Machine.exSpHl t) := by
  unfold Sys2Proof.Machine.exSpHl
  repeat (first | with_reducible exact hq | with_reducible apply Quiet.setPc | with_reducible apply Quiet.setWz | with_reducible apply Quiet.setSp | with_reducible apply Quiet.setReg | with_reducible apply Quiet.setA | with_reducible apply Quiet.setF | with_reducible apply Quiet.setB | with_reducible apply Quiet.setBc | with_reducible apply Quiet.setDe | with_reducible apply Quiet.setHl | with_reducible apply Quiet.setAf | with_reducible apply Quiet.setPair | with_reducible apply Quiet.setQPair | with_reducible apply Quiet.setXy | with_reducible apply Quiet.setHalf | with_reducible apply Quiet.alu | with_reducible apply Quiet.incF | with_reducible apply Quiet.decF | with_reducible apply Quiet.rotA | with_reducible apply Quiet.tick | with_reducible apply Quiet.rd | with_reducible apply Quiet.imm8 | with_reducible apply Quiet.wr | with_reducible apply Quiet.note | with_reducible apply Quiet.portRd | with_reducible apply Quiet.portWr | with_reducible apply Quiet.imm16 | with_reducible apply Quiet.push16 | with_reducible apply Quiet.pop16 | with_reducible apply Quiet.takenDelay | with_reducible apply Quiet.loadA | with_reducible apply Quiet.storeA | with_reducible apply Quiet.readWord | with_reducible apply Quiet.writeWord | with_reducible apply Quiet.exchangeTop | with_reducible apply Quiet.incMem | with_reducible apply Quiet.decMem | with_reducible apply Quiet.jumpRelative | with_reducible apply Quiet.callTo | with_reducible apply Quiet.returnTo | with_reducible apply Quiet.readDisplacement | with_reducible apply Quiet.rdModify | with_reducible apply Quiet.rotMem | with_reducible apply Quiet.atDisplacement | with_reducible apply Quiet.inputC | with_reducible apply Quiet.loadIR | with_reducible apply Quiet.nibbleRotate | with_reducible apply Quiet.repeatWz | with_reducible apply Quiet.repeatPc | with_reducible apply Quiet.blockLoad | with_reducible apply Quiet.blockLoadRepeat | with_reducible apply Quiet.blockCompare | with_reducible apply Quiet.blockCompareRepeat | with_reducible apply Quiet.blockIn | with_reducible apply Quiet.blockInRepeat | with_reducible apply Quiet.blockOut | with_reducible apply Quiet.blockOutRepeat | with_reducible apply Quiet.rotXyd | with_reducible apply Quiet.resXyd | with_reducible apply Quiet.setXyd | with_reducible apply Quiet.bitXyd)

theorem Quiet.aluReg (op : AluOp) (r : Reg8) (hq : Quiet s t) : Quiet s (Sys2Proof.Machine.aluReg op r t) := by
  unfold Sys2Proof.Machine.aluReg
  repeat (first | with_reducible exact hq | with_reducible apply Quiet.setPc | with_reducible apply Quiet.setWz | with_reducible apply Quiet.setSp | with_reducible apply Quiet.setReg | with_reducible apply Quiet.setA | with_reducible apply Quiet.setF | with_reducible apply Quiet.setB | with_reducible apply Quiet.setBc | with_reducible apply Quiet.setDe | with_reducible apply Quiet.setHl | with_reducible apply Quiet.setAf | with_reducible apply Quiet.setPair | with_reducible apply Quiet.setQPair | with_reducible apply Quiet.setXy | with_reducible apply Quiet.setHalf | with_reducible apply Quiet.alu | with_reducible apply Quiet.incF | with_reducible apply Quiet.decF | with_reducible apply Quiet.rotA | with_reducible apply Quiet.tick | with_reducible apply Quiet.rd | with_reducible apply Quiet.imm8 | with_reducible apply Quiet.wr | with_reducible apply Quiet.note | with_reducible apply Quiet.portRd | with_reducible apply Quiet.portWr | with_reducible apply Quiet.imm16 | with_reducible apply Quiet.push16 | with_reducible apply Quiet.pop16 | with_reducible apply Quiet.takenDelay | with_reducible apply Quiet.loadA | with_reducible apply Quiet.storeA | with_reducible apply Quiet.readWord | with_reducible apply Quiet.writeWord | with_reducible apply Quiet.exchangeTop | with_reducible apply Quiet.incMem | with_reducible apply Quiet.decMem | with_reducible apply Quiet.jumpRelative | with_reducible apply Quiet.callTo | with_reducible apply Quiet.returnTo | with_reducible apply Quiet.readDisplacement | with_reducible apply Quiet.rdModify | with_reducible apply Quiet.rotMem | with_reducible apply Quiet.atDisplacement | with_reducible apply Quiet.inputC | with_reducible apply Quiet.loadIR | with_reducible apply Quiet.nibbleRotate | with_reducible apply Quiet.repeatWz | with_reducible apply Quiet.repeatPc | with_reducible apply Quiet.blockLoad | with_reducible apply Quiet.blockLoadRepeat | with_reducible apply Quiet.blockCompare | with_reducible apply Quiet.blockCompareRepeat | with_reducible apply Quiet.blockIn | with_reducible apply Quiet.blockInRepeat | with_reducible apply Quiet.blockOut | with_reducible apply Quiet.blockOutRepeat | with_reducible apply Quiet.rotXyd | with_reducible apply Quiet.resXyd | with_reducible apply Quiet.setXyd | with_reducible apply Quiet.bitXyd)

theorem Quiet.aluAtHl (op : AluOp) (hq : Quiet s t) : Quiet s (Sys2Proof.Machine.aluAtHl op t) := by
  unfold Sys2Proof.Machine.aluAtHl
  repeat (first | with_reducible exact hq | with_reducible apply Quiet.setPc | with_reducible apply Quiet.setWz | with_reducible apply Quiet.setSp | with_reducible apply Quiet.setReg | with_reducible apply Quiet.setA | with_reducible apply Quiet.setF | with_reducible apply Quiet.setB | with_reducible apply Quiet.setBc | with_reducible apply Quiet.setDe | with_reducible apply Quiet.setHl | with_reducible apply Quiet.setAf | with_reducible apply Quiet.setPair | with_reducible apply Quiet.setQPair | with_reducible apply Quiet.setXy | with_reducible apply Quiet.setHalf | with_reducible apply Quiet.alu | with_reducible apply Quiet.incF | with_reducible apply Quiet.decF | with_reducible apply Quiet.rotA | with_reducible apply Quiet.tick | with_reducible apply Quiet.rd | with_reducible apply Quiet.imm8 | with_reducible apply Quiet.wr | with_reducible apply Quiet.note | with_reducible apply Quiet.portRd | with_reducible apply Quiet.portWr | with_reducible apply Quiet.imm16 | with_reducible apply Quiet.push16 | with_reducible apply Quiet.pop16 | with_reducible apply Quiet.takenDelay | with_reducible apply Quiet.loadA | with_reducible apply Quiet.storeA | with_reducible apply Quiet.readWord | with_reducible apply Quiet.writeWord | with_reducible apply Quiet.exchangeTop | with_reducible apply Quiet.incMem | with_reducible apply Quiet.decMem | with_reducible apply Quiet.jumpRelative | with_reducible apply Quiet.callTo | with_reducible apply Quiet.returnTo | with_reducible apply Quiet.readDisplacement | with_reducible apply Quiet.rdModify | with_reducible apply Quiet.rotMem | with_reducible apply Quiet.atDisplacement | with_reducible apply Quiet.inputC | with_reducible apply Quiet.loadIR | with_reducible apply Quiet.nibbleRotate | with_reducible apply Quiet.repeatWz | with_reducible apply Quiet.repeatPc | with_reducible apply Quiet.blockLoad | with_reducible apply Quiet.blockLoadRepeat | with_reducible apply Quiet.blockCompare | with_reducible apply Quiet.blockCompareRepeat | with_reducible apply Quiet.blockIn | with_reducible apply Quiet.blockInRepeat | with_reducible apply Quiet.blockOut | with_reducible apply Quiet.blockOutRepeat | with_reducible apply Quiet.rotXyd | with_reducible apply Quiet.resXyd | with_reducible apply Quiet.setXyd | with_reducible apply Quiet.bitXyd)

theorem Quiet.aluImm (op : AluOp) (hq : Quiet s t) : Quiet s (Sys2Proof.Machine.aluImm op t) := by
  unfold Sys2Proof.Machine.aluImm
  repeat (first | with_reducible exact hq | with_reducible apply Quiet.setPc | with_reducible apply Quiet.setWz | with_reducible apply Quiet.setSp | with_reducible apply Quiet.setReg | with_reducible apply Quiet.setA | with_reducible apply Quiet.setF | with_reducible apply Quiet.setB | with_reducible apply Quiet.setBc | with_reducible apply Quiet.setDe | with_reducible apply Quiet.setHl | with_reducible apply Quiet.setAf | with_reducible apply Quiet.setPair | with_reducible apply Quiet.setQPair | with_reducible apply Quiet.setXy | with_reducible apply Quiet.setHalf | with_reducible apply Quiet.alu | with_reducible apply Quiet.incF | with_reducible apply Quiet.decF | with_reducible apply Quiet.rotA | with_reducible apply Quiet.tick | with_reducible apply Quiet.rd | with_reducible apply Quiet.imm8 | with_reducible apply Quiet.wr | with_reducible apply Quiet.note | with_reducible apply Quiet.portRd | with_reducible apply Quiet.portWr | with_reducible apply Quiet.imm16 | with_reducible apply Quiet.push16 | with_reducible apply Quiet.pop16 | with_reducible apply Quiet.takenDelay | with_reducible apply Quiet.loadA | with_reducible apply Quiet.storeA | with_reducible apply Quiet.readWord | with_reducible apply Quiet.writeWord | with_reducible apply Quiet.exchangeTop | with_reducible apply Quiet.incMem | with_reducible apply Quiet.decMem | with_reducible apply Quiet.jumpRelative | with_reducible apply Quiet.callTo | with_reducible apply Quiet.returnTo | with_reducible apply Quiet.readDisplacement | with_reducible apply Quiet.rdModify | with_reducible apply Quiet.rotMem | with_reducible apply Quiet.atDisplacement | with_reducible apply Quiet.inputC | with_reducible apply Quiet.loadIR | with_reducible apply Quiet.nibbleRotate | with_reducible apply Quiet.repeatWz | with_reducible apply Quiet.repeatPc | with_reducible apply Quiet.blockLoad | with_reducible apply Quiet.blockLoadRepeat | with_reducible apply Quiet.blockCompare | with_reducible apply Quiet.blockCompareRepeat | with_reducible apply Quiet.blockIn | with_reducible apply Quiet.blockInRepeat | with_reducible apply Quiet.blockOut | with_reducible apply Quiet.blockOutRepeat | with_reducible apply Quiet.rotXyd | with_reducible apply Quiet.resXyd | with_reducible apply Quiet.setXyd | with_reducible apply Quiet.bitXyd)

theorem Quiet.incReg (r : Reg8) (hq : Quiet s t) : Quiet s (Sys2Proof.Machine.incReg r t) := by
  unfold Sys2Proof.Machine.incReg
  repeat (first | with_reducible exact hq | with_reducible apply Quiet.setPc | with_reducible apply Quiet.setWz | with_reducible apply Quiet.setSp | with_reducible apply Quiet.setReg | with_reducible apply Quiet.setA | with_reducible apply Quiet.setF | with_reducible apply Quiet.setB | with_reducible apply Quiet.setBc | with_reducible apply Quiet.setDe | with_reducible apply Quiet.setHl | with_reducible apply Quiet.setAf | with_reducible apply Quiet.setPair | with_reducible apply Quiet.setQPair | with_reducible apply Quiet.setXy | with_reducible apply Quiet.setHalf | with_reducible apply Quiet.alu | with_reducible apply Quiet.incF | with_reducible apply Quiet.decF | with_reducible apply Quiet.rotA | with_reducible apply Quiet.tick | with_reducible apply Quiet.rd | with_reducible apply Quiet.imm8 | with_reducible apply Quiet.wr | with_reducible apply Quiet.note | with_reducible apply Quiet.portRd | with_reducible apply Quiet.portWr | with_reducible apply Quiet.imm16 | with_reducible apply Quiet.push16 | with_reducible apply Quiet.pop16 | with_reducible apply Quiet.takenDelay | with_reducible apply Quiet.loadA | with_reducible apply Quiet.storeA | with_reducible apply Quiet.readWord | with_reducible apply Quiet.writeWord | with_reducible apply Quiet.exchangeTop | with_reducible apply Quiet.incMem | with_reducible apply Quiet.decMem | with_reducible apply Quiet.jumpRelative | with_reducible apply Quiet.callTo | with_reducible apply Quiet.returnTo | with_reducible apply Quiet.readDisplacement | with_reducible apply Quiet.rdModify | with_reducible apply Quiet.rotMem | with_reducible apply Quiet.atDisplacement | with_reducible apply Quiet.inputC | with_reducible apply Quiet.loadIR | with_reducible apply Quiet.nibbleRotate | with_reducible apply Quiet.repeatWz | with_reducible apply Quiet.repeatPc | with_reducible apply Quiet.blockLoad | with_reducible apply Quiet.blockLoadRepeat | with_reducible apply Quiet.blockCompare | with_reducible apply Quiet.blockCompareRepeat | with_reducible apply Quiet.blockIn | with_reducible apply Quiet.blockInRepeat | with_reducible apply Quiet.blockOut | with_reducible apply Quiet.blockOutRepeat | with_reducible apply Quiet.rotXyd | with_reducible apply Quiet.resXyd | with_reducible apply Quiet.setXyd | with_reducible apply Quiet.bitXyd)

theorem Quiet.incAtHl (hq : Quiet s t) : Quiet s (Sys2Proof.Machine.incAtHl t) := by
  unfold Sys2Proof.Machine.incAtHl
  repeat (first | with_reducible exact hq | with_reducible apply Quiet.setPc | with_reducible apply Quiet.setWz | with_reducible apply Quiet.setSp | with_reducible apply Quiet.setReg | with_reducible apply Quiet.setA | with_reducible apply Quiet.setF | with_reducible apply Quiet.setB | with_reducible apply Quiet.setBc | with_reducible apply Quiet.setDe | with_reducible apply Quiet.setHl | with_reducible apply Quiet.setAf | with_reducible apply Quiet.setPair | with_reducible apply Quiet.setQPair | with_reducible apply Quiet.setXy | with_reducible apply Quiet.setHalf | with_reducible apply Quiet.alu | with_reducible apply Quiet.incF | with_reducible apply Quiet.decF | with_reducible apply Quiet.rotA | with_reducible apply Quiet.tick | with_reducible apply Quiet.rd | with_reducible apply Quiet.imm8 | with_reducible apply Quiet.wr | with_reducible apply Quiet.note | with_reducible apply Quiet.portRd | with_reducible apply Quiet.portWr | with_reducible apply Quiet.imm16 | with_reducible apply Quiet.push16 | with_reducible apply Quiet.pop16 | with_reducible apply Quiet.takenDelay | with_reducible apply Quiet.loadA | with_reducible apply Quiet.storeA | with_reducible apply Quiet.readWord | with_reducible apply Quiet.writeWord | with_reducible apply Quiet.exchangeTop | with_reducible apply Quiet.incMem | with_reducible apply Quiet.decMem | with_reducible apply Quiet.jumpRelative | with_reducible apply Quiet.callTo | with_reducible apply Quiet.returnTo | with_reducible apply Quiet.readDisplacement | with_reducible apply Quiet.rdModify | with_reducible apply Quiet.rotMem | with_reducible apply Quiet.atDisplacement | with_reducible apply Quiet.inputC | with_reducible apply Quiet.loadIR | with_reducible apply Quiet.nibbleRotate | with_reducible apply Quiet.repeatWz | with_reducible apply Quiet.repeatPc | with_reducible apply Quiet.blockLoad | with_reducible apply Quiet.blockLoadRepeat | with_reducible apply Quiet.blockCompare | with_reducible apply Quiet.blockCompareRepeat | with_reducible apply Quiet.blockIn | with_reducible apply Quiet.blockInRepeat | with_reducible apply Quiet.blockOut | with_reducible apply Quiet.blockOutRepeat | with_reducible apply Quiet.rotXyd | with_reducible apply Quiet.resXyd | with_reducible apply Quiet.setXyd | with_reducible apply Quiet.bitXyd)

theorem Quiet.decReg (r : Reg8) (hq : Quiet s t) : Quiet s (Sys2Proof.Machine.decReg r t) := by
  unfold Sys2Proof.Machine.decReg
  repeat (first | with_reducible exact hq | with_reducible apply Quiet.setPc | with_reducible apply Quiet.setWz | with_reducible apply Quiet.setSp | with_reducible apply Quiet.setReg | with_reducible apply Quiet.setA | with_reducible apply Quiet.setF | with_reducible apply Quiet.setB | with_reducible apply Quiet.setBc | with_reducible apply Quiet.setDe | with_reducible apply Quiet.setHl | with_reducible apply Quiet.setAf | with_reducible apply Quiet.setPair | with_reducible apply Quiet.setQPair | with_reducible apply Quiet.setXy | with_reducible apply Quiet.setHalf | with_reducible apply Quiet.alu | with_reducible apply Quiet.incF | with_reducible apply Quiet.decF | with_reducible apply Quiet.rotA | with_reducible apply Quiet.tick | with_reducible apply Quiet.rd | with_reducible apply Quiet.imm8 | with_reducible apply Quiet.wr | with_reducible apply Quiet.note | with_reducible apply Quiet.portRd | with_reducible apply Quiet.portWr | with_reducible apply Quiet.imm16 | with_reducible apply Quiet.push16 | with_reducible apply Quiet.pop16 | with_reducible apply Quiet.takenDelay | with_reducible apply Quiet.loadA | with_reducible apply Quiet.storeA | with_reducible apply Quiet.readWord | with_reducible apply Quiet.writeWord | with_reducible apply Quiet.exchangeTop | with_reducible apply Quiet.incMem | with_reducible apply Quiet.decMem | with_reducible apply Quiet.jumpRelative | with_reducible apply Quiet.callTo | with_reducible apply Quiet.returnTo | with_reducible apply Quiet.readDisplacement | with_reducible apply Quiet.rdModify | with_reducible apply Quiet.rotMem | with_reducible apply Quiet.atDisplacement | with_reducible apply Quiet.inputC | with_reducible apply Quiet.loadIR | with_reducible apply Quiet.nibbleRotate | with_reducible apply Quiet.repeatWz | with_reducible apply Quiet.repeatPc | with_reducible apply Quiet.blockLoad | with_reducible apply Quiet.blockLoadRepeat | with_reducible apply Quiet.blockCompare | with_reducible apply Quiet.blockCompareRepeat | with_reducible apply Quiet.blockIn | with_reducible apply Quiet.blockInRepeat | with_reducible apply Quiet.blockOut | with_reducible apply Quiet.blockOutRepeat | with_reducible apply Quiet.rotXyd | with_reducible apply Quiet.resXyd | with_reducible apply Quiet.setXyd | with_reducible apply Quiet.bitXyd)

theorem Quiet.decAtHl (hq : Quiet s t) : Quiet s (Sys2Proof.Machine.decAtHl t) := by
  unfold Sys2Proof.Machine.decAtHl
  repeat (first | with_reducible exact hq | with_reducible apply Quiet.setPc | with_reducible apply Quiet.setWz | with_reducible apply Quiet.setSp | with_reducible apply Quiet.setReg | with_reducible apply Quiet.setA | with_reducible apply Quiet.setF | with_reducible apply Quiet.setB | with_reducible apply Quiet.setBc | with_reducible apply Quiet.setDe | with_reducible apply Quiet.setHl | with_reducible apply Quiet.setAf | with_reducible apply Quiet.setPair | with_reducible apply Quiet.setQPair | with_reducible apply Quiet.setXy | with_reducible apply Quiet.setHalf | with_reducible apply Quiet.alu | with_reducible apply Quiet.incF | with_reducible apply Quiet.decF | with_reducible apply Quiet.rotA | with_reducible apply Quiet.tick | with_reducible apply Quiet.rd | with_reducible apply Quiet.imm8 | with_reducible apply Quiet.wr | with_reducible apply Quiet.note | with_reducible apply Quiet.portRd | with_reducible apply Quiet.portWr | with_reducible apply Quiet.imm16 | with_reducible apply Quiet.push16 | with_reducible apply Quiet.pop16 | with_reducible apply Quiet.takenDelay | with_reducible apply Quiet.loadA | with_reducible apply Quiet.storeA | with_reducible apply Quiet.readWord | with_reducible apply Quiet.writeWord | with_reducible apply Quiet.exchangeTop | with_reducible apply Quiet.incMem | with_reducible apply Quiet.decMem | with_reducible apply Quiet.jumpRelative | with_reducible apply Quiet.callTo | with_reducible apply Quiet.returnTo | with_reducible apply Quiet.readDisplacement | with_reducible apply Quiet.rdModify | with_reducible apply Quiet.rotMem | with_reducible apply Quiet.atDisplacement | with_reducible apply Quiet.inputC | with_reducible apply Quiet.loadIR | with_reducible apply Quiet.nibbleRotate | with_reducible apply Quiet.repeatWz | with_reducible apply Quiet.repeatPc | with_reducible apply Quiet.blockLoad | with_reducible apply Quiet.blockLoadRepeat | with_reducible apply Quiet.blockCompare | with_reducible apply Quiet.blockCompareRepeat | with_reducible apply Quiet.blockIn | with_reducible apply Quiet.blockInRepeat | with_reducible apply Quiet.blockOut | with_reducible apply Quiet.blockOutRepeat | with_reducible apply Quiet.rotXyd | with_reducible apply Quiet.resXyd | with_reducible apply Quiet.setXyd | with_reducible apply Quiet.bitXyd)

theorem Quiet.daa (hq : Quiet s t) : Quiet s (Sys2Proof.Machine.daa t) := hq.quietWrite _ rfl

theorem Quiet.cpl (hq : Quiet s t) : Quiet s (Sys2Proof.Machine.cpl t) := hq.quietWrite _ rfl

theorem Quiet.scf (hq : Quiet s t) : Quiet s (Sys2Proof.Machine.scf t) := by
  unfold Sys2Proof.Machine.scf
  repeat (first | with_reducible exact hq | with_reducible apply Quiet.setPc | with_reducible apply Quiet.setWz | with_reducible apply Quiet.setSp | with_reducible apply Quiet.setReg | with_reducible apply Quiet.setA | with_reducible apply Quiet.setF | with_reducible apply Quiet.setB | with_reducible apply Quiet.setBc | with_reducible apply Quiet.setDe | with_reducible apply Quiet.setHl | with_reducible apply Quiet.setAf | with_reducible apply Quiet.setPair | with_reducible apply Quiet.setQPair | with_reducible apply Quiet.setXy | with_reducible apply Quiet.setHalf | with_reducible apply Quiet.alu | with_reducible apply Quiet.incF | with_reducible apply Quiet.decF | with_reducible apply Quiet.rotA | with_reducible apply Quiet.tick | with_reducible apply Quiet.rd | with_reducible apply Quiet.imm8 | with_reducible apply Quiet.wr | with_reducible apply Quiet.note | with_reducible apply Quiet.portRd | with_reducible apply Quiet.portWr | with_reducible apply Quiet.imm16 | with_reducible apply Quiet.push16 | with_reducible apply Quiet.pop16 | with_reducible apply Quiet.takenDelay | with_reducible apply Quiet.loadA | with_reducible apply Quiet.storeA | with_reducible apply Quiet.readWord | with_reducible apply Quiet.writeWord | with_reducible apply Quiet.exchangeTop | with_reducible apply Quiet.incMem | with_reducible apply Quiet.decMem | with_reducible apply Quiet.jumpRelative | with_reducible apply Quiet.callTo | with_reducible apply Quiet.returnTo | with_reducible apply Quiet.readDisplacement | with_reducible apply Quiet.rdModify | with_reducible apply Quiet.rotMem | with_reducible apply Quiet.atDisplacement | with_reducible apply Quiet.inputC | with_reducible apply Quiet.loadIR | with_reducible apply Quiet.nibbleRotate | with_reducible apply Quiet.repeatWz | with_reducible apply Quiet.repeatPc | with_reducible apply Quiet.blockLoad | with_reducible apply Quiet.blockLoadRepeat | with_reducible apply Quiet.blockCompare | with_reducible apply Quiet.blockCompareRepeat | with_reducible apply Quiet.blockIn | with_reducible apply Quiet.blockInRepeat | with_reducible apply Quiet.blockOut | with_reducible apply Quiet.blockOutRepeat | with_reducible apply Quiet.rotXyd | with_reducible apply Quiet.resXyd | with_reducible apply Quiet.setXyd | with_reducible apply Quiet.bitXyd)

theorem Quiet.ccf (hq : Quiet s t) : Quiet s (Sys2Proof.Machine.ccf t) := by
  unfold Sys2Proof.Machine.ccf
  dsimp only
  repeat (first | with_reducible exact hq | with_reducible apply Quiet.setPc | with_reducible apply Quiet.setWz | with_reducible apply Quiet.setSp | with_reducible apply Quiet.setReg | with_reducible apply Quiet.setA | with_reducible apply Quiet.setF | with_reducible apply Quiet.setB | with_reducible apply Quiet.setBc | with_reducible apply Quiet.setDe | with_reducible apply Quiet.setHl | with_reducible apply Quiet.setAf | with_reducible apply Quiet.setPair | with_reducible apply Quiet.setQPair | with_reducible apply Quiet.setXy | with_reducible apply Quiet.setHalf | with_reducible apply Quiet.alu | with_reducible apply Quiet.incF | with_reducible apply Quiet.decF | with_reducible apply Quiet.rotA | with_reducible apply Quiet.tick | with_reducible apply Quiet.rd | with_reducible apply Quiet.imm8 | with_reducible apply Quiet.wr | with_reducible apply Quiet.note | with_reducible apply Quiet.portRd | with_reducible apply Quiet.portWr | with_reducible apply Quiet.imm16 | with_reducible apply Quiet.push16 | with_reducible apply Quiet.pop16 | with_reducible apply Quiet.takenDelay | with_reducible apply Quiet.loadA | with_reducible apply Quiet.storeA | with_reducible apply Quiet.readWord | with_reducible apply Quiet.writeWord | with_reducible apply Quiet.exchangeTop | with_reducible apply Quiet.incMem | with_reducible apply Quiet.decMem | with_reducible apply Quiet.jumpRelative | with_reducible apply Quiet.callTo | with_reducible apply Quiet.returnTo | with_reducible apply Quiet.readDisplacement | with_reducible apply Quiet.rdModify | with_reducible apply Quiet.rotMem | with_reducible apply Quiet.atDisplacement | with_reducible apply Quiet.inputC | with_reducible apply Quiet.loadIR | with_reducible apply Quiet.nibbleRotate | with_reducible apply Quiet.repeatWz | with_reducible apply Quiet.repeatPc | with_reducible apply Quiet.blockLoad | with_reducible apply Quiet.blockLoadRepeat | with_reducible apply Quiet.blockCompare | with_reducible apply Quiet.blockCompareRepeat | with_reducible apply Quiet.blockIn | with_reducible apply Quiet.blockInRepeat | with_reducible apply Quiet.blockOut | with_reducible apply Quiet.blockOutRepeat | with_reducible apply Quiet.rotXyd | with_reducible apply Quiet.resXyd | with_reducible apply Quiet.setXyd | with_reducible apply Quiet.bitXyd)

theorem Quiet.rlca (hq : Quiet s t) : Quiet s (Sys2Proof.Machine.rlca t) := by
  unfold Sys2Proof.Machine.rlca
  repeat (first | with_reducible exact hq | with_reducible apply Quiet.setPc | with_reducible apply Quiet.setWz | with_reducible apply Quiet.setSp | with_reducible apply Quiet.setReg | with_reducible apply Quiet.setA | with_reducible apply Quiet.setF | with_reducible apply Quiet.setB | with_reducible apply Quiet.setBc | with_reducible apply Quiet.setDe | with_reducible apply Quiet.setHl | with_reducible apply Quiet.setAf | with_reducible apply Quiet.setPair | with_reducible apply Quiet.setQPair | with_reducible apply Quiet.setXy | with_reducible apply Quiet.setHalf | with_reducible apply Quiet.alu | with_reducible apply Quiet.incF | with_reducible apply Quiet.decF | with_reducible apply Quiet.rotA | with_reducible apply Quiet.tick | with_reducible apply Quiet.rd | with_reducible apply Quiet.imm8 | with_reducible apply Quiet.wr | with_reducible apply Quiet.note | with_reducible apply Quiet.portRd | with_reducible apply Quiet.portWr | with_reducible apply Quiet.imm16 | with_reducible apply Quiet.push16 | with_reducible apply Quiet.pop16 | with_reducible apply Quiet.takenDelay | with_reducible apply Quiet.loadA | with_reducible apply Quiet.storeA | with_reducible apply Quiet.readWord | with_reducible apply Quiet.writeWord | with_reducible apply Quiet.exchangeTop | with_reducible apply Quiet.incMem | with_reducible apply Quiet.decMem | with_reducible apply Quiet.jumpRelative | with_reducible apply Quiet.callTo | with_reducible apply Quiet.returnTo | with_reducible apply Quiet.readDisplacement | with_reducible apply Quiet.rdModify | with_reducible apply Quiet.rotMem | with_reducible apply Quiet.atDisplacement | with_reducible apply Quiet.inputC | with_reducible apply Quiet.loadIR | with_reducible apply Quiet.nibbleRotate | with_reducible apply Quiet.repeatWz | with_reducible apply Quiet.repeatPc | with_reducible apply Quiet.blockLoad | with_reducible apply Quiet.blockLoadRepeat | with_reducible apply Quiet.blockCompare | with_reducible apply Quiet.blockCompareRepeat | with_reducible apply Quiet.blockIn | with_reducible apply Quiet.blockInRepeat | with_reducible apply Quiet.blockOut | with_reducible apply Quiet.blockOutRepeat | with_reducible apply Quiet.rotXyd | with_reducible apply Quiet.resXyd | with_reducible apply Quiet.setXyd | with_reducible apply Quiet.bitXyd)

theorem Quiet.rrca (hq : Quiet s t) : Quiet s (Sys2Proof.Machine.rrca t) := by
  unfold Sys2Proof.Machine.rrca
  repeat (first | with_reducible exact hq | with_reducible apply Quiet.setPc | with_reducible apply Quiet.setWz | with_reducible apply Quiet.setSp | with_reducible apply Quiet.setReg | with_reducible apply Quiet.setA | with_reducible apply Quiet.setF | with_reducible apply Quiet.setB | with_reducible apply Quiet.setBc | with_reducible apply Quiet.setDe | with_reducible apply Quiet.setHl | with_reducible apply Quiet.setAf | with_reducible apply Quiet.setPair | with_reducible apply Quiet.setQPair | with_reducible apply Quiet.setXy | with_reducible apply Quiet.setHalf | with_reducible apply Quiet.alu | with_reducible apply Quiet.incF | with_reducible apply Quiet.decF | with_reducible apply Quiet.rotA | with_reducible apply Quiet.tick | with_reducible apply Quiet.rd | with_reducible apply Quiet.imm8 | with_reducible apply Quiet.wr | with_reducible apply Quiet.note | with_reducible apply Quiet.portRd | with_reducible apply Quiet.portWr | with_reducible apply Quiet.imm16 | with_reducible apply Quiet.push16 | with_reducible apply Quiet.pop16 | with_reducible apply Quiet.takenDelay | with_reducible apply Quiet.loadA | with_reducible apply Quiet.storeA | with_reducible apply Quiet.readWord | with_reducible apply Quiet.writeWord | with_reducible apply Quiet.exchangeTop | with_reducible apply Quiet.incMem | with_reducible apply Quiet.decMem | with_reducible apply Quiet.jumpRelative | with_reducible apply Quiet.callTo | with_reducible apply Quiet.returnTo | with_reducible apply Quiet.readDisplacement | with_reducible apply Quiet.rdModify | with_reducible apply Quiet.rotMem | with_reducible apply Quiet.atDisplacement | with_reducible apply Quiet.inputC | with_reducible apply Quiet.loadIR | with_reducible apply Quiet.nibbleRotate | with_reducible apply Quiet.repeatWz | with_reducible apply Quiet.repeatPc | with_reducible apply Quiet.blockLoad | with_reducible apply Quiet.blockLoadRepeat | with_reducible apply Quiet.blockCompare | with_reducible apply Quiet.blockCompareRepeat | with_reducible apply Quiet.blockIn | with_reducible apply Quiet.blockInRepeat | with_reducible apply Quiet.blockOut | with_reducible apply Quiet.blockOutRepeat | with_reducible apply Quiet.rotXyd | with_reducible apply Quiet.resXyd | with_reducible apply Quiet.setXyd | with_reducible apply Quiet.bitXyd)

theorem Quiet.rla (hq : Quiet s t) : Quiet s (Sys2Proof.Machine.rla t) := by
  unfold Sys2Proof.Machine.rla
  repeat (first | with_reducible exact hq | with_reducible apply Quiet.setPc | with_reducible apply Quiet.setWz | with_reducible apply Quiet.setSp | with_reducible apply Quiet.setReg | with_reducible apply Quiet.setA | with_reducible apply Quiet.setF | with_reducible apply Quiet.setB | with_reducible apply Quiet.setBc | with_reducible apply Quiet.setDe | with_reducible apply Quiet.setHl | with_reducible apply Quiet.setAf | with_reducible apply Quiet.setPair | with_reducible apply Quiet.setQPair | with_reducible apply Quiet.setXy | with_reducible apply Quiet.setHalf | with_reducible apply Quiet.alu | with_reducible apply Quiet.incF | with_reducible apply Quiet.decF | with_reducible apply Quiet.rotA | with_reducible apply Quiet.tick | with_reducible apply Quiet.rd | with_reducible apply Quiet.imm8 | with_reducible apply Quiet.wr | with_reducible apply Quiet.note | with_reducible apply Quiet.portRd | with_reducible apply Quiet.portWr | with_reducible apply Quiet.imm16 | with_reducible apply Quiet.push16 | with_reducible apply Quiet.pop16 | with_reducible apply Quiet.takenDelay | with_reducible apply Quiet.loadA | with_reducible apply Quiet.storeA | with_reducible apply Quiet.readWord | with_reducible apply Quiet.writeWord | with_reducible apply Quiet.exchangeTop | with_reducible apply Quiet.incMem | with_reducible apply Quiet.decMem | with_reducible apply Quiet.jumpRelative | with_reducible apply Quiet.callTo | with_reducible apply Quiet.returnTo | with_reducible apply Quiet.readDisplacement | with_reducible apply Quiet.rdModify | with_reducible apply Quiet.rotMem | with_reducible apply Quiet.atDisplacement | with_reducible apply Quiet.inputC | with_reducible apply Quiet.loadIR | with_reducible apply Quiet.nibbleRotate | with_reducible apply Quiet.repeatWz | with_reducible apply Quiet.repeatPc | with_reducible apply Quiet.blockLoad | with_reducible apply Quiet.blockLoadRepeat | with_reducible apply Quiet.blockCompare | with_reducible apply Quiet.blockCompareRepeat | with_reducible apply Quiet.blockIn | with_reducible apply Quiet.blockInRepeat | with_reducible apply Quiet.blockOut | with_reducible apply Quiet.blockOutRepeat | with_reducible apply Quiet.rotXyd | with_reducible apply Quiet.resXyd | with_reducible apply Quiet.setXyd | with_reducible apply Quiet.bitXyd)

theorem Quiet.rra (hq : Quiet s t) : Quiet s (Sys2Proof.Machine.rra t) := by
  unfold Sys2Proof.Machine.rra
  repeat (first | with_reducible exact hq | with_reducible apply Quiet.setPc | with_reducible apply Quiet.setWz | with_reducible apply Quiet.setSp | with_reducible apply Quiet.setReg | with_reducible apply Quiet.setA | with_reducible apply Quiet.setF | with_reducible apply Quiet.setB | with_reducible apply Quiet.setBc | with_reducible apply Quiet.setDe | with_reducible apply Quiet.setHl | with_reducible apply Quiet.setAf | with_reducible apply Quiet.setPair | with_reducible apply Quiet.setQPair | with_reducible apply Quiet.setXy | with_reducible apply Quiet.setHalf | with_reducible apply Quiet.alu | with_reducible apply Quiet.incF | with_reducible apply Quiet.decF | with_reducible apply Quiet.rotA | with_reducible apply Quiet.tick | with_reducible apply Quiet.rd | with_reducible apply Quiet.imm8 | with_reducible apply Quiet.wr | with_reducible apply Quiet.note | with_reducible apply Quiet.portRd | with_reducible apply Quiet.portWr | with_reducible apply Quiet.imm16 | with_reducible apply Quiet.push16 | with_reducible apply Quiet.pop16 | with_reducible apply Quiet.takenDelay | with_reducible apply Quiet.loadA | with_reducible apply Quiet.storeA | with_reducible apply Quiet.readWord | with_reducible apply Quiet.writeWord | with_reducible apply Quiet.exchangeTop | with_reducible apply Quiet.incMem | with_reducible apply Quiet.decMem | with_reducible apply Quiet.jumpRelative | with_reducible apply Quiet.callTo | with_reducible apply Quiet.returnTo | with_reducible apply Quiet.readDisplacement | with_reducible apply Quiet.rdModify | with_reducible apply Quiet.rotMem | with_reducible apply Quiet.atDisplacement | with_reducible apply Quiet.inputC | with_reducible apply Quiet.loadIR | with_reducible apply Quiet.nibbleRotate | with_reducible apply Quiet.repeatWz | with_reducible apply Quiet.repeatPc | with_reducible apply Quiet.blockLoad | with_reducible apply Quiet.blockLoadRepeat | with_reducible apply Quiet.blockCompare | with_reducible apply Quiet.blockCompareRepeat | with_reducible apply Quiet.blockIn | with_reducible apply Quiet.blockInRepeat | with_reducible apply Quiet.blockOut | with_reducible apply Quiet.blockOutRepeat | with_reducible apply Quiet.rotXyd | with_reducible apply Quiet.resXyd | with_reducible apply Quiet.setXyd | with_reducible apply Quiet.bitXyd)

theorem Quiet.addHl (p : Pair) (hq : Quiet s t) : Quiet s (Sys2Proof.Machine.addHl p t) := by
  unfold Sys2Proof.Machine.addHl
  dsimp only
  repeat (first | with_reducible exact hq | with_reducible apply Quiet.setPc | with_reducible apply Quiet.setWz | with_reducible apply Quiet.setSp | with_reducible apply Quiet.setReg | with_reducible apply Quiet.setA | with_reducible apply Quiet.setF | with_reducible apply Quiet.setB | with_reducible apply Quiet.setBc | with_reducible apply Quiet.setDe | with_reducible apply Quiet.setHl | with_reducible apply Quiet.setAf | with_reducible apply Quiet.setPair | with_reducible apply Quiet.setQPair | with_reducible apply Quiet.setXy | with_reducible apply Quiet.setHalf | with_reducible apply Quiet.alu | with_reducible apply Quiet.incF | with_reducible apply Quiet.decF | with_reducible apply Quiet.rotA | with_reducible apply Quiet.tick | with_reducible apply Quiet.rd | with_reducible apply Quiet.imm8 | with_reducible apply Quiet.wr | with_reducible apply Quiet.note | with_reducible apply Quiet.portRd | with_reducible apply Quiet.portWr | with_reducible apply Quiet.imm16 | with_reducible apply Quiet.push16 | with_reducible apply Quiet.pop16 | with_reducible apply Quiet.takenDelay | with_reducible apply Quiet.loadA | with_reducible apply Quiet.storeA | with_reducible apply Quiet.readWord | with_reducible apply Quiet.writeWord | with_reducible apply Quiet.exchangeTop | with_reducible apply Quiet.incMem | with_reducible apply Quiet.decMem | with_reducible apply Quiet.jumpRelative | with_reducible apply Quiet.callTo | with_reducible apply Quiet.returnTo | with_reducible apply Quiet.readDisplacement | with_reducible apply Quiet.rdModify | with_reducible apply Quiet.rotMem | with_reducible apply Quiet.atDisplacement | with_reducible apply Quiet.inputC | with_reducible apply Quiet.loadIR | with_reducible apply Quiet.nibbleRotate | with_reducible apply Quiet.repeatWz | with_reducible apply Quiet.repeatPc | with_reducible apply Quiet.blockLoad | with_reducible apply Quiet.blockLoadRepeat | with_reducible apply Quiet.blockCompare | with_reducible apply Quiet.blockCompareRepeat | with_reducible apply Quiet.blockIn | with_reducible apply Quiet.blockInRepeat | with_reducible apply Quiet.blockOut | with_reducible apply Quiet.blockOutRepeat | with_reducible apply Quiet.rotXyd | with_reducible apply Quiet.resXyd | with_reducible apply Quiet.setXyd | with_reducible apply Quiet.bitXyd)

theorem Quiet.incPair (p : Pair) (hq : Quiet s t) : Quiet s (Sys2Proof.Machine.incPair p t) := by
  unfold Sys2Proof.Machine.incPair
  repeat (first | with_reducible exact hq | with_reducible apply Quiet.setPc | with_reducible apply Quiet.setWz | with_reducible apply Quiet.setSp | with_reducible apply Quiet.setReg | with_reducible apply Quiet.setA | with_reducible apply Quiet.setF | with_reducible apply Quiet.setB | with_reducible apply Quiet.setBc | with_reducible apply Quiet.setDe | with_reducible apply Quiet.setHl | with_reducible apply Quiet.setAf | with_reducible apply Quiet.setPair | with_reducible apply Quiet.setQPair | with_reducible apply Quiet.setXy | with_reducible apply Quiet.setHalf | with_reducible apply Quiet.alu | with_reducible apply Quiet.incF | with_reducible apply Quiet.decF | with_reducible apply Quiet.rotA | with_reducible apply Quiet.tick | with_reducible apply Quiet.rd | with_reducible apply Quiet.imm8 | with_reducible apply Quiet.wr | with_reducible apply Quiet.note | with_reducible apply Quiet.portRd | with_reducible apply Quiet.portWr | with_reducible apply Quiet.imm16 | with_reducible apply Quiet.push16 | with_reducible apply Quiet.pop16 | with_reducible apply Quiet.takenDelay | with_reducible apply Quiet.loadA | with_reducible apply Quiet.storeA | with_reducible apply Quiet.readWord | with_reducible apply Quiet.writeWord | with_reducible apply Quiet.exchangeTop | with_reducible apply Quiet.incMem | with_reducible apply Quiet.decMem | with_reducible apply Quiet.jumpRelative | with_reducible apply Quiet.callTo | with_reducible apply Quiet.returnTo | with_reducible apply Quiet.readDisplacement | with_reducible apply Quiet.rdModify | with_reducible apply Quiet.rotMem | with_reducible apply Quiet.atDisplacement | with_reducible apply Quiet.inputC | with_reducible apply Quiet.loadIR | with_reducible apply Quiet.nibbleRotate | with_reducible apply Quiet.repeatWz | with_reducible apply Quiet.repeatPc | with_reducible apply Quiet.blockLoad | with_reducible apply Quiet.blockLoadRepeat | with_reducible apply Quiet.blockCompare | with_reducible apply Quiet.blockCompareRepeat | with_reducible apply Quiet.blockIn | with_reducible apply Quiet.blockInRepeat | with_reducible apply Quiet.blockOut | with_reducible apply Quiet.blockOutRepeat | with_reducible apply Quiet.rotXyd | with_reducible apply Quiet.resXyd | with_reducible apply Quiet.setXyd | with_reducible apply Quiet.bitXyd)

theorem Quiet.decPair (p : Pair) (hq : Quiet s t) : Quiet s (Sys2Proof.Machine.decPair p t) := by
  unfold Sys2Proof.Machine.decPair
  repeat (first | with_reducible exact hq | with_reducible apply Quiet.setPc | with_reducible apply Quiet.setWz | with_reducible apply Quiet.setSp | with_reducible apply Quiet.setReg | with_reducible apply Quiet.setA | with_reducible apply Quiet.setF | with_reducible apply Quiet.setB | with_reducible apply Quiet.setBc | with_reducible apply Quiet.setDe | with_reducible apply Quiet.setHl | with_reducible apply Quiet.setAf | with_reducible apply Quiet.setPair | with_reducible apply Quiet.setQPair | with_reducible apply Quiet.setXy | with_reducible apply Quiet.setHalf | with_reducible apply Quiet.alu | with_reducible apply Quiet.incF | with_reducible apply Quiet.decF | with_reducible apply Quiet.rotA | with_reducible apply Quiet.tick | with_reducible apply Quiet.rd | with_reducible apply Quiet.imm8 | with_reducible apply Quiet.wr | with_reducible apply Quiet.note | with_reducible apply Quiet.portRd | with_reducible apply Quiet.portWr | with_reducible apply Quiet.imm16 | with_reducible apply Quiet.push16 | with_reducible apply Quiet.pop16 | with_reducible apply Quiet.takenDelay | with_reducible apply Quiet.loadA | with_reducible apply Quiet.storeA | with_reducible apply Quiet.readWord | with_reducible apply Quiet.writeWord | with_reducible apply Quiet.exchangeTop | with_reducible apply Quiet.incMem | with_reducible apply Quiet.decMem | with_reducible apply Quiet.jumpRelative | with_reducible apply Quiet.callTo | with_reducible apply Quiet.returnTo | with_reducible apply Quiet.readDisplacement | with_reducible apply Quiet.rdModify | with_reducible apply Quiet.rotMem | with_reducible apply Quiet.atDisplacement | with_reducible apply Quiet.inputC | with_reducible apply Quiet.loadIR | with_reducible apply Quiet.nibbleRotate | with_reducible apply Quiet.repeatWz | with_reducible apply Quiet.repeatPc | with_reducible apply Quiet.blockLoad | with_reducible apply Quiet.blockLoadRepeat | with_reducible apply Quiet.blockCompare | with_reducible apply Quiet.blockCompareRepeat | with_reducible apply Quiet.blockIn | with_reducible apply Quiet.blockInRepeat | with_reducible apply Quiet.blockOut | with_reducible apply Quiet.blockOutRepeat | with_reducible apply Quiet.rotXyd | with_reducible apply Quiet.resXyd | with_reducible apply Quiet.setXyd | with_reducible apply Quiet.bitXyd)

theorem Quiet.jp (hq : Quiet s t) : Quiet s (Sys2Proof.Machine.jp t) := by
  unfold Sys2Proof.Machine.jp
  dsimp only
  repeat (first | with_reducible exact hq | with_reducible apply Quiet.setPc | with_reducible apply Quiet.setWz | with_reducible apply Quiet.setSp | with_reducible apply Quiet.setReg | with_reducible apply Quiet.setA | with_reducible apply Quiet.setF | with_reducible apply Quiet.setB | with_reducible apply Quiet.setBc | with_reducible apply Quiet.setDe | with_reducible apply Quiet.setHl | with_reducible apply Quiet.setAf | with_reducible apply Quiet.setPair | with_reducible apply Quiet.setQPair | with_reducible apply Quiet.setXy | with_reducible apply Quiet.setHalf | with_reducible apply Quiet.alu | with_reducible apply Quiet.incF | with_reducible apply Quiet.decF | with_reducible apply Quiet.rotA | with_reducible apply Quiet.tick | with_reducible apply Quiet.rd | with_reducible apply Quiet.imm8 | with_reducible apply Quiet.wr | with_reducible apply Quiet.note | with_reducible apply Quiet.portRd | with_reducible apply Quiet.portWr | with_reducible apply Quiet.imm16 | with_reducible apply Quiet.push16 | with_reducible apply Quiet.pop16 | with_reducible apply Quiet.takenDelay | with_reducible apply Quiet.loadA | with_reducible apply Quiet.storeA | with_reducible apply Quiet.readWord | with_reducible apply Quiet.writeWord | with_reducible apply Quiet.exchangeTop | with_reducible apply Quiet.incMem | with_reducible apply Quiet.decMem | with_reducible apply Quiet.jumpRelative | with_reducible apply Quiet.callTo | with_reducible apply Quiet.returnTo | with_reducible apply Quiet.readDisplacement | with_reducible apply Quiet.rdModify | with_reducible apply Quiet.rotMem | with_reducible apply Quiet.atDisplacement | with_reducible apply Quiet.inputC | with_reducible apply Quiet.loadIR | with_reducible apply Quiet.nibbleRotate | with_reducible apply Quiet.repeatWz | with_reducible apply Quiet.repeatPc | with_reducible apply Quiet.blockLoad | with_reducible apply Quiet.blockLoadRepeat | with_reducible apply Quiet.blockCompare | with_reducible apply Quiet.blockCompareRepeat | with_reducible apply Quiet.blockIn | with_reducible apply Quiet.blockInRepeat | with_reducible apply Quiet.blockOut | with_reducible apply Quiet.blockOutRepeat | with_reducible apply Quiet.rotXyd | with_reducible apply Quiet.resXyd | with_reducible apply Quiet.setXyd | with_reducible apply Quiet.bitXyd)

theorem Quiet.jpCc (cc : Cond) (hq : Quiet s t) : Quiet s (Sys2Proof.Machine.jpCc cc t) := by
  unfold Sys2Proof.Machine.jpCc
  dsimp only
  split
  all_goals repeat (first | with_reducible exact hq | with_reducible apply Quiet.setPc | with_reducible apply Quiet.setWz | with_reducible apply Quiet.setSp | with_reducible apply Quiet.setReg | with_reducible apply Quiet.setA | with_reducible apply Quiet.setF | with_reducible apply Quiet.setB | with_reducible apply Quiet.setBc | with_reducible apply Quiet.setDe | with_reducible apply Quiet.setHl | with_reducible apply Quiet.setAf | with_reducible apply Quiet.setPair | with_reducible apply Quiet.setQPair | with_reducible apply Quiet.setXy | with_reducible apply Quiet.setHalf | with_reducible apply Quiet.alu | with_reducible apply Quiet.incF | with_reducible apply Quiet.decF | with_reducible apply Quiet.rotA | with_reducible apply Quiet.tick | with_reducible apply Quiet.rd | with_reducible apply Quiet.imm8 | with_reducible apply Quiet.wr | with_reducible apply Quiet.note | with_reducible apply Quiet.portRd | with_reducible apply Quiet.portWr | with_reducible apply Quiet.imm16 | with_reducible apply Quiet.push16 | with_reducible apply Quiet.pop16 | with_reducible apply Quiet.takenDelay | with_reducible apply Quiet.loadA | with_reducible apply Quiet.storeA | with_reducible apply Quiet.readWord | with_reducible apply Quiet.writeWord | with_reducible apply Quiet.exchangeTop | with_reducible apply Quiet.incMem | with_reducible apply Quiet.decMem | with_reducible apply Quiet.jumpRelative | with_reducible apply Quiet.callTo | with_reducible apply Quiet.returnTo | with_reducible apply Quiet.readDisplacement | with_reducible apply Quiet.rdModify | with_reducible apply Quiet.rotMem | with_reducible apply Quiet.atDisplacement | with_reducible apply Quiet.inputC | with_reducible apply Quiet.loadIR | with_reducible apply Quiet.nibbleRotate | with_reducible apply Quiet.repeatWz | with_reducible apply Quiet.repeatPc | with_reducible apply Quiet.blockLoad | with_reducible apply Quiet.blockLoadRepeat | with_reducible apply Quiet.blockCompare | with_reducible apply Quiet.blockCompareRepeat | with_reducible apply Quiet.blockIn | with_reducible apply Quiet.blockInRepeat | with_reducible apply Quiet.blockOut | with_reducible apply Quiet.blockOutRepeat | with_reducible apply Quiet.rotXyd | with_reducible apply Quiet.resXyd | with_reducible apply Quiet.setXyd | with_reducible apply Quiet.bitXyd)

theorem Quiet.jpHl (hq : Quiet s t) : Quiet s (Sys2Proof.Machine.jpHl t) := by
  unfold Sys2Proof.Machine.jpHl
  repeat (first | with_reducible exact hq | with_reducible apply Quiet.setPc | with_reducible apply Quiet.setWz | with_reducible apply Quiet.setSp | with_reducible apply Quiet.setReg | with_reducible apply Quiet.setA | with_reducible apply Quiet.setF | with_reducible apply Quiet.setB | with_reducible apply Quiet.setBc | with_reducible apply Quiet.setDe | with_reducible apply Quiet.setHl | with_reducible apply Quiet.setAf | with_reducible apply Quiet.setPair | with_reducible apply Quiet.setQPair | with_reducible apply Quiet.setXy | with_reducible apply Quiet.setHalf | with_reducible apply Quiet.alu | with_reducible apply Quiet.incF | with_reducible apply Quiet.decF | with_reducible apply Quiet.rotA | with_reducible apply Quiet.tick | with_reducible apply Quiet.rd | with_reducible apply Quiet.imm8 | with_reducible apply Quiet.wr | with_reducible apply Quiet.note | with_reducible apply Quiet.portRd | with_reducible apply Quiet.portWr | with_reducible apply Quiet.imm16 | with_reducible apply Quiet.push16 | with_reducible apply Quiet.pop16 | with_reducible apply Quiet.takenDelay | with_reducible apply Quiet.loadA | with_reducible apply Quiet.storeA | with_reducible apply Quiet.readWord | with_reducible apply Quiet.writeWord | with_reducible apply Quiet.exchangeTop | with_reducible apply Quiet.incMem | with_reducible apply Quiet.decMem | with_reducible apply Quiet.jumpRelative | with_reducible apply Quiet.callTo | with_reducible apply Quiet.returnTo | with_reducible apply Quiet.readDisplacement | with_reducible apply Quiet.rdModify | with_reducible apply Quiet.rotMem | with_reducible apply Quiet.atDisplacement | with_reducible apply Quiet.inputC | with_reducible apply Quiet.loadIR | with_reducible apply Quiet.nibbleRotate | with_reducible apply Quiet.repeatWz | with_reducible apply Quiet.repeatPc | with_reducible apply Quiet.blockLoad | with_reducible apply Quiet.blockLoadRepeat | with_reducible apply Quiet.blockCompare | with_reducible apply Quiet.blockCompareRepeat | with_reducible apply Quiet.blockIn | with_reducible apply Quiet.blockInRepeat | with_reducible apply Quiet.blockOut | with_reducible apply Quiet.blockOutRepeat | with_reducible apply Quiet.rotXyd | with_reducible apply Quiet.resXyd | with_reducible apply Quiet.setXyd | with_reducible apply Quiet.bitXyd)

theorem Quiet.jr (hq : Quiet s t) : Quiet s (Sys2Proof.Machine.jr t) := by
  unfold Sys2Proof.Machine.jr
  repeat (first | with_reducible exact hq | with_reducible apply Quiet.setPc | with_reducible apply Quiet.setWz | with_reducible apply Quiet.setSp | with_reducible apply Quiet.setReg | with_reducible apply Quiet.setA | with_reducible apply Quiet.setF | with_reducible apply Quiet.setB | with_reducible apply Quiet.setBc | with_reducible apply Quiet.setDe | with_reducible apply Quiet.setHl | with_reducible apply Quiet.setAf | with_reducible apply Quiet.setPair | with_reducible apply Quiet.setQPair | with_reducible apply Quiet.setXy | with_reducible apply Quiet.setHalf | with_reducible apply Quiet.alu | with_reducible apply Quiet.incF | with_reducible apply Quiet.decF | with_reducible apply Quiet.rotA | with_reducible apply Quiet.tick | with_reducible apply Quiet.rd | with_reducible apply Quiet.imm8 | with_reducible apply Quiet.wr | with_reducible apply Quiet.note | with_reducible apply Quiet.portRd | with_reducible apply Quiet.portWr | with_reducible apply Quiet.imm16 | with_reducible apply Quiet.push16 | with_reducible apply Quiet.pop16 | with_reducible apply Quiet.takenDelay | with_reducible apply Quiet.loadA | with_reducible apply Quiet.storeA | with_reducible apply Quiet.readWord | with_reducible apply Quiet.writeWord | with_reducible apply Quiet.exchangeTop | with_reducible apply Quiet.incMem | with_reducible apply Quiet.decMem | with_reducible apply Quiet.jumpRelative | with_reducible apply Quiet.callTo | with_reducible apply Quiet.returnTo | with_reducible apply Quiet.readDisplacement | with_reducible apply Quiet.rdModify | with_reducible apply Quiet.rotMem | with_reducible apply Quiet.atDisplacement | with_reducible apply Quiet.inputC | with_reducible apply Quiet.loadIR | with_reducible apply Quiet.nibbleRotate | with_reducible apply Quiet.repeatWz | with_reducible apply Quiet.repeatPc | with_reducible apply Quiet.blockLoad | with_reducible apply Quiet.blockLoadRepeat | with_reducible apply Quiet.blockCompare | with_reducible apply Quiet.blockCompareRepeat | with_reducible apply Quiet.blockIn | with_reducible apply Quiet.blockInRepeat | with_reducible apply Quiet.blockOut | with_reducible apply Quiet.blockOutRepeat | with_reducible apply Quiet.rotXyd | with_reducible apply Quiet.resXyd | with_reducible apply Quiet.setXyd | with_reducible apply Quiet.bitXyd)

theorem Quiet.jrCc (cc : RelCond) (hq : Quiet s t) : Quiet s (Sys2Proof.Machine.jrCc cc t) := by
  unfold Sys2Proof.Machine.jrCc
  split
  all_goals repeat (first | with_reducible exact hq | with_reducible apply Quiet.setPc | with_reducible apply Quiet.setWz | with_reducible apply Quiet.setSp | with_reducible apply Quiet.setReg | with_reducible apply Quiet.setA | with_reducible apply Quiet.setF | with_reducible apply Quiet.setB | with_reducible apply Quiet.setBc | with_reducible apply Quiet.setDe | with_reducible apply Quiet.setHl | with_reducible apply Quiet.setAf | with_reducible apply Quiet.setPair | with_reducible apply Quiet.setQPair | with_reducible apply Quiet.setXy | with_reducible apply Quiet.setHalf | with_reducible apply Quiet.alu | with_reducible apply Quiet.incF | with_reducible apply Quiet.decF | with_reducible apply Quiet.rotA | with_reducible apply Quiet.tick | with_reducible apply Quiet.rd | with_reducible apply Quiet.imm8 | with_reducible apply Quiet.wr | with_reducible apply Quiet.note | with_reducible apply Quiet.portRd | with_reducible apply Quiet.portWr | with_reducible apply Quiet.imm16 | with_reducible apply Quiet.push16 | with_reducible apply Quiet.pop16 | with_reducible apply Quiet.takenDelay | with_reducible apply Quiet.loadA | with_reducible apply Quiet.storeA | with_reducible apply Quiet.readWord | with_reducible apply Quiet.writeWord | with_reducible apply Quiet.exchangeTop | with_reducible apply Quiet.incMem | with_reducible apply Quiet.decMem | with_reducible apply Quiet.jumpRelative | with_reducible apply Quiet.callTo | with_reducible apply Quiet.returnTo | with_reducible apply Quiet.readDisplacement | with_reducible apply Quiet.rdModify | with_reducible apply Quiet.rotMem | with_reducible apply Quiet.atDisplacement | with_reducible apply Quiet.inputC | with_reducible apply Quiet.loadIR | with_reducible apply Quiet.nibbleRotate | with_reducible apply Quiet.repeatWz | with_reducible apply Quiet.repeatPc | with_reducible apply Quiet.blockLoad | with_reducible apply Quiet.blockLoadRepeat | with_reducible apply Quiet.blockCompare | with_reducible apply Quiet.blockCompareRepeat | with_reducible apply Quiet.blockIn | with_reducible apply Quiet.blockInRepeat | with_reducible apply Quiet.blockOut | with_reducible apply Quiet.blockOutRepeat | with_reducible apply Quiet.rotXyd | with_reducible apply Quiet.resXyd | with_reducible apply Quiet.setXyd | with_reducible apply Quiet.bitXyd)

theorem Quiet.djnz (hq : Quiet s t) : Quiet s (Sys2Proof.Machine.djnz t) := by
  unfold Sys2Proof.Machine.djnz
  dsimp only
  split
  all_goals repeat (first | with_reducible exact hq | with_reducible apply Quiet.setPc | with_reducible apply Quiet.setWz | with_reducible apply Quiet.setSp | with_reducible apply Quiet.setReg | with_reducible apply Quiet.setA | with_reducible apply Quiet.setF | with_reducible apply Quiet.setB | with_reducible apply Quiet.setBc | with_reducible apply Quiet.setDe | with_reducible apply Quiet.setHl | with_reducible apply Quiet.setAf | with_reducible apply Quiet.setPair | with_reducible apply Quiet.setQPair | with_reducible apply Quiet.setXy | with_reducible apply Quiet.setHalf | with_reducible apply Quiet.alu | with_reducible apply Quiet.incF | with_reducible apply Quiet.decF | with_reducible apply Quiet.rotA | with_reducible apply Quiet.tick | with_reducible apply Quiet.rd | with_reducible apply Quiet.imm8 | with_reducible apply Quiet.wr | with_reducible apply Quiet.note | with_reducible apply Quiet.portRd | with_reducible apply Quiet.portWr | with_reducible apply Quiet.imm16 | with_reducible apply Quiet.push16 | with_reducible apply Quiet.pop16 | with_reducible apply Quiet.takenDelay | with_reducible apply Quiet.loadA | with_reducible apply Quiet.storeA | with_reducible apply Quiet.readWord | with_reducible apply Quiet.writeWord | with_reducible apply Quiet.exchangeTop | with_reducible apply Quiet.incMem | with_reducible apply Quiet.decMem | with_reducible apply Quiet.jumpRelative | with_reducible apply Quiet.callTo | with_reducible apply Quiet.returnTo | with_reducible apply Quiet.readDisplacement | with_reducible apply Quiet.rdModify | with_reducible apply Quiet.rotMem | with_reducible apply Quiet.atDisplacement | with_reducible apply Quiet.inputC | with_reducible apply Quiet.loadIR | with_reducible apply Quiet.nibbleRotate | with_reducible apply Quiet.repeatWz | with_reducible apply Quiet.repeatPc | with_reducible apply Quiet.blockLoad | with_reducible apply Quiet.blockLoadRepeat | with_reducible apply Quiet.blockCompare | with_reducible apply Quiet.blockCompareRepeat | with_reducible apply Quiet.blockIn | with_reducible apply Quiet.blockInRepeat | with_reducible apply Quiet.blockOut | with_reducible apply Quiet.blockOutRepeat | with_reducible apply Quiet.rotXyd | with_reducible apply Quiet.resXyd | with_reducible apply Quiet.setXyd | with_reducible apply Quiet.bitXyd)

theorem Quiet.call (hq : Quiet s t) : Quiet s (Sys2Proof.Machine.call t) := by
  unfold Sys2Proof.Machine.call
  dsimp only
  repeat (first | with_reducible exact hq | with_reducible apply Quiet.setPc | with_reducible apply Quiet.setWz | with_reducible apply Quiet.setSp | with_reducible apply Quiet.setReg | with_reducible apply Quiet.setA | with_reducible apply Quiet.setF | with_reducible apply Quiet.setB | with_reducible apply Quiet.setBc | with_reducible apply Quiet.setDe | with_reducible apply Quiet.setHl | with_reducible apply Quiet.setAf | with_reducible apply Quiet.setPair | with_reducible apply Quiet.setQPair | with_reducible apply Quiet.setXy | with_reducible apply Quiet.setHalf | with_reducible apply Quiet.alu | with_reducible apply Quiet.incF | with_reducible apply Quiet.decF | with_reducible apply Quiet.rotA | with_reducible apply Quiet.tick | with_reducible apply Quiet.rd | with_reducible apply Quiet.imm8 | with_reducible apply Quiet.wr | with_reducible apply Quiet.note | with_reducible apply Quiet.portRd | with_reducible apply Quiet.portWr | with_reducible apply Quiet.imm16 | with_reducible apply Quiet.push16 | with_reducible apply Quiet.pop16 | with_reducible apply Quiet.takenDelay | with_reducible apply Quiet.loadA | with_reducible apply Quiet.storeA | with_reducible apply Quiet.readWord | with_reducible apply Quiet.writeWord | with_reducible apply Quiet.exchangeTop | with_reducible apply Quiet.incMem | with_reducible apply Quiet.decMem | with_reducible apply Quiet.jumpRelative | with_reducible apply Quiet.callTo | with_reducible apply Quiet.returnTo | with_reducible apply Quiet.readDisplacement | with_reducible apply Quiet.rdModify | with_reducible apply Quiet.rotMem | with_reducible apply Quiet.atDisplacement | with_reducible apply Quiet.inputC | with_reducible apply Quiet.loadIR | with_reducible apply Quiet.nibbleRotate | with_reducible apply Quiet.repeatWz | with_reducible apply Quiet.repeatPc | with_reducible apply Quiet.blockLoad | with_reducible apply Quiet.blockLoadRepeat | with_reducible apply Quiet.blockCompare | with_reducible apply Quiet.blockCompareRepeat | with_reducible apply Quiet.blockIn | with_reducible apply Quiet.blockInRepeat | with_reducible apply Quiet.blockOut | with_reducible apply Quiet.blockOutRepeat | with_reducible apply Quiet.rotXyd | with_reducible apply Quiet.resXyd | with_reducible apply Quiet.setXyd | with_reducible apply Quiet.bitXyd)

theorem Quiet.callCc (cc : Cond) (hq : Quiet s t) : Quiet s (Sys2Proof.Machine.callCc cc t) := by
  unfold Sys2Proof.Machine.callCc
  dsimp only
  split
  all_goals repeat (first | with_reducible exact hq | with_reducible apply Quiet.setPc | with_reducible apply Quiet.setWz | with_reducible apply Quiet.setSp | with_reducible apply Quiet.setReg | with_reducible apply Quiet.setA | with_reducible apply Quiet.setF | with_reducible apply Quiet.setB | with_reducible apply Quiet.setBc | with_reducible apply Quiet.setDe | with_reducible apply Quiet.setHl | with_reducible apply Quiet.setAf | with_reducible apply Quiet.setPair | with_reducible apply Quiet.setQPair | with_reducible apply Quiet.setXy | with_reducible apply Quiet.setHalf | with_reducible apply Quiet.alu | with_reducible apply Quiet.incF | with_reducible apply Quiet.decF | with_reducible apply Quiet.rotA | with_reducible apply Quiet.tick | with_reducible apply Quiet.rd | with_reducible apply Quiet.imm8 | with_reducible apply Quiet.wr | with_reducible apply Quiet.note | with_reducible apply Quiet.portRd | with_reducible apply Quiet.portWr | with_reducible apply Quiet.imm16 | with_reducible apply Quiet.push16 | with_reducible apply Quiet.pop16 | with_reducible apply Quiet.takenDelay | with_reducible apply Quiet.loadA | with_reducible apply Quiet.storeA | with_reducible apply Quiet.readWord | with_reducible apply Quiet.writeWord | with_reducible apply Quiet.exchangeTop | with_reducible apply Quiet.incMem | with_reducible apply Quiet.decMem | with_reducible apply Quiet.jumpRelative | with_reducible apply Quiet.callTo | with_reducible apply Quiet.returnTo | with_reducible apply Quiet.readDisplacement | with_reducible apply Quiet.rdModify | with_reducible apply Quiet.rotMem | with_reducible apply Quiet.atDisplacement | with_reducible apply Quiet.inputC | with_reducible apply Quiet.loadIR | with_reducible apply Quiet.nibbleRotate | with_reducible apply Quiet.repeatWz | with_reducible apply Quiet.repeatPc | with_reducible apply Quiet.blockLoad | with_reducible apply Quiet.blockLoadRepeat | with_reducible apply Quiet.blockCompare | with_reducible apply Quiet.blockCompareRepeat | with_reducible apply Quiet.blockIn | with_reducible apply Quiet.blockInRepeat | with_reducible apply Quiet.blockOut | with_reducible apply Quiet.blockOutRepeat | with_reducible apply Quiet.rotXyd | with_reducible apply Quiet.resXyd | with_reducible apply Quiet.setXyd | with_reducible apply Quiet.bitXyd)

theorem Quiet.ret (hq : Quiet s t) : Quiet s (Sys2Proof.Machine.ret t) := by
  unfold Sys2Proof.Machine.ret
  repeat (first | with_reducible exact hq | with_reducible apply Quiet.setPc | with_reducible apply Quiet.setWz | with_reducible apply Quiet.setSp | with_reducible apply Quiet.setReg | with_reducible apply Quiet.setA | with_reducible apply Quiet.setF | with_reducible apply Quiet.setB | with_reducible apply Quiet.setBc | with_reducible apply Quiet.setDe | with_reducible apply Quiet.setHl | with_reducible apply Quiet.setAf | with_reducible apply Quiet.setPair | with_reducible apply Quiet.setQPair | with_reducible apply Quiet.setXy | with_reducible apply Quiet.setHalf | with_reducible apply Quiet.alu | with_reducible apply Quiet.incF | with_reducible apply Quiet.decF | with_reducible apply Quiet.rotA | with_reducible apply Quiet.tick | with_reducible apply Quiet.rd | with_reducible apply Quiet.imm8 | with_reducible apply Quiet.wr | with_reducible apply Quiet.note | with_reducible apply Quiet.portRd | with_reducible apply Quiet.portWr | with_reducible apply Quiet.imm16 | with_reducible apply Quiet.push16 | with_reducible apply Quiet.pop16 | with_reducible apply Quiet.takenDelay | with_reducible apply Quiet.loadA | with_reducible apply Quiet.storeA | with_reducible apply Quiet.readWord | with_reducible apply Quiet.writeWord | with_reducible apply Quiet.exchangeTop | with_reducible apply Quiet.incMem | with_reducible apply Quiet.decMem | with_reducible apply Quiet.jumpRelative | with_reducible apply Quiet.callTo | with_reducible apply Quiet.returnTo | with_reducible apply Quiet.readDisplacement | with_reducible apply Quiet.rdModify | with_reducible apply Quiet.rotMem | with_reducible apply Quiet.atDisplacement | with_reducible apply Quiet.inputC | with_reducible apply Quiet.loadIR | with_reducible apply Quiet.nibbleRotate | with_reducible apply Quiet.repeatWz | with_reducible apply Quiet.repeatPc | with_reducible apply Quiet.blockLoad | with_reducible apply Quiet.blockLoadRepeat | with_reducible apply Quiet.blockCompare | with_reducible apply Quiet.blockCompareRepeat | with_reducible apply Quiet.blockIn | with_reducible apply Quiet.blockInRepeat | with_reducible apply Quiet.blockOut | with_reducible apply Quiet.blockOutRepeat | with_reducible apply Quiet.rotXyd | with_reducible apply Quiet.resXyd | with_reducible apply Quiet.setXyd | with_reducible apply Quiet.bitXyd)

theorem Quiet.retCc (cc : Cond) (hq : Quiet s t) : Quiet s (Sys2Proof.Machine.retCc cc t) := by
  unfold Sys2Proof.Machine.retCc
  dsimp only
  split
  all_goals repeat (first | with_reducible exact hq | with_reducible apply Quiet.setPc | with_reducible apply Quiet.setWz | with_reducible apply Quiet.setSp | with_reducible apply Quiet.setReg | with_reducible apply Quiet.setA | with_reducible apply Quiet.setF | with_reducible apply Quiet.setB | with_reducible apply Quiet.setBc | with_reducible apply Quiet.setDe | with_reducible apply Quiet.setHl | with_reducible apply Quiet.setAf | with_reducible apply Quiet.setPair | with_reducible apply Quiet.setQPair | with_reducible apply Quiet.setXy | with_reducible apply Quiet.setHalf | with_reducible apply Quiet.alu | with_reducible apply Quiet.incF | with_reducible apply Quiet.decF | with_reducible apply Quiet.rotA | with_reducible apply Quiet.tick | with_reducible apply Quiet.rd | with_reducible apply Quiet.imm8 | with_reducible apply Quiet.wr | with_reducible apply Quiet.note | with_reducible apply Quiet.portRd | with_reducible apply Quiet.portWr | with_reducible apply Quiet.imm16 | with_reducible apply Quiet.push16 | with_reducible apply Quiet.pop16 | with_reducible apply Quiet.takenDelay | with_reducible apply Quiet.loadA | with_reducible apply Quiet.storeA | with_reducible apply Quiet.readWord | with_reducible apply Quiet.writeWord | with_reducible apply Quiet.exchangeTop | with_reducible apply Quiet.incMem | with_reducible apply Quiet.decMem | with_reducible apply Quiet.jumpRelative | with_reducible apply Quiet.callTo | with_reducible apply Quiet.returnTo | with_reducible apply Quiet.readDisplacement | with_reducible apply Quiet.rdModify | with_reducible apply Quiet.rotMem | with_reducible apply Quiet.atDisplacement | with_reducible apply Quiet.inputC | with_reducible apply Quiet.loadIR | with_reducible apply Quiet.nibbleRotate | with_reducible apply Quiet.repeatWz | with_reducible apply Quiet.repeatPc | with_reducible apply Quiet.blockLoad | with_reducible apply Quiet.blockLoadRepeat | with_reducible apply Quiet.blockCompare | with_reducible apply Quiet.blockCompareRepeat | with_reducible apply Quiet.blockIn | with_reducible apply Quiet.blockInRepeat | with_reducible apply Quiet.blockOut | with_reducible apply Quiet.blockOutRepeat | with_reducible apply Quiet.rotXyd | with_reducible apply Quiet.resXyd | with_reducible apply Quiet.setXyd | with_reducible apply Quiet.bitXyd)

theorem Quiet.rst (y : BitNo) (hq : Quiet s t) : Quiet s (Sys2Proof.Machine.rst y t) := by
  unfold Sys2Proof.Machine.rst
  repeat (first | with_reducible exact hq | with_reducible apply Quiet.setPc | with_reducible apply Quiet.setWz | with_reducible apply Quiet.setSp | with_reducible apply Quiet.setReg | with_reducible apply Quiet.setA | with_reducible apply Quiet.setF | with_reducible apply Quiet.setB | with_reducible apply Quiet.setBc | with_reducible apply Quiet.setDe | with_reducible apply Quiet.setHl | with_reducible apply Quiet.setAf | with_reducible apply Quiet.setPair | with_reducible apply Quiet.setQPair | with_reducible apply Quiet.setXy | with_reducible apply Quiet.setHalf | with_reducible apply Quiet.alu | with_reducible apply Quiet.incF | with_reducible apply Quiet.decF | with_reducible apply Quiet.rotA | with_reducible apply Quiet.tick | with_reducible apply Quiet.rd | with_reducible apply Quiet.imm8 | with_reducible apply Quiet.wr | with_reducible apply Quiet.note | with_reducible apply Quiet.portRd | with_reducible apply Quiet.portWr | with_reducible apply Quiet.imm16 | with_reducible apply Quiet.push16 | with_reducible apply Quiet.pop16 | with_reducible apply Quiet.takenDelay | with_reducible apply Quiet.loadA | with_reducible apply Quiet.storeA | with_reducible apply Quiet.readWord | with_reducible apply Quiet.writeWord | with_reducible apply Quiet.exchangeTop | with_reducible apply Quiet.incMem | with_reducible apply Quiet.decMem | with_reducible apply Quiet.jumpRelative | with_reducible apply Quiet.callTo | with_reducible apply Quiet.returnTo | with_reducible apply Quiet.readDisplacement | with_reducible apply Quiet.rdModify | with_reducible apply Quiet.rotMem | with_reducible apply Quiet.atDisplacement | with_reducible apply Quiet.inputC | with_reducible apply Quiet.loadIR | with_reducible apply Quiet.nibbleRotate | with_reducible apply Quiet.repeatWz | with_reducible apply Quiet.repeatPc | with_reducible apply Quiet.blockLoad | with_reducible apply Quiet.blockLoadRepeat | with_reducible apply Quiet.blockCompare | with_reducible apply Quiet.blockCompareRepeat | with_reducible apply Quiet.blockIn | with_reducible apply Quiet.blockInRepeat | with_reducible apply Quiet.blockOut | with_reducible apply Quiet.blockOutRepeat | with_reducible apply Quiet.rotXyd | with_reducible apply Quiet.resXyd | with_reducible apply Quiet.setXyd | with_reducible apply Quiet.bitXyd)

theorem Quiet.nop (hq : Quiet s t) : Quiet s (Sys2Proof.Machine.nop t) := by
  unfold Sys2Proof.Machine.nop
  repeat (first | with_reducible exact hq | with_reducible apply Quiet.setPc | with_reducible apply Quiet.setWz | with_reducible apply Quiet.setSp | with_reducible apply Quiet.setReg | with_reducible apply Quiet.setA | with_reducible apply Quiet.setF | with_reducible apply Quiet.setB | with_reducible apply Quiet.setBc | with_reducible apply Quiet.setDe | with_reducible apply Quiet.setHl | with_reducible apply Quiet.setAf | with_reducible apply Quiet.setPair | with_reducible apply Quiet.setQPair | with_reducible apply Quiet.setXy | with_reducible apply Quiet.setHalf | with_reducible apply Quiet.alu | with_reducible apply Quiet.incF | with_reducible apply Quiet.decF | with_reducible apply Quiet.rotA | with_reducible apply Quiet.tick | with_reducible apply Quiet.rd | with_reducible apply Quiet.imm8 | with_reducible apply Quiet.wr | with_reducible apply Quiet.note | with_reducible apply Quiet.portRd | with_reducible apply Quiet.portWr | with_reducible apply Quiet.imm16 | with_reducible apply Quiet.push16 | with_reducible apply Quiet.pop16 | with_reducible apply Quiet.takenDelay | with_reducible apply Quiet.loadA | with_reducible apply Quiet.storeA | with_reducible apply Quiet.readWord | with_reducible apply Quiet.writeWord | with_reducible apply Quiet.exchangeTop | with_reducible apply Quiet.incMem | with_reducible apply Quiet.decMem | with_reducible apply Quiet.jumpRelative | with_reducible apply Quiet.callTo | with_reducible apply Quiet.returnTo | with_reducible apply Quiet.readDisplacement | with_reducible apply Quiet.rdModify | with_reducible apply Quiet.rotMem | with_reducible apply Quiet.atDisplacement | with_reducible apply Quiet.inputC | with_reducible apply Quiet.loadIR | with_reducible apply Quiet.nibbleRotate | with_reducible apply Quiet.repeatWz | with_reducible apply Quiet.repeatPc | with_reducible apply Quiet.blockLoad | with_reducible apply Quiet.blockLoadRepeat | with_reducible apply Quiet.blockCompare | with_reducible apply Quiet.blockCompareRepeat | with_reducible apply Quiet.blockIn | with_reducible apply Quiet.blockInRepeat | with_reducible apply Quiet.blockOut | with_reducible apply Quiet.blockOutRepeat | with_reducible apply Quiet.rotXyd | with_reducible apply Quiet.resXyd | with_reducible apply Quiet.setXyd | with_reducible apply Quiet.bitXyd)

theorem Quiet.inA (hq : Quiet s t) : Quiet s (Sys2Proof.Machine.inA t) := by
  unfold Sys2Proof.Machine.inA
  dsimp only
  repeat (first | with_reducible exact hq | with_reducible apply Quiet.setPc | with_reducible apply Quiet.setWz | with_reducible apply Quiet.setSp | with_reducible apply Quiet.setReg | with_reducible apply Quiet.setA | with_reducible apply Quiet.setF | with_reducible apply Quiet.setB | with_reducible apply Quiet.setBc | with_reducible apply Quiet.setDe | with_reducible apply Quiet.setHl | with_reducible apply Quiet.setAf | with_reducible apply Quiet.setPair | with_reducible apply Quiet.setQPair | with_reducible apply Quiet.setXy | with_reducible apply Quiet.setHalf | with_reducible apply Quiet.alu | with_reducible apply Quiet.incF | with_reducible apply Quiet.decF | with_reducible apply Quiet.rotA | with_reducible apply Quiet.tick | with_reducible apply Quiet.rd | with_reducible apply Quiet.imm8 | with_reducible apply Quiet.wr | with_reducible apply Quiet.note | with_reducible apply Quiet.portRd | with_reducible apply Quiet.portWr | with_reducible apply Quiet.imm16 | with_reducible apply Quiet.push16 | with_reducible apply Quiet.pop16 | with_reducible apply Quiet.takenDelay | with_reducible apply Quiet.loadA | with_reducible apply Quiet.storeA | with_reducible apply Quiet.readWord | with_reducible apply Quiet.writeWord | with_reducible apply Quiet.exchangeTop | with_reducible apply Quiet.incMem | with_reducible apply Quiet.decMem | with_reducible apply Quiet.jumpRelative | with_reducible apply Quiet.callTo | with_reducible apply Quiet.returnTo | with_reducible apply Quiet.readDisplacement | with_reducible apply Quiet.rdModify | with_reducible apply Quiet.rotMem | with_reducible apply Quiet.atDisplacement | with_reducible apply Quiet.inputC | with_reducible apply Quiet.loadIR | with_reducible apply Quiet.nibbleRotate | with_reducible apply Quiet.repeatWz | with_reducible apply Quiet.repeatPc | with_reducible apply Quiet.blockLoad | with_reducible apply Quiet.blockLoadRepeat | with_reducible apply Quiet.blockCompare | with_reducible apply Quiet.blockCompareRepeat | with_reducible apply Quiet.blockIn | with_reducible apply Quiet.blockInRepeat | with_reducible apply Quiet.blockOut | with_reducible apply Quiet.blockOutRepeat | with_reducible apply Quiet.rotXyd | with_reducible apply Quiet.resXyd | with_reducible apply Quiet.setXyd | with_reducible apply Quiet.bitXyd)

theorem Quiet.outA (hq : Quiet s t) : Quiet s (Sys2Proof.Machine.outA t) := by
  unfold Sys2Proof.Machine.outA
  dsimp only
  repeat (first | with_reducible exact hq | with_reducible apply Quiet.setPc | with_reducible apply Quiet.setWz | with_reducible apply Quiet.setSp | with_reducible apply Quiet.setReg | with_reducible apply Quiet.setA | with_reducible apply Quiet.setF | with_reducible apply Quiet.setB | with_reducible apply Quiet.setBc | with_reducible apply Quiet.setDe | with_reducible apply Quiet.setHl | with_reducible apply Quiet.setAf | with_reducible apply Quiet.setPair | with_reducible apply Quiet.setQPair | with_reducible apply Quiet.setXy | with_reducible apply Quiet.setHalf | with_reducible apply Quiet.alu | with_reducible apply Quiet.incF | with_reducible apply Quiet.decF | with_reducible apply Quiet.rotA | with_reducible apply Quiet.tick | with_reducible apply Quiet.rd | with_reducible apply Quiet.imm8 | with_reducible apply Quiet.wr | with_reducible apply Quiet.note | with_reducible apply Quiet.portRd | with_reducible apply Quiet.portWr | with_reducible apply Quiet.imm16 | with_reducible apply Quiet.push16 | with_reducible apply Quiet.pop16 | with_reducible apply Quiet.takenDelay | with_reducible apply Quiet.loadA | with_reducible apply Quiet.storeA | with_reducible apply Quiet.readWord | with_reducible apply Quiet.writeWord | with_reducible apply Quiet.exchangeTop | with_reducible apply Quiet.incMem | with_reducible apply Quiet.decMem | with_reducible apply Quiet.jumpRelative | with_reducible apply Quiet.callTo | with_reducible apply Quiet.returnTo | with_reducible apply Quiet.readDisplacement | with_reducible apply Quiet.rdModify | with_reducible apply Quiet.rotMem | with_reducible apply Quiet.atDisplacement | with_reducible apply Quiet.inputC | with_reducible apply Quiet.loadIR | with_reducible apply Quiet.nibbleRotate | with_reducible apply Quiet.repeatWz | with_reducible apply Quiet.repeatPc | with_reducible apply Quiet.blockLoad | with_reducible apply Quiet.blockLoadRepeat | with_reducible apply Quiet.blockCompare | with_reducible apply Quiet.blockCompareRepeat | with_reducible apply Quiet.blockIn | with_reducible apply Quiet.blockInRepeat | with_reducible apply Quiet.blockOut | with_reducible apply Quiet.blockOutRepeat | with_reducible apply Quiet.rotXyd | with_reducible apply Quiet.resXyd | with_reducible apply Quiet.setXyd | with_reducible apply Quiet.bitXyd)

theorem Quiet.ldXyImm (x : XY) (hq : Quiet s t) : Quiet s (Sys2Proof.Machine.ldXyImm x t) := by
  unfold Sys2Proof.Machine.ldXyImm
  repeat (first | with_reducible exact hq | with_reducible apply Quiet.setPc | with_reducible apply Quiet.setWz | with_reducible apply Quiet.setSp | with_reducible apply Quiet.setReg | with_reducible apply Quiet.setA | with_reducible apply Quiet.setF | with_reducible apply Quiet.setB | with_reducible apply Quiet.setBc | with_reducible apply Quiet.setDe | with_reducible apply Quiet.setHl | with_reducible apply Quiet.setAf | with_reducible apply Quiet.setPair | with_reducible apply Quiet.setQPair | with_reducible apply Quiet.setXy | with_reducible apply Quiet.setHalf | with_reducible apply Quiet.alu | with_reducible apply Quiet.incF | with_reducible apply Quiet.decF | with_reducible apply Quiet.rotA | with_reducible apply Quiet.tick | with_reducible apply Quiet.rd | with_reducible apply Quiet.imm8 | with_reducible apply Quiet.wr | with_reducible apply Quiet.note | with_reducible apply Quiet.portRd | with_reducible apply Quiet.portWr | with_reducible apply Quiet.imm16 | with_reducible apply Quiet.push16 | with_reducible apply Quiet.pop16 | with_reducible apply Quiet.takenDelay | with_reducible apply Quiet.loadA | with_reducible apply Quiet.storeA | with_reducible apply Quiet.readWord | with_reducible apply Quiet.writeWord | with_reducible apply Quiet.exchangeTop | with_reducible apply Quiet.incMem | with_reducible apply Quiet.decMem | with_reducible apply Quiet.jumpRelative | with_reducible apply Quiet.callTo | with_reducible apply Quiet.returnTo | with_reducible apply Quiet.readDisplacement | with_reducible apply Quiet.rdModify | with_reducible apply Quiet.rotMem | with_reducible apply Quiet.atDisplacement | with_reducible apply Quiet.inputC | with_reducible apply Quiet.loadIR | with_reducible apply Quiet.nibbleRotate | with_reducible apply Quiet.repeatWz | with_reducible apply Quiet.repeatPc | with_reducible apply Quiet.blockLoad | with_reducible apply Quiet.blockLoadRepeat | with_reducible apply Quiet.blockCompare | with_reducible apply Quiet.blockCompareRepeat | with_reducible apply Quiet.blockIn | with_reducible apply Quiet.blockInRepeat | with_reducible apply Quiet.blockOut | with_reducible apply Quiet.blockOutRepeat | with_reducible apply Quiet.rotXyd | with_reducible apply Quiet.resXyd | with_reducible apply Quiet.setXyd | with_reducible apply Quiet.bitXyd)

theorem Quiet.ldAtNnXy (x : XY) (hq : Quiet s t) : Quiet s (Sys2Proof.Machine.ldAtNnXy x t) := by
  unfold Sys2Proof.Machine.ldAtNnXy
  repeat (first | with_reducible exact hq | with_reducible apply Quiet.setPc | with_reducible apply Quiet.setWz | with_reducible apply Quiet.setSp | with_reducible apply Quiet.setReg | with_reducible apply Quiet.setA | with_reducible apply Quiet.setF | with_reducible apply Quiet.setB | with_reducible apply Quiet.setBc | with_reducible apply Quiet.setDe | with_reducible apply Quiet.setHl | with_reducible apply Quiet.setAf | with_reducible apply Quiet.setPair | with_reducible apply Quiet.setQPair | with_reducible apply Quiet.setXy | with_reducible apply Quiet.setHalf | with_reducible apply Quiet.alu | with_reducible apply Quiet.incF | with_reducible apply Quiet.decF | with_reducible apply Quiet.rotA | with_reducible apply Quiet.tick | with_reducible apply Quiet.rd | with_reducible apply Quiet.imm8 | with_reducible apply Quiet.wr | with_reducible apply Quiet.note | with_reducible apply Quiet.portRd | with_reducible apply Quiet.portWr | with_reducible apply Quiet.imm16 | with_reducible apply Quiet.push16 | with_reducible apply Quiet.pop16 | with_reducible apply Quiet.takenDelay | with_reducible apply Quiet.loadA | with_reducible apply Quiet.storeA | with_reducible apply Quiet.readWord | with_reducible apply Quiet.writeWord | with_reducible apply Quiet.exchangeTop | with_reducible apply Quiet.incMem | with_reducible apply Quiet.decMem | with_reducible apply Quiet.jumpRelative | with_reducible apply Quiet.callTo | with_reducible apply Quiet.returnTo | with_reducible apply Quiet.readDisplacement | with_reducible apply Quiet.rdModify | with_reducible apply Quiet.rotMem | with_reducible apply Quiet.atDisplacement | with_reducible apply Quiet.inputC | with_reducible apply Quiet.loadIR | with_reducible apply Quiet.nibbleRotate | with_reducible apply Quiet.repeatWz | with_reducible apply Quiet.repeatPc | with_reducible apply Quiet.blockLoad | with_reducible apply Quiet.blockLoadRepeat | with_reducible apply Quiet.blockCompare | with_reducible apply Quiet.blockCompareRepeat | with_reducible apply Quiet.blockIn | with_reducible apply Quiet.blockInRepeat | with_reducible apply Quiet.blockOut | with_reducible apply Quiet.blockOutRepeat | with_reducible apply Quiet.rotXyd | with_reducible apply Quiet.resXyd | with_reducible apply Quiet.setXyd | with_reducible apply Quiet.bitXyd)

theorem Quiet.ldXyAtNn (x : XY) (hq : Quiet s t) : Quiet s (Sys2Proof.Machine.ldXyAtNn x t) := by
  unfold Sys2Proof.Machine.ldXyAtNn
  dsimp only
  repeat (first | with_reducible exact hq | with_reducible apply Quiet.setPc | with_reducible apply Quiet.setWz | with_reducible apply Quiet.setSp | with_reducible apply Quiet.setReg | with_reducible apply Quiet.setA | with_reducible apply Quiet.setF | with_reducible apply Quiet.setB | with_reducible apply Quiet.setBc | with_reducible apply Quiet.setDe | with_reducible apply Quiet.setHl | with_reducible apply Quiet.setAf | with_reducible apply Quiet.setPair | with_reducible apply Quiet.setQPair | with_reducible apply Quiet.setXy | with_reducible apply Quiet.setHalf | with_reducible apply Quiet.alu | with_reducible apply Quiet.incF | with_reducible apply Quiet.decF | with_reducible apply Quiet.rotA | with_reducible apply Quiet.tick | with_reducible apply Quiet.rd | with_reducible apply Quiet.imm8 | with_reducible apply Quiet.wr | with_reducible apply Quiet.note | with_reducible apply Quiet.portRd | with_reducible apply Quiet.portWr | with_reducible apply Quiet.imm16 | with_reducible apply Quiet.push16 | with_reducible apply Quiet.pop16 | with_reducible apply Quiet.takenDelay | with_reducible apply Quiet.loadA | with_reducible apply Quiet.storeA | with_reducible apply Quiet.readWord | with_reducible apply Quiet.writeWord | with_reducible apply Quiet.exchangeTop | with_reducible apply Quiet.incMem | with_reducible apply Quiet.decMem | with_reducible apply Quiet.jumpRelative | with_reducible apply Quiet.callTo | with_reducible apply Quiet.returnTo | with_reducible apply Quiet.readDisplacement | with_reducible apply Quiet.rdModify | with_reducible apply Quiet.rotMem | with_reducible apply Quiet.atDisplacement | with_reducible apply Quiet.inputC | with_reducible apply Quiet.loadIR | with_reducible apply Quiet.nibbleRotate | with_reducible apply Quiet.repeatWz | with_reducible apply Quiet.repeatPc | with_reducible apply Quiet.blockLoad | with_reducible apply Quiet.blockLoadRepeat | with_reducible apply Quiet.blockCompare | with_reducible apply Quiet.blockCompareRepeat | with_reducible apply Quiet.blockIn | with_reducible apply Quiet.blockInRepeat | with_reducible apply Quiet.blockOut | with_reducible apply Quiet.blockOutRepeat | with_reducible apply Quiet.rotXyd | with_reducible apply Quiet.resXyd | with_reducible apply Quiet.setXyd | with_reducible apply Quiet.bitXyd)

theorem Quiet.ldSpXy (x : XY) (hq : Quiet s t) : Quiet s (Sys2Proof.Machine.ldSpXy x t) := by
  unfold Sys2Proof.Machine.ldSpXy
  repeat (first | with_reducible exact hq | with_reducible apply Quiet.setPc | with_reducible apply Quiet.setWz | with_reducible apply Quiet.setSp | with_reducible apply Quiet.setReg | with_reducible apply Quiet.setA | with_reducible apply Quiet.setF | with_reducible apply Quiet.setB | with_reducible apply Quiet.setBc | with_reducible apply Quiet.setDe | with_reducible apply Quiet.setHl | with_reducible apply Quiet.setAf | with_reducible apply Quiet.setPair | with_reducible apply Quiet.setQPair | with_reducible apply Quiet.setXy | with_reducible apply Quiet.setHalf | with_reducible apply Quiet.alu | with_reducible apply Quiet.incF | with_reducible apply Quiet.decF | with_reducible apply Quiet.rotA | with_reducible apply Quiet.tick | with_reducible apply Quiet.rd | with_reducible apply Quiet.imm8 | with_reducible apply Quiet.wr | with_reducible apply Quiet.note | with_reducible apply Quiet.portRd | with_reducible apply Quiet.portWr | with_reducible apply Quiet.imm16 | with_reducible apply Quiet.push16 | with_reducible apply Quiet.pop16 | with_reducible apply Quiet.takenDelay | with_reducible apply Quiet.loadA | with_reducible apply Quiet.storeA | with_reducible apply Quiet.readWord | with_reducible apply Quiet.writeWord | with_reducible apply Quiet.exchangeTop | with_reducible apply Quiet.incMem | with_reducible apply Quiet.decMem | with_reducible apply Quiet.jumpRelative | with_reducible apply Quiet.callTo | with_reducible apply Quiet.returnTo | with_reducible apply Quiet.readDisplacement | with_reducible apply Quiet.rdModify | with_reducible apply Quiet.rotMem | with_reducible apply Quiet.atDisplacement | with_reducible apply Quiet.inputC | with_reducible apply Quiet.loadIR | with_reducible apply Quiet.nibbleRotate | with_reducible apply Quiet.repeatWz | with_reducible apply Quiet.repeatPc | with_reducible apply Quiet.blockLoad | with_reducible apply Quiet.blockLoadRepeat | with_reducible apply Quiet.blockCompare | with_reducible apply Quiet.blockCompareRepeat | with_reducible apply Quiet.blockIn | with_reducible apply Quiet.blockInRepeat | with_reducible apply Quiet.blockOut | with_reducible apply Quiet.blockOutRepeat | with_reducible apply Quiet.rotXyd | with_reducible apply Quiet.resXyd | with_reducible apply Quiet.setXyd | with_reducible apply Quiet.bitXyd)

theorem Quiet.pushXy (x : XY) (hq : Quiet s t) : Quiet s (Sys2Proof.Machine.pushXy x t) := by
  unfold Sys2Proof.Machine.pushXy
  repeat (first | with_reducible exact hq | with_reducible apply Quiet.setPc | with_reducible apply Quiet.setWz | with_reducible apply Quiet.setSp | with_reducible apply Quiet.setReg | with_reducible apply Quiet.setA | with_reducible apply Quiet.setF | with_reducible apply Quiet.setB | with_reducible apply Quiet.setBc | with_reducible apply Quiet.setDe | with_reducible apply Quiet.setHl | with_reducible apply Quiet.setAf | with_reducible apply Quiet.setPair | with_reducible apply Quiet.setQPair | with_reducible apply Quiet.setXy | with_reducible apply Quiet.setHalf | with_reducible apply Quiet.alu | with_reducible apply Quiet.incF | with_reducible apply Quiet.decF | with_reducible apply Quiet.rotA | with_reducible apply Quiet.tick | with_reducible apply Quiet.rd | with_reducible apply Quiet.imm8 | with_reducible apply Quiet.wr | with_reducible apply Quiet.note | with_reducible apply Quiet.portRd | with_reducible apply Quiet.portWr | with_reducible apply Quiet.imm16 | with_reducible apply Quiet.push16 | with_reducible apply Quiet.pop16 | with_reducible apply Quiet.takenDelay | with_reducible apply Quiet.loadA | with_reducible apply Quiet.storeA | with_reducible apply Quiet.readWord | with_reducible apply Quiet.writeWord | with_reducible apply Quiet.exchangeTop | with_reducible apply Quiet.incMem | with_reducible apply Quiet.decMem | with_reducible apply Quiet.jumpRelative | with_reducible apply Quiet.callTo | with_reducible apply Quiet.returnTo | with_reducible apply Quiet.readDisplacement | with_reducible apply Quiet.rdModify | with_reducible apply Quiet.rotMem | with_reducible apply Quiet.atDisplacement | with_reducible apply Quiet.inputC | with_reducible apply Quiet.loadIR | with_reducible apply Quiet.nibbleRotate | with_reducible apply Quiet.repeatWz | with_reducible apply Quiet.repeatPc | with_reducible apply Quiet.blockLoad | with_reducible apply Quiet.blockLoadRepeat | with_reducible apply Quiet.blockCompare | with_reducible apply Quiet.blockCompareRepeat | with_reducible apply Quiet.blockIn | with_reducible apply Quiet.blockInRepeat | with_reducible apply Quiet.blockOut | with_reducible apply Quiet.blockOutRepeat | with_reducible apply Quiet.rotXyd | with_reducible apply Quiet.resXyd | with_reducible apply Quiet.setXyd | with_reducible apply Quiet.bitXyd)

theorem Quiet.popXy (x : XY) (hq : Quiet s t) : Quiet s (Sys2Proof.Machine.popXy x t) := by
  unfold Sys2Proof.Machine.popXy
  repeat (first | with_reducible exact hq | with_reducible apply Quiet.setPc | with_reducible apply Quiet.setWz | with_reducible apply Quiet.setSp | with_reducible apply Quiet.setReg | with_reducible apply Quiet.setA | with_reducible apply Quiet.setF | with_reducible apply Quiet.setB | with_reducible apply Quiet.setBc | with_reducible apply Quiet.setDe | with_reducible apply Quiet.setHl | with_reducible apply Quiet.setAf | with_reducible apply Quiet.setPair | with_reducible apply Quiet.setQPair | with_reducible apply Quiet.setXy | with_reducible apply Quiet.setHalf | with_reducible apply Quiet.alu | with_reducible apply Quiet.incF | with_reducible apply Quiet.decF | with_reducible apply Quiet.rotA | with_reducible apply Quiet.tick | with_reducible apply Quiet.rd | with_reducible apply Quiet.imm8 | with_reducible apply Quiet.wr | with_reducible apply Quiet.note | with_reducible apply Quiet.portRd | with_reducible apply Quiet.portWr | with_reducible apply Quiet.imm16 | with_reducible apply Quiet.push16 | with_reducible apply Quiet.pop16 | with_reducible apply Quiet.takenDelay | with_reducible apply Quiet.loadA | with_reducible apply Quiet.storeA | with_reducible apply Quiet.readWord | with_reducible apply Quiet.writeWord | with_reducible apply Quiet.exchangeTop | with_reducible apply Quiet.incMem | with_reducible apply Quiet.decMem | with_reducible apply Quiet.jumpRelative | with_reducible apply Quiet.callTo | with_reducible apply Quiet.returnTo | with_reducible apply Quiet.readDisplacement | with_reducible apply Quiet.rdModify | with_reducible apply Quiet.rotMem | with_reducible apply Quiet.atDisplacement | with_reducible apply Quiet.inputC | with_reducible apply Quiet.loadIR | with_reducible apply Quiet.nibbleRotate | with_reducible apply Quiet.repeatWz | with_reducible apply Quiet.repeatPc | with_reducible apply Quiet.blockLoad | with_reducible apply Quiet.blockLoadRepeat | with_reducible apply Quiet.blockCompare | with_reducible apply Quiet.blockCompareRepeat | with_reducible apply Quiet.blockIn | with_reducible apply Quiet.blockInRepeat | with_reducible apply Quiet.blockOut | with_reducible apply Quiet.blockOutRepeat | with_reducible apply Quiet.rotXyd | with_reducible apply Quiet.resXyd | with_reducible apply Quiet.setXyd | with_reducible apply Quiet.bitXyd)

theorem Quiet.exSpXy (x : XY) (hq : Quiet s t) : Quiet s (Sys2Proof.Machine.exSpXy x t) := by
  unfold Sys2Proof.Machine.exSpXy
  repeat (first | with_reducible exact hq | with_reducible apply Quiet.setPc | with_reducible apply Quiet.setWz | with_reducible apply Quiet.setSp | with_reducible apply Quiet.setReg | with_reducible apply Quiet.setA | with_reducible apply Quiet.setF | with_reducible apply Quiet.setB | with_reducible apply Quiet.setBc | with_reducible apply Quiet.setDe | with_reducible apply Quiet.setHl | with_reducible apply Quiet.setAf | with_reducible apply Quiet.setPair | with_reducible apply Quiet.setQPair | with_reducible apply Quiet.setXy | with_reducible apply Quiet.setHalf | with_reducible apply Quiet.alu | with_reducible apply Quiet.incF | with_reducible apply Quiet.decF | with_reducible apply Quiet.rotA | with_reducible apply Quiet.tick | with_reducible apply Quiet.rd | with_reducible apply Quiet.imm8 | with_reducible apply Quiet.wr | with_reducible apply Quiet.note | with_reducible apply Quiet.portRd | with_reducible apply Quiet.portWr | with_reducible apply Quiet.imm16 | with_reducible apply Quiet.push16 | with_reducible apply Quiet.pop16 | with_reducible apply Quiet.takenDelay | with_reducible apply Quiet.loadA | with_reducible apply Quiet.storeA | with_reducible apply Quiet.readWord | with_reducible apply Quiet.writeWord | with_reducible apply Quiet.exchangeTop | with_reducible apply Quiet.incMem | with_reducible apply Quiet.decMem | with_reducible apply Quiet.jumpRelative | with_reducible apply Quiet.callTo | with_reducible apply Quiet.returnTo | with_reducible apply Quiet.readDisplacement | with_reducible apply Quiet.rdModify | with_reducible apply Quiet.rotMem | with_reducible apply Quiet.atDisplacement | with_reducible apply Quiet.inputC | with_reducible apply Quiet.loadIR | with_reducible apply Quiet.nibbleRotate | with_reducible apply Quiet.repeatWz | with_reducible apply Quiet.repeatPc | with_reducible apply Quiet.blockLoad | with_reducible apply Quiet.blockLoadRepeat | with_reducible apply Quiet.blockCompare | with_reducible apply Quiet.blockCompareRepeat | with_reducible apply Quiet.blockIn | with_reducible apply Quiet.blockInRepeat | with_reducible apply Quiet.blockOut | with_reducible apply Quiet.blockOutRepeat | with_reducible apply Quiet.rotXyd | with_reducible apply Quiet.resXyd | with_reducible apply Quiet.setXyd | with_reducible apply Quiet.bitXyd)

theorem Quiet.jpXy (x : XY) (hq : Quiet s t) : Quiet s (Sys2Proof.Machine.jpXy x t) := by
  unfold Sys2Proof.Machine.jpXy
  repeat (first | with_reducible exact hq | with_reducible apply Quiet.setPc | with_reducible apply Quiet.setWz | with_reducible apply Quiet.setSp | with_reducible apply Quiet.setReg | with_reducible apply Quiet.setA | with_reducible apply Quiet.setF | with_reducible apply Quiet.setB | with_reducible apply Quiet.setBc | with_reducible apply Quiet.setDe | with_reducible apply Quiet.setHl | with_reducible apply Quiet.setAf | with_reducible apply Quiet.setPair | with_reducible apply Quiet.setQPair | with_reducible apply Quiet.setXy | with_reducible apply Quiet.setHalf | with_reducible apply Quiet.alu | with_reducible apply Quiet.incF | with_reducible apply Quiet.decF | with_reducible apply Quiet.rotA | with_reducible apply Quiet.tick | with_reducible apply Quiet.rd | with_reducible apply Quiet.imm8 | with_reducible apply Quiet.wr | with_reducible apply Quiet.note | with_reducible apply Quiet.portRd | with_reducible apply Quiet.portWr | with_reducible apply Quiet.imm16 | with_reducible apply Quiet.push16 | with_reducible apply Quiet.pop16 | with_reducible apply Quiet.takenDelay | with_reducible apply Quiet.loadA | with_reducible apply Quiet.storeA | with_reducible apply Quiet.readWord | with_reducible apply Quiet.writeWord | with_reducible apply Quiet.exchangeTop | with_reducible apply Quiet.incMem | with_reducible apply Quiet.decMem | with_reducible apply Quiet.jumpRelative | with_reducible apply Quiet.callTo | with_reducible apply Quiet.returnTo | with_reducible apply Quiet.readDisplacement | with_reducible apply Quiet.rdModify | with_reducible apply Quiet.rotMem | with_reducible apply Quiet.atDisplacement | with_reducible apply Quiet.inputC | with_reducible apply Quiet.loadIR | with_reducible apply Quiet.nibbleRotate | with_reducible apply Quiet.repeatWz | with_reducible apply Quiet.repeatPc | with_reducible apply Quiet.blockLoad | with_reducible apply Quiet.blockLoadRepeat | with_reducible apply Quiet.blockCompare | with_reducible apply Quiet.blockCompareRepeat | with_reducible apply Quiet.blockIn | with_reducible apply Quiet.blockInRepeat | with_reducible apply Quiet.blockOut | with_reducible apply Quiet.blockOutRepeat | with_reducible apply Quiet.rotXyd | with_reducible apply Quiet.resXyd | with_reducible apply Quiet.setXyd | with_reducible apply Quiet.bitXyd)

theorem Quiet.addXy (x : XY) (p : Pair) (hq : Quiet s t) : Quiet s (Sys2Proof.Machine.addXy x p t) := by
  unfold Sys2Proof.Machine.addXy
  dsimp only
  repeat (first | with_reducible exact hq | with_reducible apply Quiet.setPc | with_reducible apply Quiet.setWz | with_reducible apply Quiet.setSp | with_reducible apply Quiet.setReg | with_reducible apply Quiet.setA | with_reducible apply Quiet.setF | with_reducible apply Quiet.setB | with_reducible apply Quiet.setBc | with_reducible apply Quiet.setDe | with_reducible apply Quiet.setHl | with_reducible apply Quiet.setAf | with_reducible apply Quiet.setPair | with_reducible apply Quiet.setQPair | with_reducible apply Quiet.setXy | with_reducible apply Quiet.setHalf | with_reducible apply Quiet.alu | with_reducible apply Quiet.incF | with_reducible apply Quiet.decF | with_reducible apply Quiet.rotA | with_reducible apply Quiet.tick | with_reducible apply Quiet.rd | with_reducible apply Quiet.imm8 | with_reducible apply Quiet.wr | with_reducible apply Quiet.note | with_reducible apply Quiet.portRd | with_reducible apply Quiet.portWr | with_reducible apply Quiet.imm16 | with_reducible apply Quiet.push16 | with_reducible apply Quiet.pop16 | with_reducible apply Quiet.takenDelay | with_reducible apply Quiet.loadA | with_reducible apply Quiet.storeA | with_reducible apply Quiet.readWord | with_reducible apply Quiet.writeWord | with_reducible apply Quiet.exchangeTop | with_reducible apply Quiet.incMem | with_reducible apply Quiet.decMem | with_reducible apply Quiet.jumpRelative | with_reducible apply Quiet.callTo | with_reducible apply Quiet.returnTo | with_reducible apply Quiet.readDisplacement | with_reducible apply Quiet.rdModify | with_reducible apply Quiet.rotMem | with_reducible apply Quiet.atDisplacement | with_reducible apply Quiet.inputC | with_reducible apply Quiet.loadIR | with_reducible apply Quiet.nibbleRotate | with_reducible apply Quiet.repeatWz | with_reducible apply Quiet.repeatPc | with_reducible apply Quiet.blockLoad | with_reducible apply Quiet.blockLoadRepeat | with_reducible apply Quiet.blockCompare | with_reducible apply Quiet.blockCompareRepeat | with_reducible apply Quiet.blockIn | with_reducible apply Quiet.blockInRepeat | with_reducible apply Quiet.blockOut | with_reducible apply Quiet.blockOutRepeat | with_reducible apply Quiet.rotXyd | with_reducible apply Quiet.resXyd | with_reducible apply Quiet.setXyd | with_reducible apply Quiet.bitXyd)

theorem Quiet.incXy (x : XY) (hq : Quiet s t) : Quiet s (Sys2Proof.Machine.incXy x t) := by
  unfold Sys2Proof.Machine.incXy
  repeat (first | with_reducible exact hq | with_reducible apply Quiet.setPc | with_reducible apply Quiet.setWz | with_reducible apply Quiet.setSp | with_reducible apply Quiet.setReg | with_reducible apply Quiet.setA | with_reducible apply Quiet.setF | with_reducible apply Quiet.setB | with_reducible apply Quiet.setBc | with_reducible apply Quiet.setDe | with_reducible apply Quiet.setHl | with_reducible apply Quiet.setAf | with_reducible apply Quiet.setPair | with_reducible apply Quiet.setQPair | with_reducible apply Quiet.setXy | with_reducible apply Quiet.setHalf | with_reducible apply Quiet.alu | with_reducible apply Quiet.incF | with_reducible apply Quiet.decF | with_reducible apply Quiet.rotA | with_reducible apply Quiet.tick | with_reducible apply Quiet.rd | with_reducible apply Quiet.imm8 | with_reducible apply Quiet.wr | with_reducible apply Quiet.note | with_reducible apply Quiet.portRd | with_reducible apply Quiet.portWr | with_reducible apply Quiet.imm16 | with_reducible apply Quiet.push16 | with_reducible apply Quiet.pop16 | with_reducible apply Quiet.takenDelay | with_reducible apply Quiet.loadA | with_reducible apply Quiet.storeA | with_reducible apply Quiet.readWord | with_reducible apply Quiet.writeWord | with_reducible apply Quiet.exchangeTop | with_reducible apply Quiet.incMem | with_reducible apply Quiet.decMem | with_reducible apply Quiet.jumpRelative | with_reducible apply Quiet.callTo | with_reducible apply Quiet.returnTo | with_reducible apply Quiet.readDisplacement | with_reducible apply Quiet.rdModify | with_reducible apply Quiet.rotMem | with_reducible apply Quiet.atDisplacement | with_reducible apply Quiet.inputC | with_reducible apply Quiet.loadIR | with_reducible apply Quiet.nibbleRotate | with_reducible apply Quiet.repeatWz | with_reducible apply Quiet.repeatPc | with_reducible apply Quiet.blockLoad | with_reducible apply Quiet.blockLoadRepeat | with_reducible apply Quiet.blockCompare | with_reducible apply Quiet.blockCompareRepeat | with_reducible apply Quiet.blockIn | with_reducible apply Quiet.blockInRepeat | with_reducible apply Quiet.blockOut | with_reducible apply Quiet.blockOutRepeat | with_reducible apply Quiet.rotXyd | with_reducible apply Quiet.resXyd | with_reducible apply Quiet.setXyd | with_reducible apply Quiet.bitXyd)

theorem Quiet.decXy (x : XY) (hq : Quiet s t) : Quiet s (Sys2Proof.Machine.decXy x t) := by
  unfold Sys2Proof.Machine.decXy
  repeat (first | with_reducible exact hq | with_reducible apply Quiet.setPc | with_reducible apply Quiet.setWz | with_reducible apply Quiet.setSp | with_reducible apply Quiet.setReg | with_reducible apply Quiet.setA | with_reducible apply Quiet.setF | with_reducible apply Quiet.setB | with_reducible apply Quiet.setBc | with_reducible apply Quiet.setDe | with_reducible apply Quiet.setHl | with_reducible apply Quiet.setAf | with_reducible apply Quiet.setPair | with_reducible apply Quiet.setQPair | with_reducible apply Quiet.setXy | with_reducible apply Quiet.setHalf | with_reducible apply Quiet.alu | with_reducible apply Quiet.incF | with_reducible apply Quiet.decF | with_reducible apply Quiet.rotA | with_reducible apply Quiet.tick | with_reducible apply Quiet.rd | with_reducible apply Quiet.imm8 | with_reducible apply Quiet.wr | with_reducible apply Quiet.note | with_reducible apply Quiet.portRd | with_reducible apply Quiet.portWr | with_reducible apply Quiet.imm16 | with_reducible apply Quiet.push16 | with_reducible apply Quiet.pop16 | with_reducible apply Quiet.takenDelay | with_reducible apply Quiet.loadA | with_reducible apply Quiet.storeA | with_reducible apply Quiet.readWord | with_reducible apply Quiet.writeWord | with_reducible apply Quiet.exchangeTop | with_reducible apply Quiet.incMem | with_reducible apply Quiet.decMem | with_reducible apply Quiet.jumpRelative | with_reducible apply Quiet.callTo | with_reducible apply Quiet.returnTo | with_reducible apply Quiet.readDisplacement | with_reducible apply Quiet.rdModify | with_reducible apply Quiet.rotMem | with_reducible apply Quiet.atDisplacement | with_reducible apply Quiet.inputC | with_reducible apply Quiet.loadIR | with_reducible apply Quiet.nibbleRotate | with_reducible apply Quiet.repeatWz | with_reducible apply Quiet.repeatPc | with_reducible apply Quiet.blockLoad | with_reducible apply Quiet.blockLoadRepeat | with_reducible apply Quiet.blockCompare | with_reducible apply Quiet.blockCompareRepeat | with_reducible apply Quiet.blockIn | with_reducible apply Quiet.blockInRepeat | with_reducible apply Quiet.blockOut | with_reducible apply Quiet.blockOutRepeat | with_reducible apply Quiet.rotXyd | with_reducible apply Quiet.resXyd | with_reducible apply Quiet.setXyd | with_reducible apply Quiet.bitXyd)

theorem Quiet.ldRegXyd (x : XY) (r : Reg8) (hq : Quiet s t) : Quiet s (Sys2Proof.Machine.ldRegXyd x r t) := by
  unfold Sys2Proof.Machine.ldRegXyd
  dsimp only
  repeat (first | with_reducible exact hq | with_reducible apply Quiet.setPc | with_reducible apply Quiet.setWz | with_reducible apply Quiet.setSp | with_reducible apply Quiet.setReg | with_reducible apply Quiet.setA | with_reducible apply Quiet.setF | with_reducible apply Quiet.setB | with_reducible apply Quiet.setBc | with_reducible apply Quiet.setDe | with_reducible apply Quiet.setHl | with_reducible apply Quiet.setAf | with_reducible apply Quiet.setPair | with_reducible apply Quiet.setQPair | with_reducible apply Quiet.setXy | with_reducible apply Quiet.setHalf | with_reducible apply Quiet.alu | with_reducible apply Quiet.incF | with_reducible apply Quiet.decF | with_reducible apply Quiet.rotA | with_reducible apply Quiet.tick | with_reducible apply Quiet.rd | with_reducible apply Quiet.imm8 | with_reducible apply Quiet.wr | with_reducible apply Quiet.note | with_reducible apply Quiet.portRd | with_reducible apply Quiet.portWr | with_reducible apply Quiet.imm16 | with_reducible apply Quiet.push16 | with_reducible apply Quiet.pop16 | with_reducible apply Quiet.takenDelay | with_reducible apply Quiet.loadA | with_reducible apply Quiet.storeA | with_reducible apply Quiet.readWord | with_reducible apply Quiet.writeWord | with_reducible apply Quiet.exchangeTop | with_reducible apply Quiet.incMem | with_reducible apply Quiet.decMem | with_reducible apply Quiet.jumpRelative | with_reducible apply Quiet.callTo | with_reducible apply Quiet.returnTo | with_reducible apply Quiet.readDisplacement | with_reducible apply Quiet.rdModify | with_reducible apply Quiet.rotMem | with_reducible apply Quiet.atDisplacement | with_reducible apply Quiet.inputC | with_reducible apply Quiet.loadIR | with_reducible apply Quiet.nibbleRotate | with_reducible apply Quiet.repeatWz | with_reducible apply Quiet.repeatPc | with_reducible apply Quiet.blockLoad | with_reducible apply Quiet.blockLoadRepeat | with_reducible apply Quiet.blockCompare | with_reducible apply Quiet.blockCompareRepeat | with_reducible apply Quiet.blockIn | with_reducible apply Quiet.blockInRepeat | with_reducible apply Quiet.blockOut | with_reducible apply Quiet.blockOutRepeat | with_reducible apply Quiet.rotXyd | with_reducible apply Quiet.resXyd | with_reducible apply Quiet.setXyd | with_reducible apply Quiet.bitXyd)

theorem Quiet.ldXydReg (x : XY) (r : Reg8) (hq : Quiet s t) : Quiet s (Sys2Proof.Machine.ldXydReg x r t) := by
  unfold Sys2Proof.Machine.ldXydReg
  repeat (first | with_reducible exact hq | with_reducible apply Quiet.setPc | with_reducible apply Quiet.setWz | with_reducible apply Quiet.setSp | with_reducible apply Quiet.setReg | with_reducible apply Quiet.setA | with_reducible apply Quiet.setF | with_reducible apply Quiet.setB | with_reducible apply Quiet.setBc | with_reducible apply Quiet.setDe | with_reducible apply Quiet.setHl | with_reducible apply Quiet.setAf | with_reducible apply Quiet.setPair | with_reducible apply Quiet.setQPair | with_reducible apply Quiet.setXy | with_reducible apply Quiet.setHalf | with_reducible apply Quiet.alu | with_reducible apply Quiet.incF | with_reducible apply Quiet.decF | with_reducible apply Quiet.rotA | with_reducible apply Quiet.tick | with_reducible apply Quiet.rd | with_reducible apply Quiet.imm8 | with_reducible apply Quiet.wr | with_reducible apply Quiet.note | with_reducible apply Quiet.portRd | with_reducible apply Quiet.portWr | with_reducible apply Quiet.imm16 | with_reducible apply Quiet.push16 | with_reducible apply Quiet.pop16 | with_reducible apply Quiet.takenDelay | with_reducible apply Quiet.loadA | with_reducible apply Quiet.storeA | with_reducible apply Quiet.readWord | with_reducible apply Quiet.writeWord | with_reducible apply Quiet.exchangeTop | with_reducible apply Quiet.incMem | with_reducible apply Quiet.decMem | with_reducible apply Quiet.jumpRelative | with_reducible apply Quiet.callTo | with_reducible apply Quiet.returnTo | with_reducible apply Quiet.readDisplacement | with_reducible apply Quiet.rdModify | with_reducible apply Quiet.rotMem | with_reducible apply Quiet.atDisplacement | with_reducible apply Quiet.inputC | with_reducible apply Quiet.loadIR | with_reducible apply Quiet.nibbleRotate | with_reducible apply Quiet.repeatWz | with_reducible apply Quiet.repeatPc | with_reducible apply Quiet.blockLoad | with_reducible apply Quiet.blockLoadRepeat | with_reducible apply Quiet.blockCompare | with_reducible apply Quiet.blockCompareRepeat | with_reducible apply Quiet.blockIn | with_reducible apply Quiet.blockInRepeat | with_reducible apply Quiet.blockOut | with_reducible apply Quiet.blockOutRepeat | with_reducible apply Quiet.rotXyd | with_reducible apply Quiet.resXyd | with_reducible apply Quiet.setXyd | with_reducible apply Quiet.bitXyd)

theorem Quiet.ldXydImm (x : XY) (hq : Quiet s t) : Quiet s (Sys2Proof.Machine.ldXydImm x t) := by
  unfold Sys2Proof.Machine.ldXydImm
  dsimp only
  repeat (first | with_reducible exact hq | with_reducible apply Quiet.setPc | with_reducible apply Quiet.setWz | with_reducible apply Quiet.setSp | with_reducible apply Quiet.setReg | with_reducible apply Quiet.setA | with_reducible apply Quiet.setF | with_reducible apply Quiet.setB | with_reducible apply Quiet.setBc | with_reducible apply Quiet.setDe | with_reducible apply Quiet.setHl | with_reducible apply Quiet.setAf | with_reducible apply Quiet.setPair | with_reducible apply Quiet.setQPair | with_reducible apply Quiet.setXy | with_reducible apply Quiet.setHalf | with_reducible apply Quiet.alu | with_reducible apply Quiet.incF | with_reducible apply Quiet.decF | with_reducible apply Quiet.rotA | with_reducible apply Quiet.tick | with_reducible apply Quiet.rd | with_reducible apply Quiet.imm8 | with_reducible apply Quiet.wr | with_reducible apply Quiet.note | with_reducible apply Quiet.portRd | with_reducible apply Quiet.portWr | with_reducible apply Quiet.imm16 | with_reducible apply Quiet.push16 | with_reducible apply Quiet.pop16 | with_reducible apply Quiet.takenDelay | with_reducible apply Quiet.loadA | with_reducible apply Quiet.storeA | with_reducible apply Quiet.readWord | with_reducible apply Quiet.writeWord | with_reducible apply Quiet.exchangeTop | with_reducible apply Quiet.incMem | with_reducible apply Quiet.decMem | with_reducible apply Quiet.jumpRelative | with_reducible apply Quiet.callTo | with_reducible apply Quiet.returnTo | with_reducible apply Quiet.readDisplacement | with_reducible apply Quiet.rdModify | with_reducible apply Quiet.rotMem | with_reducible apply Quiet.atDisplacement | with_reducible apply Quiet.inputC | with_reducible apply Quiet.loadIR | with_reducible apply Quiet.nibbleRotate | with_reducible apply Quiet.repeatWz | with_reducible apply Quiet.repeatPc | with_reducible apply Quiet.blockLoad | with_reducible apply Quiet.blockLoadRepeat | with_reducible apply Quiet.blockCompare | with_reducible apply Quiet.blockCompareRepeat | with_reducible apply Quiet.blockIn | with_reducible apply Quiet.blockInRepeat | with_reducible apply Quiet.blockOut | with_reducible apply Quiet.blockOutRepeat | with_reducible apply Quiet.rotXyd | with_reducible apply Quiet.resXyd | with_reducible apply Quiet.setXyd | with_reducible apply Quiet.bitXyd)

theorem Quiet.incXyd (x : XY) (hq : Quiet s t) : Quiet s (Sys2Proof.Machine.incXyd x t) := by
  unfold Sys2Proof.Machine.incXyd
  repeat (first | with_reducible exact hq | with_reducible apply Quiet.setPc | with_reducible apply Quiet.setWz | with_reducible apply Quiet.setSp | with_reducible apply Quiet.setReg | with_reducible apply Quiet.setA | with_reducible apply Quiet.setF | with_reducible apply Quiet.setB | with_reducible apply Quiet.setBc | with_reducible apply Quiet.setDe | with_reducible apply Quiet.setHl | with_reducible apply Quiet.setAf | with_reducible apply Quiet.setPair | with_reducible apply Quiet.setQPair | with_reducible apply Quiet.setXy | with_reducible apply Quiet.setHalf | with_reducible apply Quiet.alu | with_reducible apply Quiet.incF | with_reducible apply Quiet.decF | with_reducible apply Quiet.rotA | with_reducible apply Quiet.tick | with_reducible apply Quiet.rd | with_reducible apply Quiet.imm8 | with_reducible apply Quiet.wr | with_reducible apply Quiet.note | with_reducible apply Quiet.portRd | with_reducible apply Quiet.portWr | with_reducible apply Quiet.imm16 | with_reducible apply Quiet.push16 | with_reducible apply Quiet.pop16 | with_reducible apply Quiet.takenDelay | with_reducible apply Quiet.loadA | with_reducible apply Quiet.storeA | with_reducible apply Quiet.readWord | with_reducible apply Quiet.writeWord | with_reducible apply Quiet.exchangeTop | with_reducible apply Quiet.incMem | with_reducible apply Quiet.decMem | with_reducible apply Quiet.jumpRelative | with_reducible apply Quiet.callTo | with_reducible apply Quiet.returnTo | with_reducible apply Quiet.readDisplacement | with_reducible apply Quiet.rdModify | with_reducible apply Quiet.rotMem | with_reducible apply Quiet.atDisplacement | with_reducible apply Quiet.inputC | with_reducible apply Quiet.loadIR | with_reducible apply Quiet.nibbleRotate | with_reducible apply Quiet.repeatWz | with_reducible apply Quiet.repeatPc | with_reducible apply Quiet.blockLoad | with_reducible apply Quiet.blockLoadRepeat | with_reducible apply Quiet.blockCompare | with_reducible apply Quiet.blockCompareRepeat | with_reducible apply Quiet.blockIn | with_reducible apply Quiet.blockInRepeat | with_reducible apply Quiet.blockOut | with_reducible apply Quiet.blockOutRepeat | with_reducible apply Quiet.rotXyd | with_reducible apply Quiet.resXyd | with_reducible apply Quiet.setXyd | with_reducible apply Quiet.bitXyd)

theorem Quiet.decXyd (x : XY) (hq : Quiet s t) : Quiet s (Sys2Proof.Machine.decXyd x t) := by
  unfold Sys2Proof.Machine.decXyd
  repeat (first | with_reducible exact hq | with_reducible apply Quiet.setPc | with_reducible apply Quiet.setWz | with_reducible apply Quiet.setSp | with_reducible apply Quiet.setReg | with_reducible apply Quiet.setA | with_reducible apply Quiet.setF | with_reducible apply Quiet.setB | with_reducible apply Quiet.setBc | with_reducible apply Quiet.setDe | with_reducible apply Quiet.setHl | with_reducible apply Quiet.setAf | with_reducible apply Quiet.setPair | with_reducible apply Quiet.setQPair | with_reducible apply Quiet.setXy | with_reducible apply Quiet.setHalf | with_reducible apply Quiet.alu | with_reducible apply Quiet.incF | with_reducible apply Quiet.decF | with_reducible apply Quiet.rotA | with_reducible apply Quiet.tick | with_reducible apply Quiet.rd | with_reducible apply Quiet.imm8 | with_reducible apply Quiet.wr | with_reducible apply Quiet.note | with_reducible apply Quiet.portRd | with_reducible apply Quiet.portWr | with_reducible apply Quiet.imm16 | with_reducible apply Quiet.push16 | with_reducible apply Quiet.pop16 | with_reducible apply Quiet.takenDelay | with_reducible apply Quiet.loadA | with_reducible apply Quiet.storeA | with_reducible apply Quiet.readWord | with_reducible apply Quiet.writeWord | with_reducible apply Quiet.exchangeTop | with_reducible apply Quiet.incMem | with_reducible apply Quiet.decMem | with_reducible apply Quiet.jumpRelative | with_reducible apply Quiet.callTo | with_reducible apply Quiet.returnTo | with_reducible apply Quiet.readDisplacement | with_reducible apply Quiet.rdModify | with_reducible apply Quiet.rotMem | with_reducible apply Quiet.atDisplacement | with_reducible apply Quiet.inputC | with_reducible apply Quiet.loadIR | with_reducible apply Quiet.nibbleRotate | with_reducible apply Quiet.repeatWz | with_reducible apply Quiet.repeatPc | with_reducible apply Quiet.blockLoad | with_reducible apply Quiet.blockLoadRepeat | with_reducible apply Quiet.blockCompare | with_reducible apply Quiet.blockCompareRepeat | with_reducible apply Quiet.blockIn | with_reducible apply Quiet.blockInRepeat | with_reducible apply Quiet.blockOut | with_reducible apply Quiet.blockOutRepeat | with_reducible apply Quiet.rotXyd | with_reducible apply Quiet.resXyd | with_reducible apply Quiet.setXyd | with_reducible apply Quiet.bitXyd)

theorem Quiet.aluXyd (x : XY) (op : AluOp) (hq : Quiet s t) : Quiet s (Sys2Proof.Machine.aluXyd x op t) := by
  unfold Sys2Proof.Machine.aluXyd
  dsimp only
  repeat (first | with_reducible exact hq | with_reducible apply Quiet.setPc | with_reducible apply Quiet.setWz | with_reducible apply Quiet.setSp | with_reducible apply Quiet.setReg | with_reducible apply Quiet.setA | with_reducible apply Quiet.setF | with_reducible apply Quiet.setB | with_reducible apply Quiet.setBc | with_reducible apply Quiet.setDe | with_reducible apply Quiet.setHl | with_reducible apply Quiet.setAf | with_reducible apply Quiet.setPair | with_reducible apply Quiet.setQPair | with_reducible apply Quiet.setXy | with_reducible apply Quiet.setHalf | with_reducible apply Quiet.alu | with_reducible apply Quiet.incF | with_reducible apply Quiet.decF | with_reducible apply Quiet.rotA | with_reducible apply Quiet.tick | with_reducible apply Quiet.rd | with_reducible apply Quiet.imm8 | with_reducible apply Quiet.wr | with_reducible apply Quiet.note | with_reducible apply Quiet.portRd | with_reducible apply Quiet.portWr | with_reducible apply Quiet.imm16 | with_reducible apply Quiet.push16 | with_reducible apply Quiet.pop16 | with_reducible apply Quiet.takenDelay | with_reducible apply Quiet.loadA | with_reducible apply Quiet.storeA | with_reducible apply Quiet.readWord | with_reducible apply Quiet.writeWord | with_reducible apply Quiet.exchangeTop | with_reducible apply Quiet.incMem | with_reducible apply Quiet.decMem | with_reducible apply Quiet.jumpRelative | with_reducible apply Quiet.callTo | with_reducible apply Quiet.returnTo | with_reducible apply Quiet.readDisplacement | with_reducible apply Quiet.rdModify | with_reducible apply Quiet.rotMem | with_reducible apply Quiet.atDisplacement | with_reducible apply Quiet.inputC | with_reducible apply Quiet.loadIR | with_reducible apply Quiet.nibbleRotate | with_reducible apply Quiet.repeatWz | with_reducible apply Quiet.repeatPc | with_reducible apply Quiet.blockLoad | with_reducible apply Quiet.blockLoadRepeat | with_reducible apply Quiet.blockCompare | with_reducible apply Quiet.blockCompareRepeat | with_reducible apply Quiet.blockIn | with_reducible apply Quiet.blockInRepeat | with_reducible apply Quiet.blockOut | with_reducible apply Quiet.blockOutRepeat | with_reducible apply Quiet.rotXyd | with_reducible apply Quiet.resXyd | with_reducible apply Quiet.setXyd | with_reducible apply Quiet.bitXyd)

theorem Quiet.ldHalfImm (x : XY) (h : Half) (hq : Quiet s t) : Quiet s (Sys2Proof.Machine.ldHalfImm x h t) := by
  unfold Sys2Proof.Machine.ldHalfImm
  repeat (first | with_reducible exact hq | with_reducible apply Quiet.setPc | with_reducible apply Quiet.setWz | with_reducible apply Quiet.setSp | with_reducible apply Quiet.setReg | with_reducible apply Quiet.setA | with_reducible apply Quiet.setF | with_reducible apply Quiet.setB | with_reducible apply Quiet.setBc | with_reducible apply Quiet.setDe | with_reducible apply Quiet.setHl | with_reducible apply Quiet.setAf | with_reducible apply Quiet.setPair | with_reducible apply Quiet.setQPair | with_reducible apply Quiet.setXy | with_reducible apply Quiet.setHalf | with_reducible apply Quiet.alu | with_reducible apply Quiet.incF | with_reducible apply Quiet.decF | with_reducible apply Quiet.rotA | with_reducible apply Quiet.tick | with_reducible apply Quiet.rd | with_reducible apply Quiet.imm8 | with_reducible apply Quiet.wr | with_reducible apply Quiet.note | with_reducible apply Quiet.portRd | with_reducible apply Quiet.portWr | with_reducible apply Quiet.imm16 | with_reducible apply Quiet.push16 | with_reducible apply Quiet.pop16 | with_reducible apply Quiet.takenDelay | with_reducible apply Quiet.loadA | with_reducible apply Quiet.storeA | with_reducible apply Quiet.readWord | with_reducible apply Quiet.writeWord | with_reducible apply Quiet.exchangeTop | with_reducible apply Quiet.incMem | with_reducible apply Quiet.decMem | with_reducible apply Quiet.jumpRelative | with_reducible apply Quiet.callTo | with_reducible apply Quiet.returnTo | with_reducible apply Quiet.readDisplacement | with_reducible apply Quiet.rdModify | with_reducible apply Quiet.rotMem | with_reducible apply Quiet.atDisplacement | with_reducible apply Quiet.inputC | with_reducible apply Quiet.loadIR | with_reducible apply Quiet.nibbleRotate | with_reducible apply Quiet.repeatWz | with_reducible apply Quiet.repeatPc | with_reducible apply Quiet.blockLoad | with_reducible apply Quiet.blockLoadRepeat | with_reducible apply Quiet.blockCompare | with_reducible apply Quiet.blockCompareRepeat | with_reducible apply Quiet.blockIn | with_reducible apply Quiet.blockInRepeat | with_reducible apply Quiet.blockOut | with_reducible apply Quiet.blockOutRepeat | with_reducible apply Quiet.rotXyd | with_reducible apply Quiet.resXyd | with_reducible apply Quiet.setXyd | with_reducible apply Quiet.bitXyd)

theorem Quiet.ldRegHalf (x : XY) (r : PlainReg) (h : Half) (hq : Quiet s t) : Quiet s (Sys2Proof.Machine.ldRegHalf x r h t) := by
  unfold Sys2Proof.Machine.ldRegHalf
  repeat (first | with_reducible exact hq | with_reducible apply Quiet.setPc | with_reducible apply Quiet.setWz | with_reducible apply Quiet.setSp | with_reducible apply Quiet.setReg | with_reducible apply Quiet.setA | with_reducible apply Quiet.setF | with_reducible apply Quiet.setB | with_reducible apply Quiet.setBc | with_reducible apply Quiet.setDe | with_reducible apply Quiet.setHl | with_reducible apply Quiet.setAf | with_reducible apply Quiet.setPair | with_reducible apply Quiet.setQPair | with_reducible apply Quiet.setXy | with_reducible apply Quiet.setHalf | with_reducible apply Quiet.alu | with_reducible apply Quiet.incF | with_reducible apply Quiet.decF | with_reducible apply Quiet.rotA | with_reducible apply Quiet.tick | with_reducible apply Quiet.rd | with_reducible apply Quiet.imm8 | with_reducible apply Quiet.wr | with_reducible apply Quiet.note | with_reducible apply Quiet.portRd | with_reducible apply Quiet.portWr | with_reducible apply Quiet.imm16 | with_reducible apply Quiet.push16 | with_reducible apply Quiet.pop16 | with_reducible apply Quiet.takenDelay | with_reducible apply Quiet.loadA | with_reducible apply Quiet.storeA | with_reducible apply Quiet.readWord | with_reducible apply Quiet.writeWord | with_reducible apply Quiet.exchangeTop | with_reducible apply Quiet.incMem | with_reducible apply Quiet.decMem | with_reducible apply Quiet.jumpRelative | with_reducible apply Quiet.callTo | with_reducible apply Quiet.returnTo | with_reducible apply Quiet.readDisplacement | with_reducible apply Quiet.rdModify | with_reducible apply Quiet.rotMem | with_reducible apply Quiet.atDisplacement | with_reducible apply Quiet.inputC | with_reducible apply Quiet.loadIR | with_reducible apply Quiet.nibbleRotate | with_reducible apply Quiet.repeatWz | with_reducible apply Quiet.repeatPc | with_reducible apply Quiet.blockLoad | with_reducible apply Quiet.blockLoadRepeat | with_reducible apply Quiet.blockCompare | with_reducible apply Quiet.blockCompareRepeat | with_reducible apply Quiet.blockIn | with_reducible apply Quiet.blockInRepeat | with_reducible apply Quiet.blockOut | with_reducible apply Quiet.blockOutRepeat | with_reducible apply Quiet.rotXyd | with_reducible apply Quiet.resXyd | with_reducible apply Quiet.setXyd | with_reducible apply Quiet.bitXyd)

theorem Quiet.ldHalfReg (x : XY) (h : Half) (r : PlainReg) (hq : Quiet s t) : Quiet s (Sys2Proof.Machine.ldHalfReg x h r t) := by
  unfold Sys2Proof.Machine.ldHalfReg
  repeat (first | with_reducible exact hq | with_reducible apply Quiet.setPc | with_reducible apply Quiet.setWz | with_reducible apply Quiet.setSp | with_reducible apply Quiet.setReg | with_reducible apply Quiet.setA | with_reducible apply Quiet.setF | with_reducible apply Quiet.setB | with_reducible apply Quiet.setBc | with_reducible apply Quiet.setDe | with_reducible apply Quiet.setHl | with_reducible apply Quiet.setAf | with_reducible apply Quiet.setPair | with_reducible apply Quiet.setQPair | with_reducible apply Quiet.setXy | with_reducible apply Quiet.setHalf | with_reducible apply Quiet.alu | with_reducible apply Quiet.incF | with_reducible apply Quiet.decF | with_reducible apply Quiet.rotA | with_reducible apply Quiet.tick | with_reducible apply Quiet.rd | with_reducible apply Quiet.imm8 | with_reducible apply Quiet.wr | with_reducible apply Quiet.note | with_reducible apply Quiet.portRd | with_reducible apply Quiet.portWr | with_reducible apply Quiet.imm16 | with_reducible apply Quiet.push16 | with_reducible apply Quiet.pop16 | with_reducible apply Quiet.takenDelay | with_reducible apply Quiet.loadA | with_reducible apply Quiet.storeA | with_reducible apply Quiet.readWord | with_reducible apply Quiet.writeWord | with_reducible apply Quiet.exchangeTop | with_reducible apply Quiet.incMem | with_reducible apply Quiet.decMem | with_reducible apply Quiet.jumpRelative | with_reducible apply Quiet.callTo | with_reducible apply Quiet.returnTo | with_reducible apply Quiet.readDisplacement | with_reducible apply Quiet.rdModify | with_reducible apply Quiet.rotMem | with_reducible apply Quiet.atDisplacement | with_reducible apply Quiet.inputC | with_reducible apply Quiet.loadIR | with_reducible apply Quiet.nibbleRotate | with_reducible apply Quiet.repeatWz | with_reducible apply Quiet.repeatPc | with_reducible apply Quiet.blockLoad | with_reducible apply Quiet.blockLoadRepeat | with_reducible apply Quiet.blockCompare | with_reducible apply Quiet.blockCompareRepeat | with_reducible apply Quiet.blockIn | with_reducible apply Quiet.blockInRepeat | with_reducible apply Quiet.blockOut | with_reducible apply Quiet.blockOutRepeat | with_reducible apply Quiet.rotXyd | with_reducible apply Quiet.resXyd | with_reducible apply Quiet.setXyd | with_reducible apply Quiet.bitXyd)

theorem Quiet.ldHalfHalf (x : XY) (h : Half) (k : Half) (hq : Quiet s t) : Quiet s (Sys2Proof.Machine.ldHalfHalf x h k t) := by
  unfold Sys2Proof.Machine.ldHalfHalf
  repeat (first | with_reducible exact hq | with_reducible apply Quiet.setPc | with_reducible apply Quiet.setWz | with_reducible apply Quiet.setSp | with_reducible apply Quiet.setReg | with_reducible apply Quiet.setA | with_reducible apply Quiet.setF | with_reducible apply Quiet.setB | with_reducible apply Quiet.setBc | with_reducible apply Quiet.setDe | with_reducible apply Quiet.setHl | with_reducible apply Quiet.setAf | with_reducible apply Quiet.setPair | with_reducible apply Quiet.setQPair | with_reducible apply Quiet.setXy | with_reducible apply Quiet.setHalf | with_reducible apply Quiet.alu | with_reducible apply Quiet.incF | with_reducible apply Quiet.decF | with_reducible apply Quiet.rotA | with_reducible apply Quiet.tick | with_reducible apply Quiet.rd | with_reducible apply Quiet.imm8 | with_reducible apply Quiet.wr | with_reducible apply Quiet.note | with_reducible apply Quiet.portRd | with_reducible apply Quiet.portWr | with_reducible apply Quiet.imm16 | with_reducible apply Quiet.push16 | with_reducible apply Quiet.pop16 | with_reducible apply Quiet.takenDelay | with_reducible apply Quiet.loadA | with_reducible apply Quiet.storeA | with_reducible apply Quiet.readWord | with_reducible apply Quiet.writeWord | with_reducible apply Quiet.exchangeTop | with_reducible apply Quiet.incMem | with_reducible apply Quiet.decMem | with_reducible apply Quiet.jumpRelative | with_reducible apply Quiet.callTo | with_reducible apply Quiet.returnTo | with_reducible apply Quiet.readDisplacement | with_reducible apply Quiet.rdModify | with_reducible apply Quiet.rotMem | with_reducible apply Quiet.atDisplacement | with_reducible apply Quiet.inputC | with_reducible apply Quiet.loadIR | with_reducible apply Quiet.nibbleRotate | with_reducible apply Quiet.repeatWz | with_reducible apply Quiet.repeatPc | with_reducible apply Quiet.blockLoad | with_reducible apply Quiet.blockLoadRepeat | with_reducible apply Quiet.blockCompare | with_reducible apply Quiet.blockCompareRepeat | with_reducible apply Quiet.blockIn | with_reducible apply Quiet.blockInRepeat | with_reducible apply Quiet.blockOut | with_reducible apply Quiet.blockOutRepeat | with_reducible apply Quiet.rotXyd | with_reducible apply Quiet.resXyd | with_reducible apply Quiet.setXyd | with_reducible apply Quiet.bitXyd)

theorem Quiet.incHalf (x : XY) (h : Half) (hq : Quiet s t) : Quiet s (Sys2Proof.Machine.incHalf x h t) := by
  unfold Sys2Proof.Machine.incHalf
  repeat (first | with_reducible exact hq | with_reducible apply Quiet.setPc | with_reducible apply Quiet.setWz | with_reducible apply Quiet.setSp | with_reducible apply Quiet.setReg | with_reducible apply Quiet.setA | with_reducible apply Quiet.setF | with_reducible apply Quiet.setB | with_reducible apply Quiet.setBc | with_reducible apply Quiet.setDe | with_reducible apply Quiet.setHl | with_reducible apply Quiet.setAf | with_reducible apply Quiet.setPair | with_reducible apply Quiet.setQPair | with_reducible apply Quiet.setXy | with_reducible apply Quiet.setHalf | with_reducible apply Quiet.alu | with_reducible apply Quiet.incF | with_reducible apply Quiet.decF | with_reducible apply Quiet.rotA | with_reducible apply Quiet.tick | with_reducible apply Quiet.rd | with_reducible apply Quiet.imm8 | with_reducible apply Quiet.wr | with_reducible apply Quiet.note | with_reducible apply Quiet.portRd | with_reducible apply Quiet.portWr | with_reducible apply Quiet.imm16 | with_reducible apply Quiet.push16 | with_reducible apply Quiet.pop16 | with_reducible apply Quiet.takenDelay | with_reducible apply Quiet.loadA | with_reducible apply Quiet.storeA | with_reducible apply Quiet.readWord | with_reducible apply Quiet.writeWord | with_reducible apply Quiet.exchangeTop | with_reducible apply Quiet.incMem | with_reducible apply Quiet.decMem | with_reducible apply Quiet.jumpRelative | with_reducible apply Quiet.callTo | with_reducible apply Quiet.returnTo | with_reducible apply Quiet.readDisplacement | with_reducible apply Quiet.rdModify | with_reducible apply Quiet.rotMem | with_reducible apply Quiet.atDisplacement | with_reducible apply Quiet.inputC | with_reducible apply Quiet.loadIR | with_reducible apply Quiet.nibbleRotate | with_reducible apply Quiet.repeatWz | with_reducible apply Quiet.repeatPc | with_reducible apply Quiet.blockLoad | with_reducible apply Quiet.blockLoadRepeat | with_reducible apply Quiet.blockCompare | with_reducible apply Quiet.blockCompareRepeat | with_reducible apply Quiet.blockIn | with_reducible apply Quiet.blockInRepeat | with_reducible apply Quiet.blockOut | with_reducible apply Quiet.blockOutRepeat | with_reducible apply Quiet.rotXyd | with_reducible apply Quiet.resXyd | with_reducible apply Quiet.setXyd | with_reducible apply Quiet.bitXyd)

theorem Quiet.decHalf (x : XY) (h : Half) (hq : Quiet s t) : Quiet s (Sys2Proof.Machine.decHalf x h t) := by
  unfold Sys2Proof.Machine.decHalf
  repeat (first | with_reducible exact hq | with_reducible apply Quiet.setPc | with_reducible apply Quiet.setWz | with_reducible apply Quiet.setSp | with_reducible apply Quiet.setReg | with_reducible apply Quiet.setA | with_reducible apply Quiet.setF | with_reducible apply Quiet.setB | with_reducible apply Quiet.setBc | with_reducible apply Quiet.setDe | with_reducible apply Quiet.setHl | with_reducible apply Quiet.setAf | with_reducible apply Quiet.setPair | with_reducible apply Quiet.setQPair | with_reducible apply Quiet.setXy | with_reducible apply Quiet.setHalf | with_reducible apply Quiet.alu | with_reducible apply Quiet.incF | with_reducible apply Quiet.decF | with_reducible apply Quiet.rotA | with_reducible apply Quiet.tick | with_reducible apply Quiet.rd | with_reducible apply Quiet.imm8 | with_reducible apply Quiet.wr | with_reducible apply Quiet.note | with_reducible apply Quiet.portRd | with_reducible apply Quiet.portWr | with_reducible apply Quiet.imm16 | with_reducible apply Quiet.push16 | with_reducible apply Quiet.pop16 | with_reducible apply Quiet.takenDelay | with_reducible apply Quiet.loadA | with_reducible apply Quiet.storeA | with_reducible apply Quiet.readWord | with_reducible apply Quiet.writeWord | with_reducible apply Quiet.exchangeTop | with_reducible apply Quiet.incMem | with_reducible apply Quiet.decMem | with_reducible apply Quiet.jumpRelative | with_reducible apply Quiet.callTo | with_reducible apply Quiet.returnTo | with_reducible apply Quiet.readDisplacement | with_reducible apply Quiet.rdModify | with_reducible apply Quiet.rotMem | with_reducible apply Quiet.atDisplacement | with_reducible apply Quiet.inputC | with_reducible apply Quiet.loadIR | with_reducible apply Quiet.nibbleRotate | with_reducible apply Quiet.repeatWz | with_reducible apply Quiet.repeatPc | with_reducible apply Quiet.blockLoad | with_reducible apply Quiet.blockLoadRepeat | with_reducible apply Quiet.blockCompare | with_reducible apply Quiet.blockCompareRepeat | with_reducible apply Quiet.blockIn | with_reducible apply Quiet.blockInRepeat | with_reducible apply Quiet.blockOut | with_reducible apply Quiet.blockOutRepeat | with_reducible apply Quiet.rotXyd | with_reducible apply Quiet.resXyd | with_reducible apply Quiet.setXyd | with_reducible apply Quiet.bitXyd)

theorem Quiet.aluHalf (x : XY) (op : AluOp) (h : Half) (hq : Quiet s t) : Quiet s (Sys2Proof.Machine.aluHalf x op h t) := by
  unfold Sys2Proof.Machine.aluHalf
  repeat (first | with_reducible exact hq | with_reducible apply Quiet.setPc | with_reducible apply Quiet.setWz | with_reducible apply Quiet.setSp | with_reducible apply Quiet.setReg | with_reducible apply Quiet.setA | with_reducible apply Quiet.setF | with_reducible apply Quiet.setB | with_reducible apply Quiet.setBc | with_reducible apply Quiet.setDe | with_reducible apply Quiet.setHl | with_reducible apply Quiet.setAf | with_reducible apply Quiet.setPair | with_reducible apply Quiet.setQPair | with_reducible apply Quiet.setXy | with_reducible apply Quiet.setHalf | with_reducible apply Quiet.alu | with_reducible apply Quiet.incF | with_reducible apply Quiet.decF | with_reducible apply Quiet.rotA | with_reducible apply Quiet.tick | with_reducible apply Quiet.rd | with_reducible apply Quiet.imm8 | with_reducible apply Quiet.wr | with_reducible apply Quiet.note | with_reducible apply Quiet.portRd | with_reducible apply Quiet.portWr | with_reducible apply Quiet.imm16 | with_reducible apply Quiet.push16 | with_reducible apply Quiet.pop16 | with_reducible apply Quiet.takenDelay | with_reducible apply Quiet.loadA | with_reducible apply Quiet.storeA | with_reducible apply Quiet.readWord | with_reducible apply Quiet.writeWord | with_reducible apply Quiet.exchangeTop | with_reducible apply Quiet.incMem | with_reducible apply Quiet.decMem | with_reducible apply Quiet.jumpRelative | with_reducible apply Quiet.callTo | with_reducible apply Quiet.returnTo | with_reducible apply Quiet.readDisplacement | with_reducible apply Quiet.rdModify | with_reducible apply Quiet.rotMem | with_reducible apply Quiet.atDisplacement | with_reducible apply Quiet.inputC | with_reducible apply Quiet.loadIR | with_reducible apply Quiet.nibbleRotate | with_reducible apply Quiet.repeatWz | with_reducible apply Quiet.repeatPc | with_reducible apply Quiet.blockLoad | with_reducible apply Quiet.blockLoadRepeat | with_reducible apply Quiet.blockCompare | with_reducible apply Quiet.blockCompareRepeat | with_reducible apply Quiet.blockIn | with_reducible apply Quiet.blockInRepeat | with_reducible apply Quiet.blockOut | with_reducible apply Quiet.blockOutRepeat | with_reducible apply Quiet.rotXyd | with_reducible apply Quiet.resXyd | with_reducible apply Quiet.setXyd | with_reducible apply Quiet.bitXyd)

theorem Quiet.rotReg (k : RotOp) (r : Reg8) (hq : Quiet s t) : Quiet s (Sys2Proof.Machine.rotReg k r t) := by
  unfold Sys2Proof.Machine.rotReg
  dsimp only
  repeat (first | with_reducible exact hq | with_reducible apply Quiet.setPc | with_reducible apply Quiet.setWz | with_reducible apply Quiet.setSp | with_reducible apply Quiet.setReg | with_reducible apply Quiet.setA | with_reducible apply Quiet.setF | with_reducible apply Quiet.setB | with_reducible apply Quiet.setBc | with_reducible apply Quiet.setDe | with_reducible apply Quiet.setHl | with_reducible apply Quiet.setAf | with_reducible apply Quiet.setPair | with_reducible apply Quiet.setQPair | with_reducible apply Quiet.setXy | with_reducible apply Quiet.setHalf | with_reducible apply Quiet.alu | with_reducible apply Quiet.incF | with_reducible apply Quiet.decF | with_reducible apply Quiet.rotA | with_reducible apply Quiet.tick | with_reducible apply Quiet.rd | with_reducible apply Quiet.imm8 | with_reducible apply Quiet.wr | with_reducible apply Quiet.note | with_reducible apply Quiet.portRd | with_reducible apply Quiet.portWr | with_reducible apply Quiet.imm16 | with_reducible apply Quiet.push16 | with_reducible apply Quiet.pop16 | with_reducible apply Quiet.takenDelay | with_reducible apply Quiet.loadA | with_reducible apply Quiet.storeA | with_reducible apply Quiet.readWord | with_reducible apply Quiet.writeWord | with_reducible apply Quiet.exchangeTop | with_reducible apply Quiet.incMem | with_reducible apply Quiet.decMem | with_reducible apply Quiet.jumpRelative | with_reducible apply Quiet.callTo | with_reducible apply Quiet.returnTo | with_reducible apply Quiet.readDisplacement | with_reducible apply Quiet.rdModify | with_reducible apply Quiet.rotMem | with_reducible apply Quiet.atDisplacement | with_reducible apply Quiet.inputC | with_reducible apply Quiet.loadIR | with_reducible apply Quiet.nibbleRotate | with_reducible apply Quiet.repeatWz | with_reducible apply Quiet.repeatPc | with_reducible apply Quiet.blockLoad | with_reducible apply Quiet.blockLoadRepeat | with_reducible apply Quiet.blockCompare | with_reducible apply Quiet.blockCompareRepeat | with_reducible apply Quiet.blockIn | with_reducible apply Quiet.blockInRepeat | with_reducible apply Quiet.blockOut | with_reducible apply Quiet.blockOutRepeat | with_reducible apply Quiet.rotXyd | with_reducible apply Quiet.resXyd | with_reducible apply Quiet.setXyd | with_reducible apply Quiet.bitXyd)

theorem Quiet.rotAtHl (k : RotOp) (hq : Quiet s t) : Quiet s (Sys2Proof.Machine.rotAtHl k t) := by
  unfold Sys2Proof.Machine.rotAtHl
  repeat (first | with_reducible exact hq | with_reducible apply Quiet.setPc | with_reducible apply Quiet.setWz | with_reducible apply Quiet.setSp | with_reducible apply Quiet.setReg | with_reducible apply Quiet.setA | with_reducible apply Quiet.setF | with_reducible apply Quiet.setB | with_reducible apply Quiet.setBc | with_reducible apply Quiet.setDe | with_reducible apply Quiet.setHl | with_reducible apply Quiet.setAf | with_reducible apply Quiet.setPair | with_reducible apply Quiet.setQPair | with_reducible apply Quiet.setXy | with_reducible apply Quiet.setHalf | with_reducible apply Quiet.alu | with_reducible apply Quiet.incF | with_reducible apply Quiet.decF | with_reducible apply Quiet.rotA | with_reducible apply Quiet.tick | with_reducible apply Quiet.rd | with_reducible apply Quiet.imm8 | with_reducible apply Quiet.wr | with_reducible apply Quiet.note | with_reducible apply Quiet.portRd | with_reducible apply Quiet.portWr | with_reducible apply Quiet.imm16 | with_reducible apply Quiet.push16 | with_reducible apply Quiet.pop16 | with_reducible apply Quiet.takenDelay | with_reducible apply Quiet.loadA | with_reducible apply Quiet.storeA | with_reducible apply Quiet.readWord | with_reducible apply Quiet.writeWord | with_reducible apply Quiet.exchangeTop | with_reducible apply Quiet.incMem | with_reducible apply Quiet.decMem | with_reducible apply Quiet.jumpRelative | with_reducible apply Quiet.callTo | with_reducible apply Quiet.returnTo | with_reducible apply Quiet.readDisplacement | with_reducible apply Quiet.rdModify | with_reducible apply Quiet.rotMem | with_reducible apply Quiet.atDisplacement | with_reducible apply Quiet.inputC | with_reducible apply Quiet.loadIR | with_reducible apply Quiet.nibbleRotate | with_reducible apply Quiet.repeatWz | with_reducible apply Quiet.repeatPc | with_reducible apply Quiet.blockLoad | with_reducible apply Quiet.blockLoadRepeat | with_reducible apply Quiet.blockCompare | with_reducible apply Quiet.blockCompareRepeat | with_reducible apply Quiet.blockIn | with_reducible apply Quiet.blockInRepeat | with_reducible apply Quiet.blockOut | with_reducible apply Quiet.blockOutRepeat | with_reducible apply Quiet.rotXyd | with_reducible apply Quiet.resXyd | with_reducible apply Quiet.setXyd | with_reducible apply Quiet.bitXyd)

theorem Quiet.bitReg (b : BitNo) (r : Reg8) (hq : Quiet s t) : Quiet s (Sys2Proof.Machine.bitReg b r t) := by
  unfold Sys2Proof.Machine.bitReg
  repeat (first | with_reducible exact hq | with_reducible apply Quiet.setPc | with_reducible apply Quiet.setWz | with_reducible apply Quiet.setSp | with_reducible apply Quiet.setReg | with_reducible apply Quiet.setA | with_reducible apply Quiet.setF | with_reducible apply Quiet.setB | with_reducible apply Quiet.setBc | with_reducible apply Quiet.setDe | with_reducible apply Quiet.setHl | with_reducible apply Quiet.setAf | with_reducible apply Quiet.setPair | with_reducible apply Quiet.setQPair | with_reducible apply Quiet.setXy | with_reducible apply Quiet.setHalf | with_reducible apply Quiet.alu | with_reducible apply Quiet.incF | with_reducible apply Quiet.decF | with_reducible apply Quiet.rotA | with_reducible apply Quiet.tick | with_reducible apply Quiet.rd | with_reducible apply Quiet.imm8 | with_reducible apply Quiet.wr | with_reducible apply Quiet.note | with_reducible apply Quiet.portRd | with_reducible apply Quiet.portWr | with_reducible apply Quiet.imm16 | with_reducible apply Quiet.push16 | with_reducible apply Quiet.pop16 | with_reducible apply Quiet.takenDelay | with_reducible apply Quiet.loadA | with_reducible apply Quiet.storeA | with_reducible apply Quiet.readWord | with_reducible apply Quiet.writeWord | with_reducible apply Quiet.exchangeTop | with_reducible apply Quiet.incMem | with_reducible apply Quiet.decMem | with_reducible apply Quiet.jumpRelative | with_reducible apply Quiet.callTo | with_reducible apply Quiet.returnTo | with_reducible apply Quiet.readDisplacement | with_reducible apply Quiet.rdModify | with_reducible apply Quiet.rotMem | with_reducible apply Quiet.atDisplacement | with_reducible apply Quiet.inputC | with_reducible apply Quiet.loadIR | with_reducible apply Quiet.nibbleRotate | with_reducible apply Quiet.repeatWz | with_reducible apply Quiet.repeatPc | with_reducible apply Quiet.blockLoad | with_reducible apply Quiet.blockLoadRepeat | with_reducible apply Quiet.blockCompare | with_reducible apply Quiet.blockCompareRepeat | with_reducible apply Quiet.blockIn | with_reducible apply Quiet.blockInRepeat | with_reducible apply Quiet.blockOut | with_reducible apply Quiet.blockOutRepeat | with_reducible apply Quiet.rotXyd | with_reducible apply Quiet.resXyd | with_reducible apply Quiet.setXyd | with_reducible apply Quiet.bitXyd)

theorem Quiet.bitAtHl (b : BitNo) (hq : Quiet s t) : Quiet s (Sys2Proof.Machine.bitAtHl b t) := by
  unfold Sys2Proof.Machine.bitAtHl
  repeat (first | with_reducible exact hq | with_reducible apply Quiet.setPc | with_reducible apply Quiet.setWz | with_reducible apply Quiet.setSp | with_reducible apply Quiet.setReg | with_reducible apply Quiet.setA | with_reducible apply Quiet.setF | with_reducible apply Quiet.setB | with_reducible apply Quiet.setBc | with_reducible apply Quiet.setDe | with_reducible apply Quiet.setHl | with_reducible apply Quiet.setAf | with_reducible apply Quiet.setPair | with_reducible apply Quiet.setQPair | with_reducible apply Quiet.setXy | with_reducible apply Quiet.setHalf | with_reducible apply Quiet.alu | with_reducible apply Quiet.incF | with_reducible apply Quiet.decF | with_reducible apply Quiet.rotA | with_reducible apply Quiet.tick | with_reducible apply Quiet.rd | with_reducible apply Quiet.imm8 | with_reducible apply Quiet.wr | with_reducible apply Quiet.note | with_reducible apply Quiet.portRd | with_reducible apply Quiet.portWr | with_reducible apply Quiet.imm16 | with_reducible apply Quiet.push16 | with_reducible apply Quiet.pop16 | with_reducible apply Quiet.takenDelay | with_reducible apply Quiet.loadA | with_reducible apply Quiet.storeA | with_reducible apply Quiet.readWord | with_reducible apply Quiet.writeWord | with_reducible apply Quiet.exchangeTop | with_reducible apply Quiet.incMem | with_reducible apply Quiet.decMem | with_reducible apply Quiet.jumpRelative | with_reducible apply Quiet.callTo | with_reducible apply Quiet.returnTo | with_reducible apply Quiet.readDisplacement | with_reducible apply Quiet.rdModify | with_reducible apply Quiet.rotMem | with_reducible apply Quiet.atDisplacement | with_reducible apply Quiet.inputC | with_reducible apply Quiet.loadIR | with_reducible apply Quiet.nibbleRotate | with_reducible apply Quiet.repeatWz | with_reducible apply Quiet.repeatPc | with_reducible apply Quiet.blockLoad | with_reducible apply Quiet.blockLoadRepeat | with_reducible apply Quiet.blockCompare | with_reducible apply Quiet.blockCompareRepeat | with_reducible apply Quiet.blockIn | with_reducible apply Quiet.blockInRepeat | with_reducible apply Quiet.blockOut | with_reducible apply Quiet.blockOutRepeat | with_reducible apply Quiet.rotXyd | with_reducible apply Quiet.resXyd | with_reducible apply Quiet.setXyd | with_reducible apply Quiet.bitXyd)

theorem Quiet.resReg (b : BitNo) (r : Reg8) (hq : Quiet s t) : Quiet s (Sys2Proof.Machine.resReg b r t) := by
  unfold Sys2Proof.Machine.resReg
  repeat (first | with_reducible exact hq | with_reducible apply Quiet.setPc | with_reducible apply Quiet.setWz | with_reducible apply Quiet.setSp | with_reducible apply Quiet.setReg | with_reducible apply Quiet.setA | with_reducible apply Quiet.setF | with_reducible apply Quiet.setB | with_reducible apply Quiet.setBc | with_reducible apply Quiet.setDe | with_reducible apply Quiet.setHl | with_reducible apply Quiet.setAf | with_reducible apply Quiet.setPair | with_reducible apply Quiet.setQPair | with_reducible apply Quiet.setXy | with_reducible apply Quiet.setHalf | with_reducible apply Quiet.alu | with_reducible apply Quiet.incF | with_reducible apply Quiet.decF | with_reducible apply Quiet.rotA | with_reducible apply Quiet.tick | with_reducible apply Quiet.rd | with_reducible apply Quiet.imm8 | with_reducible apply Quiet.wr | with_reducible apply Quiet.note | with_reducible apply Quiet.portRd | with_reducible apply Quiet.portWr | with_reducible apply Quiet.imm16 | with_reducible apply Quiet.push16 | with_reducible apply Quiet.pop16 | with_reducible apply Quiet.takenDelay | with_reducible apply Quiet.loadA | with_reducible apply Quiet.storeA | with_reducible apply Quiet.readWord | with_reducible apply Quiet.writeWord | with_reducible apply Quiet.exchangeTop | with_reducible apply Quiet.incMem | with_reducible apply Quiet.decMem | with_reducible apply Quiet.jumpRelative | with_reducible apply Quiet.callTo | with_reducible apply Quiet.returnTo | with_reducible apply Quiet.readDisplacement | with_reducible apply Quiet.rdModify | with_reducible apply Quiet.rotMem | with_reducible apply Quiet.atDisplacement | with_reducible apply Quiet.inputC | with_reducible apply Quiet.loadIR | with_reducible apply Quiet.nibbleRotate | with_reducible apply Quiet.repeatWz | with_reducible apply Quiet.repeatPc | with_reducible apply Quiet.blockLoad | with_reducible apply Quiet.blockLoadRepeat | with_reducible apply Quiet.blockCompare | with_reducible apply Quiet.blockCompareRepeat | with_reducible apply Quiet.blockIn | with_reducible apply Quiet.blockInRepeat | with_reducible apply Quiet.blockOut | with_reducible apply Quiet.blockOutRepeat | with_reducible apply Quiet.rotXyd | with_reducible apply Quiet.resXyd | with_reducible apply Quiet.setXyd | with_reducible apply Quiet.bitXyd)

theorem Quiet.resAtHl (b : BitNo) (hq : Quiet s t) : Quiet s (Sys2Proof.Machine.resAtHl b t) := by
  unfold Sys2Proof.Machine.resAtHl
  repeat (first | with_reducible exact hq | with_reducible apply Quiet.setPc | with_reducible apply Quiet.setWz | with_reducible apply Quiet.setSp | with_reducible apply Quiet.setReg | with_reducible apply Quiet.setA | with_reducible apply Quiet.setF | with_reducible apply Quiet.setB | with_reducible apply Quiet.setBc | with_reducible apply Quiet.setDe | with_reducible apply Quiet.setHl | with_reducible apply Quiet.setAf | with_reducible apply Quiet.setPair | with_reducible apply Quiet.setQPair | with_reducible apply Quiet.setXy | with_reducible apply Quiet.setHalf | with_reducible apply Quiet.alu | with_reducible apply Quiet.incF | with_reducible apply Quiet.decF | with_reducible apply Quiet.rotA | with_reducible apply Quiet.tick | with_reducible apply Quiet.rd | with_reducible apply Quiet.imm8 | with_reducible apply Quiet.wr | with_reducible apply Quiet.note | with_reducible apply Quiet.portRd | with_reducible apply Quiet.portWr | with_reducible apply Quiet.imm16 | with_reducible apply Quiet.push16 | with_reducible apply Quiet.pop16 | with_reducible apply Quiet.takenDelay | with_reducible apply Quiet.loadA | with_reducible apply Quiet.storeA | with_reducible apply Quiet.readWord | with_reducible apply Quiet.writeWord | with_reducible apply Quiet.exchangeTop | with_reducible apply Quiet.incMem | with_reducible apply Quiet.decMem | with_reducible apply Quiet.jumpRelative | with_reducible apply Quiet.callTo | with_reducible apply Quiet.returnTo | with_reducible apply Quiet.readDisplacement | with_reducible apply Quiet.rdModify | with_reducible apply Quiet.rotMem | with_reducible apply Quiet.atDisplacement | with_reducible apply Quiet.inputC | with_reducible apply Quiet.loadIR | with_reducible apply Quiet.nibbleRotate | with_reducible apply Quiet.repeatWz | with_reducible apply Quiet.repeatPc | with_reducible apply Quiet.blockLoad | with_reducible apply Quiet.blockLoadRepeat | with_reducible apply Quiet.blockCompare | with_reducible apply Quiet.blockCompareRepeat | with_reducible apply Quiet.blockIn | with_reducible apply Quiet.blockInRepeat | with_reducible apply Quiet.blockOut | with_reducible apply Quiet.blockOutRepeat | with_reducible apply Quiet.rotXyd | with_reducible apply Quiet.resXyd | with_reducible apply Quiet.setXyd | with_reducible apply Quiet.bitXyd)

theorem Quiet.setBitReg (b : BitNo) (r : Reg8) (hq : Quiet s t) : Quiet s (Sys2Proof.Machine.setBitReg b r t) := by
  unfold Sys2Proof.Machine.setBitReg
  repeat (first | with_reducible exact hq | with_reducible apply Quiet.setPc | with_reducible apply Quiet.setWz | with_reducible apply Quiet.setSp | with_reducible apply Quiet.setReg | with_reducible apply Quiet.setA | with_reducible apply Quiet.setF | with_reducible apply Quiet.setB | with_reducible apply Quiet.setBc | with_reducible apply Quiet.setDe | with_reducible apply Quiet.setHl | with_reducible apply Quiet.setAf | with_reducible apply Quiet.setPair | with_reducible apply Quiet.setQPair | with_reducible apply Quiet.setXy | with_reducible apply Quiet.setHalf | with_reducible apply Quiet.alu | with_reducible apply Quiet.incF | with_reducible apply Quiet.decF | with_reducible apply Quiet.rotA | with_reducible apply Quiet.tick | with_reducible apply Quiet.rd | with_reducible apply Quiet.imm8 | with_reducible apply Quiet.wr | with_reducible apply Quiet.note | with_reducible apply Quiet.portRd | with_reducible apply Quiet.portWr | with_reducible apply Quiet.imm16 | with_reducible apply Quiet.push16 | with_reducible apply Quiet.pop16 | with_reducible apply Quiet.takenDelay | with_reducible apply Quiet.loadA | with_reducible apply Quiet.storeA | with_reducible apply Quiet.readWord | with_reducible apply Quiet.writeWord | with_reducible apply Quiet.exchangeTop | with_reducible apply Quiet.incMem | with_reducible apply Quiet.decMem | with_reducible apply Quiet.jumpRelative | with_reducible apply Quiet.callTo | with_reducible apply Quiet.returnTo | with_reducible apply Quiet.readDisplacement | with_reducible apply Quiet.rdModify | with_reducible apply Quiet.rotMem | with_reducible apply Quiet.atDisplacement | with_reducible apply Quiet.inputC | with_reducible apply Quiet.loadIR | with_reducible apply Quiet.nibbleRotate | with_reducible apply Quiet.repeatWz | with_reducible apply Quiet.repeatPc | with_reducible apply Quiet.blockLoad | with_reducible apply Quiet.blockLoadRepeat | with_reducible apply Quiet.blockCompare | with_reducible apply Quiet.blockCompareRepeat | with_reducible apply Quiet.blockIn | with_reducible apply Quiet.blockInRepeat | with_reducible apply Quiet.blockOut | with_reducible apply Quiet.blockOutRepeat | with_reducible apply Quiet.rotXyd | with_reducible apply Quiet.resXyd | with_reducible apply Quiet.setXyd | with_reducible apply Quiet.bitXyd)

theorem Quiet.setAtHl (b : BitNo) (hq : Quiet s t) : Quiet s (Sys2Proof.Machine.setAtHl b t) := by
  unfold Sys2Proof.Machine.setAtHl
  repeat (first | with_reducible exact hq | with_reducible apply Quiet.setPc | with_reducible apply Quiet.setWz | with_reducible apply Quiet.setSp | with_reducible apply Quiet.setReg | with_reducible apply Quiet.setA | with_reducible apply Quiet.setF | with_reducible apply Quiet.setB | with_reducible apply Quiet.setBc | with_reducible apply Quiet.setDe | with_reducible apply Quiet.setHl | with_reducible apply Quiet.setAf | with_reducible apply Quiet.setPair | with_reducible apply Quiet.setQPair | with_reducible apply Quiet.setXy | with_reducible apply Quiet.setHalf | with_reducible apply Quiet.alu | with_reducible apply Quiet.incF | with_reducible apply Quiet.decF | with_reducible apply Quiet.rotA | with_reducible apply Quiet.tick | with_reducible apply Quiet.rd | with_reducible apply Quiet.imm8 | with_reducible apply Quiet.wr | with_reducible apply Quiet.note | with_reducible apply Quiet.portRd | with_reducible apply Quiet.portWr | with_reducible apply Quiet.imm16 | with_reducible apply Quiet.push16 | with_reducible apply Quiet.pop16 | with_reducible apply Quiet.takenDelay | with_reducible apply Quiet.loadA | with_reducible apply Quiet.storeA | with_reducible apply Quiet.readWord | with_reducible apply Quiet.writeWord | with_reducible apply Quiet.exchangeTop | with_reducible apply Quiet.incMem | with_reducible apply Quiet.decMem | with_reducible apply Quiet.jumpRelative | with_reducible apply Quiet.callTo | with_reducible apply Quiet.returnTo | with_reducible apply Quiet.readDisplacement | with_reducible apply Quiet.rdModify | with_reducible apply Quiet.rotMem | with_reducible apply Quiet.atDisplacement | with_reducible apply Quiet.inputC | with_reducible apply Quiet.loadIR | with_reducible apply Quiet.nibbleRotate | with_reducible apply Quiet.repeatWz | with_reducible apply Quiet.repeatPc | with_reducible apply Quiet.blockLoad | with_reducible apply Quiet.blockLoadRepeat | with_reducible apply Quiet.blockCompare | with_reducible apply Quiet.blockCompareRepeat | with_reducible apply Quiet.blockIn | with_reducible apply Quiet.blockInRepeat | with_reducible apply Quiet.blockOut | with_reducible apply Quiet.blockOutRepeat | with_reducible apply Quiet.rotXyd | with_reducible apply Quiet.resXyd | with_reducible apply Quiet.setXyd | with_reducible apply Quiet.bitXyd)

theorem Quiet.rotXydCopy (x : XY) (k : RotOp) (r : Reg8) (hq : Quiet s t) : Quiet s (Sys2Proof.Machine.rotXydCopy x k r t) := by
  unfold Sys2Proof.Machine.rotXydCopy
  repeat (first | with_reducible exact hq | with_reducible apply Quiet.setPc | with_reducible apply Quiet.setWz | with_reducible apply Quiet.setSp | with_reducible apply Quiet.setReg | with_reducible apply Quiet.setA | with_reducible apply Quiet.setF | with_reducible apply Quiet.setB | with_reducible apply Quiet.setBc | with_reducible apply Quiet.setDe | with_reducible apply Quiet.setHl | with_reducible apply Quiet.setAf | with_reducible apply Quiet.setPair | with_reducible apply Quiet.setQPair | with_reducible apply Quiet.setXy | with_reducible apply Quiet.setHalf | with_reducible apply Quiet.alu | with_reducible apply Quiet.incF | with_reducible apply Quiet.decF | with_reducible apply Quiet.rotA | with_reducible apply Quiet.tick | with_reducible apply Quiet.rd | with_reducible apply Quiet.imm8 | with_reducible apply Quiet.wr | with_reducible apply Quiet.note | with_reducible apply Quiet.portRd | with_reducible apply Quiet.portWr | with_reducible apply Quiet.imm16 | with_reducible apply Quiet.push16 | with_reducible apply Quiet.pop16 | with_reducible apply Quiet.takenDelay | with_reducible apply Quiet.loadA | with_reducible apply Quiet.storeA | with_reducible apply Quiet.readWord | with_reducible apply Quiet.writeWord | with_reducible apply Quiet.exchangeTop | with_reducible apply Quiet.incMem | with_reducible apply Quiet.decMem | with_reducible apply Quiet.jumpRelative | with_reducible apply Quiet.callTo | with_reducible apply Quiet.returnTo | with_reducible apply Quiet.readDisplacement | with_reducible apply Quiet.rdModify | with_reducible apply Quiet.rotMem | with_reducible apply Quiet.atDisplacement | with_reducible apply Quiet.inputC | with_reducible apply Quiet.loadIR | with_reducible apply Quiet.nibbleRotate | with_reducible apply Quiet.repeatWz | with_reducible apply Quiet.repeatPc | with_reducible apply Quiet.blockLoad | with_reducible apply Quiet.blockLoadRepeat | with_reducible apply Quiet.blockCompare | with_reducible apply Quiet.blockCompareRepeat | with_reducible apply Quiet.blockIn | with_reducible apply Quiet.blockInRepeat | with_reducible apply Quiet.blockOut | with_reducible apply Quiet.blockOutRepeat | with_reducible apply Quiet.rotXyd | with_reducible apply Quiet.resXyd | with_reducible apply Quiet.setXyd | with_reducible apply Quiet.bitXyd)

theorem Quiet.resXydCopy (x : XY) (b : BitNo) (r : Reg8) (hq : Quiet s t) : Quiet s (Sys2Proof.Machine.resXydCopy x b r t) := by
  unfold Sys2Proof.Machine.resXydCopy
  repeat (first | with_reducible exact hq | with_reducible apply Quiet.setPc | with_reducible apply Quiet.setWz | with_reducible apply Quiet.setSp | with_reducible apply Quiet.setReg | with_reducible apply Quiet.setA | with_reducible apply Quiet.setF | with_reducible apply Quiet.setB | with_reducible apply Quiet.setBc | with_reducible apply Quiet.setDe | with_reducible apply Quiet.setHl | with_reducible apply Quiet.setAf | with_reducible apply Quiet.setPair | with_reducible apply Quiet.setQPair | with_reducible apply Quiet.setXy | with_reducible apply Quiet.setHalf | with_reducible apply Quiet.alu | with_reducible apply Quiet.incF | with_reducible apply Quiet.decF | with_reducible apply Quiet.rotA | with_reducible apply Quiet.tick | with_reducible apply Quiet.rd | with_reducible apply Quiet.imm8 | with_reducible apply Quiet.wr | with_reducible apply Quiet.note | with_reducible apply Quiet.portRd | with_reducible apply Quiet.portWr | with_reducible apply Quiet.imm16 | with_reducible apply Quiet.push16 | with_reducible apply Quiet.pop16 | with_reducible apply Quiet.takenDelay | with_reducible apply Quiet.loadA | with_reducible apply Quiet.storeA | with_reducible apply Quiet.readWord | with_reducible apply Quiet.writeWord | with_reducible apply Quiet.exchangeTop | with_reducible apply Quiet.incMem | with_reducible apply Quiet.decMem | with_reducible apply Quiet.jumpRelative | with_reducible apply Quiet.callTo | with_reducible apply Quiet.returnTo | with_reducible apply Quiet.readDisplacement | with_reducible apply Quiet.rdModify | with_reducible apply Quiet.rotMem | with_reducible apply Quiet.atDisplacement | with_reducible apply Quiet.inputC | with_reducible apply Quiet.loadIR | with_reducible apply Quiet.nibbleRotate | with_reducible apply Quiet.repeatWz | with_reducible apply Quiet.repeatPc | with_reducible apply Quiet.blockLoad | with_reducible apply Quiet.blockLoadRepeat | with_reducible apply Quiet.blockCompare | with_reducible apply Quiet.blockCompareRepeat | with_reducible apply Quiet.blockIn | with_reducible apply Quiet.blockInRepeat | with_reducible apply Quiet.blockOut | with_reducible apply Quiet.blockOutRepeat | with_reducible apply Quiet.rotXyd | with_reducible apply Quiet.resXyd | with_reducible apply Quiet.setXyd | with_reducible apply Quiet.bitXyd)

theorem Quiet.setXydCopy (x : XY) (b : BitNo) (r : Reg8) (hq : Quiet s t) : Quiet s (Sys2Proof.Machine.setXydCopy x b r t) := by
  unfold Sys2Proof.Machine.setXydCopy
  repeat (first | with_reducible exact hq | with_reducible apply Quiet.setPc | with_reducible apply Quiet.setWz | with_reducible apply Quiet.setSp | with_reducible apply Quiet.setReg | with_reducible apply Quiet.setA | with_reducible apply Quiet.setF | with_reducible apply Quiet.setB | with_reducible apply Quiet.setBc | with_reducible apply Quiet.setDe | with_reducible apply Quiet.setHl | with_reducible apply Quiet.setAf | with_reducible apply Quiet.setPair | with_reducible apply Quiet.setQPair | with_reducible apply Quiet.setXy | with_reducible apply Quiet.setHalf | with_reducible apply Quiet.alu | with_reducible apply Quiet.incF | with_reducible apply Quiet.decF | with_reducible apply Quiet.rotA | with_reducible apply Quiet.tick | with_reducible apply Quiet.rd | with_reducible apply Quiet.imm8 | with_reducible apply Quiet.wr | with_reducible apply Quiet.note | with_reducible apply Quiet.portRd | with_reducible apply Quiet.portWr | with_reducible apply Quiet.imm16 | with_reducible apply Quiet.push16 | with_reducible apply Quiet.pop16 | with_reducible apply Quiet.takenDelay | with_reducible apply Quiet.loadA | with_reducible apply Quiet.storeA | with_reducible apply Quiet.readWord | with_reducible apply Quiet.writeWord | with_reducible apply Quiet.exchangeTop | with_reducible apply Quiet.incMem | with_reducible apply Quiet.decMem | with_reducible apply Quiet.jumpRelative | with_reducible apply Quiet.callTo | with_reducible apply Quiet.returnTo | with_reducible apply Quiet.readDisplacement | with_reducible apply Quiet.rdModify | with_reducible apply Quiet.rotMem | with_reducible apply Quiet.atDisplacement | with_reducible apply Quiet.inputC | with_reducible apply Quiet.loadIR | with_reducible apply Quiet.nibbleRotate | with_reducible apply Quiet.repeatWz | with_reducible apply Quiet.repeatPc | with_reducible apply Quiet.blockLoad | with_reducible apply Quiet.blockLoadRepeat | with_reducible apply Quiet.blockCompare | with_reducible apply Quiet.blockCompareRepeat | with_reducible apply Quiet.blockIn | with_reducible apply Quiet.blockInRepeat | with_reducible apply Quiet.blockOut | with_reducible apply Quiet.blockOutRepeat | with_reducible apply Quiet.rotXyd | with_reducible apply Quiet.resXyd | with_reducible apply Quiet.setXyd | with_reducible apply Quiet.bitXyd)

theorem Quiet.inReg (r : Reg8) (hq : Quiet s t) : Quiet s (Sys2Proof.Machine.inReg r t) := by
  unfold Sys2Proof.Machine.inReg
  repeat (first | with_reducible exact hq | with_reducible apply Quiet.setPc | with_reducible apply Quiet.setWz | with_reducible apply Quiet.setSp | with_reducible apply Quiet.setReg | with_reducible apply Quiet.setA | with_reducible apply Quiet.setF | with_reducible apply Quiet.setB | with_reducible apply Quiet.setBc | with_reducible apply Quiet.setDe | with_reducible apply Quiet.setHl | with_reducible apply Quiet.setAf | with_reducible apply Quiet.setPair | with_reducible apply Quiet.setQPair | with_reducible apply Quiet.setXy | with_reducible apply Quiet.setHalf | with_reducible apply Quiet.alu | with_reducible apply Quiet.incF | with_reducible apply Quiet.decF | with_reducible apply Quiet.rotA | with_reducible apply Quiet.tick | with_reducible apply Quiet.rd | with_reducible apply Quiet.imm8 | with_reducible apply Quiet.wr | with_reducible apply Quiet.note | with_reducible apply Quiet.portRd | with_reducible apply Quiet.portWr | with_reducible apply Quiet.imm16 | with_reducible apply Quiet.push16 | with_reducible apply Quiet.pop16 | with_reducible apply Quiet.takenDelay | with_reducible apply Quiet.loadA | with_reducible apply Quiet.storeA | with_reducible apply Quiet.readWord | with_reducible apply Quiet.writeWord | with_reducible apply Quiet.exchangeTop | with_reducible apply Quiet.incMem | with_reducible apply Quiet.decMem | with_reducible apply Quiet.jumpRelative | with_reducible apply Quiet.callTo | with_reducible apply Quiet.returnTo | with_reducible apply Quiet.readDisplacement | with_reducible apply Quiet.rdModify | with_reducible apply Quiet.rotMem | with_reducible apply Quiet.atDisplacement | with_reducible apply Quiet.inputC | with_reducible apply Quiet.loadIR | with_reducible apply Quiet.nibbleRotate | with_reducible apply Quiet.repeatWz | with_reducible apply Quiet.repeatPc | with_reducible apply Quiet.blockLoad | with_reducible apply Quiet.blockLoadRepeat | with_reducible apply Quiet.blockCompare | with_reducible apply Quiet.blockCompareRepeat | with_reducible apply Quiet.blockIn | with_reducible apply Quiet.blockInRepeat | with_reducible apply Quiet.blockOut | with_reducible apply Quiet.blockOutRepeat | with_reducible apply Quiet.rotXyd | with_reducible apply Quiet.resXyd | with_reducible apply Quiet.setXyd | with_reducible apply Quiet.bitXyd)

theorem Quiet.inFlags (hq : Quiet s t) : Quiet s (Sys2Proof.Machine.inFlags t) := by
  unfold Sys2Proof.Machine.inFlags
  repeat (first | with_reducible exact hq | with_reducible apply Quiet.setPc | with_reducible apply Quiet.setWz | with_reducible apply Quiet.setSp | with_reducible apply Quiet.setReg | with_reducible apply Quiet.setA | with_reducible apply Quiet.setF | with_reducible apply Quiet.setB | with_reducible apply Quiet.setBc | with_reducible apply Quiet.setDe | with_reducible apply Quiet.setHl | with_reducible apply Quiet.setAf | with_reducible apply Quiet.setPair | with_reducible apply Quiet.setQPair | with_reducible apply Quiet.setXy | with_reducible apply Quiet.setHalf | with_reducible apply Quiet.alu | with_reducible apply Quiet.incF | with_reducible apply Quiet.decF | with_reducible apply Quiet.rotA | with_reducible apply Quiet.tick | with_reducible apply Quiet.rd | with_reducible apply Quiet.imm8 | with_reducible apply Quiet.wr | with_reducible apply Quiet.note | with_reducible apply Quiet.portRd | with_reducible apply Quiet.portWr | with_reducible apply Quiet.imm16 | with_reducible apply Quiet.push16 | with_reducible apply Quiet.pop16 | with_reducible apply Quiet.takenDelay | with_reducible apply Quiet.loadA | with_reducible apply Quiet.storeA | with_reducible apply Quiet.readWord | with_reducible apply Quiet.writeWord | with_reducible apply Quiet.exchangeTop | with_reducible apply Quiet.incMem | with_reducible apply Quiet.decMem | with_reducible apply Quiet.jumpRelative | with_reducible apply Quiet.callTo | with_reducible apply Quiet.returnTo | with_reducible apply Quiet.readDisplacement | with_reducible apply Quiet.rdModify | with_reducible apply Quiet.rotMem | with_reducible apply Quiet.atDisplacement | with_reducible apply Quiet.inputC | with_reducible apply Quiet.loadIR | with_reducible apply Quiet.nibbleRotate | with_reducible apply Quiet.repeatWz | with_reducible apply Quiet.repeatPc | with_reducible apply Quiet.blockLoad | with_reducible apply Quiet.blockLoadRepeat | with_reducible apply Quiet.blockCompare | with_reducible apply Quiet.blockCompareRepeat | with_reducible apply Quiet.blockIn | with_reducible apply Quiet.blockInRepeat | with_reducible apply Quiet.blockOut | with_reducible apply Quiet.blockOutRepeat | with_reducible apply Quiet.rotXyd | with_reducible apply Quiet.resXyd | with_reducible apply Quiet.setXyd | with_reducible apply Quiet.bitXyd)

theorem Quiet.outReg (r : Reg8) (hq : Quiet s t) : Quiet s (Sys2Proof.Machine.outReg r t) := by
  unfold Sys2Proof.Machine.outReg
  repeat (first | with_reducible exact hq | with_reducible apply Quiet.setPc | with_reducible apply Quiet.setWz | with_reducible apply Quiet.setSp | with_reducible apply Quiet.setReg | with_reducible apply Quiet.setA | with_reducible apply Quiet.setF | with_reducible apply Quiet.setB | with_reducible apply Quiet.setBc | with_reducible apply Quiet.setDe | with_reducible apply Quiet.setHl | with_reducible apply Quiet.setAf | with_reducible apply Quiet.setPair | with_reducible apply Quiet.setQPair | with_reducible apply Quiet.setXy | with_reducible apply Quiet.setHalf | with_reducible apply Quiet.alu | with_reducible apply Quiet.incF | with_reducible apply Quiet.decF | with_reducible apply Quiet.rotA | with_reducible apply Quiet.tick | with_reducible apply Quiet.rd | with_reducible apply Quiet.imm8 | with_reducible apply Quiet.wr | with_reducible apply Quiet.note | with_reducible apply Quiet.portRd | with_reducible apply Quiet.portWr | with_reducible apply Quiet.imm16 | with_reducible apply Quiet.push16 | with_reducible apply Quiet.pop16 | with_reducible apply Quiet.takenDelay | with_reducible apply Quiet.loadA | with_reducible apply Quiet.storeA | with_reducible apply Quiet.readWord | with_reducible apply Quiet.writeWord | with_reducible apply Quiet.exchangeTop | with_reducible apply Quiet.incMem | with_reducible apply Quiet.decMem | with_reducible apply Quiet.jumpRelative | with_reducible apply Quiet.callTo | with_reducible apply Quiet.returnTo | with_reducible apply Quiet.readDisplacement | with_reducible apply Quiet.rdModify | with_reducible apply Quiet.rotMem | with_reducible apply Quiet.atDisplacement | with_reducible apply Quiet.inputC | with_reducible apply Quiet.loadIR | with_reducible apply Quiet.nibbleRotate | with_reducible apply Quiet.repeatWz | with_reducible apply Quiet.repeatPc | with_reducible apply Quiet.blockLoad | with_reducible apply Quiet.blockLoadRepeat | with_reducible apply Quiet.blockCompare | with_reducible apply Quiet.blockCompareRepeat | with_reducible apply Quiet.blockIn | with_reducible apply Quiet.blockInRepeat | with_reducible apply Quiet.blockOut | with_reducible apply Quiet.blockOutRepeat | with_reducible apply Quiet.rotXyd | with_reducible apply Quiet.resXyd | with_reducible apply Quiet.setXyd | with_reducible apply Quiet.bitXyd)

theorem Quiet.outZero (hq : Quiet s t) : Quiet s (Sys2Proof.Machine.outZero t) := by
  unfold Sys2Proof.Machine.outZero
  repeat (first | with_reducible exact hq | with_reducible apply Quiet.setPc | with_reducible apply Quiet.setWz | with_reducible apply Quiet.setSp | with_reducible apply Quiet.setReg | with_reducible apply Quiet.setA | with_reducible apply Quiet.setF | with_reducible apply Quiet.setB | with_reducible apply Quiet.setBc | with_reducible apply Quiet.setDe | with_reducible apply Quiet.setHl | with_reducible apply Quiet.setAf | with_reducible apply Quiet.setPair | with_reducible apply Quiet.setQPair | with_reducible apply Quiet.setXy | with_reducible apply Quiet.setHalf | with_reducible apply Quiet.alu | with_reducible apply Quiet.incF | with_reducible apply Quiet.decF | with_reducible apply Quiet.rotA | with_reducible apply Quiet.tick | with_reducible apply Quiet.rd | with_reducible apply Quiet.imm8 | with_reducible apply Quiet.wr | with_reducible apply Quiet.note | with_reducible apply Quiet.portRd | with_reducible apply Quiet.portWr | with_reducible apply Quiet.imm16 | with_reducible apply Quiet.push16 | with_reducible apply Quiet.pop16 | with_reducible apply Quiet.takenDelay | with_reducible apply Quiet.loadA | with_reducible apply Quiet.storeA | with_reducible apply Quiet.readWord | with_reducible apply Quiet.writeWord | with_reducible apply Quiet.exchangeTop | with_reducible apply Quiet.incMem | with_reducible apply Quiet.decMem | with_reducible apply Quiet.jumpRelative | with_reducible apply Quiet.callTo | with_reducible apply Quiet.returnTo | with_reducible apply Quiet.readDisplacement | with_reducible apply Quiet.rdModify | with_reducible apply Quiet.rotMem | with_reducible apply Quiet.atDisplacement | with_reducible apply Quiet.inputC | with_reducible apply Quiet.loadIR | with_reducible apply Quiet.nibbleRotate | with_reducible apply Quiet.repeatWz | with_reducible apply Quiet.repeatPc | with_reducible apply Quiet.blockLoad | with_reducible apply Quiet.blockLoadRepeat | with_reducible apply Quiet.blockCompare | with_reducible apply Quiet.blockCompareRepeat | with_reducible apply Quiet.blockIn | with_reducible apply Quiet.blockInRepeat | with_reducible apply Quiet.blockOut | with_reducible apply Quiet.blockOutRepeat | with_reducible apply Quiet.rotXyd | with_reducible apply Quiet.resXyd | with_reducible apply Quiet.setXyd | with_reducible apply Quiet.bitXyd)

theorem Quiet.sbcHl (p : Pair) (hq : Quiet s t) : Quiet s (Sys2Proof.Machine.sbcHl p t) := by
  unfold Sys2Proof.Machine.sbcHl
  dsimp only
  repeat (first | with_reducible exact hq | with_reducible apply Quiet.setPc | with_reducible apply Quiet.setWz | with_reducible apply Quiet.setSp | with_reducible apply Quiet.setReg | with_reducible apply Quiet.setA | with_reducible apply Quiet.setF | with_reducible apply Quiet.setB | with_reducible apply Quiet.setBc | with_reducible apply Quiet.setDe | with_reducible apply Quiet.setHl | with_reducible apply Quiet.setAf | with_reducible apply Quiet.setPair | with_reducible apply Quiet.setQPair | with_reducible apply Quiet.setXy | with_reducible apply Quiet.setHalf | with_reducible apply Quiet.alu | with_reducible apply Quiet.incF | with_reducible apply Quiet.decF | with_reducible apply Quiet.rotA | with_reducible apply Quiet.tick | with_reducible apply Quiet.rd | with_reducible apply Quiet.imm8 | with_reducible apply Quiet.wr | with_reducible apply Quiet.note | with_reducible apply Quiet.portRd | with_reducible apply Quiet.portWr | with_reducible apply Quiet.imm16 | with_reducible apply Quiet.push16 | with_reducible apply Quiet.pop16 | with_reducible apply Quiet.takenDelay | with_reducible apply Quiet.loadA | with_reducible apply Quiet.storeA | with_reducible apply Quiet.readWord | with_reducible apply Quiet.writeWord | with_reducible apply Quiet.exchangeTop | with_reducible apply Quiet.incMem | with_reducible apply Quiet.decMem | with_reducible apply Quiet.jumpRelative | with_reducible apply Quiet.callTo | with_reducible apply Quiet.returnTo | with_reducible apply Quiet.readDisplacement | with_reducible apply Quiet.rdModify | with_reducible apply Quiet.rotMem | with_reducible apply Quiet.atDisplacement | with_reducible apply Quiet.inputC | with_reducible apply Quiet.loadIR | with_reducible apply Quiet.nibbleRotate | with_reducible apply Quiet.repeatWz | with_reducible apply Quiet.repeatPc | with_reducible apply Quiet.blockLoad | with_reducible apply Quiet.blockLoadRepeat | with_reducible apply Quiet.blockCompare | with_reducible apply Quiet.blockCompareRepeat | with_reducible apply Quiet.blockIn | with_reducible apply Quiet.blockInRepeat | with_reducible apply Quiet.blockOut | with_reducible apply Quiet.blockOutRepeat | with_reducible apply Quiet.rotXyd | with_reducible apply Quiet.resXyd | with_reducible apply Quiet.setXyd | with_reducible apply Quiet.bitXyd)

theorem Quiet.adcHl (p : Pair) (hq : Quiet s t) : Quiet s (Sys2Proof.Machine.adcHl p t) := by
  unfold Sys2Proof.Machine.adcHl
  dsimp only
  repeat (first | with_reducible exact hq | with_reducible apply Quiet.setPc | with_reducible apply Quiet.setWz | with_reducible apply Quiet.setSp | with_reducible apply Quiet.setReg | with_reducible apply Quiet.setA | with_reducible apply Quiet.setF | with_reducible apply Quiet.setB | with_reducible apply Quiet.setBc | with_reducible apply Quiet.setDe | with_reducible apply Quiet.setHl | with_reducible apply Quiet.setAf | with_reducible apply Quiet.setPair | with_reducible apply Quiet.setQPair | with_reducible apply Quiet.setXy | with_reducible apply Quiet.setHalf | with_reducible apply Quiet.alu | with_reducible apply Quiet.incF | with_reducible apply Quiet.decF | with_reducible apply Quiet.rotA | with_reducible apply Quiet.tick | with_reducible apply Quiet.rd | with_reducible apply Quiet.imm8 | with_reducible apply Quiet.wr | with_reducible apply Quiet.note | with_reducible apply Quiet.portRd | with_reducible apply Quiet.portWr | with_reducible apply Quiet.imm16 | with_reducible apply Quiet.push16 | with_reducible apply Quiet.pop16 | with_reducible apply Quiet.takenDelay | with_reducible apply Quiet.loadA | with_reducible apply Quiet.storeA | with_reducible apply Quiet.readWord | with_reducible apply Quiet.writeWord | with_reducible apply Quiet.exchangeTop | with_reducible apply Quiet.incMem | with_reducible apply Quiet.decMem | with_reducible apply Quiet.jumpRelative | with_reducible apply Quiet.callTo | with_reducible apply Quiet.returnTo | with_reducible apply Quiet.readDisplacement | with_reducible apply Quiet.rdModify | with_reducible apply Quiet.rotMem | with_reducible apply Quiet.atDisplacement | with_reducible apply Quiet.inputC | with_reducible apply Quiet.loadIR | with_reducible apply Quiet.nibbleRotate | with_reducible apply Quiet.repeatWz | with_reducible apply Quiet.repeatPc | with_reducible apply Quiet.blockLoad | with_reducible apply Quiet.blockLoadRepeat | with_reducible apply Quiet.blockCompare | with_reducible apply Quiet.blockCompareRepeat | with_reducible apply Quiet.blockIn | with_reducible apply Quiet.blockInRepeat | with_reducible apply Quiet.blockOut | with_reducible apply Quiet.blockOutRepeat | with_reducible apply Quiet.rotXyd | with_reducible apply Quiet.resXyd | with_reducible apply Quiet.setXyd | with_reducible apply Quiet.bitXyd)

theorem Quiet.ldAtNnPair (p : Pair) (hq : Quiet s t) : Quiet s (Sys2Proof.Machine.ldAtNnPair p t) := by
  unfold Sys2Proof.Machine.ldAtNnPair
  repeat (first | with_reducible exact hq | with_reducible apply Quiet.setPc | with_reducible apply Quiet.setWz | with_reducible apply Quiet.setSp | with_reducible apply Quiet.setReg | with_reducible apply Quiet.setA | with_reducible apply Quiet.setF | with_reducible apply Quiet.setB | with_reducible apply Quiet.setBc | with_reducible apply Quiet.setDe | with_reducible apply Quiet.setHl | with_reducible apply Quiet.setAf | with_reducible apply Quiet.setPair | with_reducible apply Quiet.setQPair | with_reducible apply Quiet.setXy | with_reducible apply Quiet.setHalf | with_reducible apply Quiet.alu | with_reducible apply Quiet.incF | with_reducible apply Quiet.decF | with_reducible apply Quiet.rotA | with_reducible apply Quiet.tick | with_reducible apply Quiet.rd | with_reducible apply Quiet.imm8 | with_reducible apply Quiet.wr | with_reducible apply Quiet.note | with_reducible apply Quiet.portRd | with_reducible apply Quiet.portWr | with_reducible apply Quiet.imm16 | with_reducible apply Quiet.push16 | with_reducible apply Quiet.pop16 | with_reducible apply Quiet.takenDelay | with_reducible apply Quiet.loadA | with_reducible apply Quiet.storeA | with_reducible apply Quiet.readWord | with_reducible apply Quiet.writeWord | with_reducible apply Quiet.exchangeTop | with_reducible apply Quiet.incMem | with_reducible apply Quiet.decMem | with_reducible apply Quiet.jumpRelative | with_reducible apply Quiet.callTo | with_reducible apply Quiet.returnTo | with_reducible apply Quiet.readDisplacement | with_reducible apply Quiet.rdModify | with_reducible apply Quiet.rotMem | with_reducible apply Quiet.atDisplacement | with_reducible apply Quiet.inputC | with_reducible apply Quiet.loadIR | with_reducible apply Quiet.nibbleRotate | with_reducible apply Quiet.repeatWz | with_reducible apply Quiet.repeatPc | with_reducible apply Quiet.blockLoad | with_reducible apply Quiet.blockLoadRepeat | with_reducible apply Quiet.blockCompare | with_reducible apply Quiet.blockCompareRepeat | with_reducible apply Quiet.blockIn | with_reducible apply Quiet.blockInRepeat | with_reducible apply Quiet.blockOut | with_reducible apply Quiet.blockOutRepeat | with_reducible apply Quiet.rotXyd | with_reducible apply Quiet.resXyd | with_reducible apply Quiet.setXyd | with_reducible apply Quiet.bitXyd)

theorem Quiet.ldPairAtNn (p : Pair) (hq : Quiet s t) : Quiet s (Sys2Proof.Machine.ldPairAtNn p t) := by
  unfold Sys2Proof.Machine.ldPairAtNn
  dsimp only
  repeat (first | with_reducible exact hq | with_reducible apply Quiet.setPc | with_reducible apply Quiet.setWz | with_reducible apply Quiet.setSp | with_reducible apply Quiet.setReg | with_reducible apply Quiet.setA | with_reducible apply Quiet.setF | with_reducible apply Quiet.setB | with_reducible apply Quiet.setBc | with_reducible apply Quiet.setDe | with_reducible apply Quiet.setHl | with_reducible apply Quiet.setAf | with_reducible apply Quiet.setPair | with_reducible apply Quiet.setQPair | with_reducible apply Quiet.setXy | with_reducible apply Quiet.setHalf | with_reducible apply Quiet.alu | with_reducible apply Quiet.incF | with_reducible apply Quiet.decF | with_reducible apply Quiet.rotA | with_reducible apply Quiet.tick | with_reducible apply Quiet.rd | with_reducible apply Quiet.imm8 | with_reducible apply Quiet.wr | with_reducible apply Quiet.note | with_reducible apply Quiet.portRd | with_reducible apply Quiet.portWr | with_reducible apply Quiet.imm16 | with_reducible apply Quiet.push16 | with_reducible apply Quiet.pop16 | with_reducible apply Quiet.takenDelay | with_reducible apply Quiet.loadA | with_reducible apply Quiet.storeA | with_reducible apply Quiet.readWord | with_reducible apply Quiet.writeWord | with_reducible apply Quiet.exchangeTop | with_reducible apply Quiet.incMem | with_reducible apply Quiet.decMem | with_reducible apply Quiet.jumpRelative | with_reducible apply Quiet.callTo | with_reducible apply Quiet.returnTo | with_reducible apply Quiet.readDisplacement | with_reducible apply Quiet.rdModify | with_reducible apply Quiet.rotMem | with_reducible apply Quiet.atDisplacement | with_reducible apply Quiet.inputC | with_reducible apply Quiet.loadIR | with_reducible apply Quiet.nibbleRotate | with_reducible apply Quiet.repeatWz | with_reducible apply Quiet.repeatPc | with_reducible apply Quiet.blockLoad | with_reducible apply Quiet.blockLoadRepeat | with_reducible apply Quiet.blockCompare | with_reducible apply Quiet.blockCompareRepeat | with_reducible apply Quiet.blockIn | with_reducible apply Quiet.blockInRepeat | with_reducible apply Quiet.blockOut | with_reducible apply Quiet.blockOutRepeat | with_reducible apply Quiet.rotXyd | with_reducible apply Quiet.resXyd | with_reducible apply Quiet.setXyd | with_reducible apply Quiet.bitXyd)

theorem Quiet.neg (hq : Quiet s t) : Quiet s (Sys2Proof.Machine.neg t) := hq.quietWrite _ rfl

theorem Quiet.ldAI (hq : Quiet s t) : Quiet s (Sys2Proof.Machine.ldAI t) := by
  unfold Sys2Proof.Machine.ldAI
  repeat (first | with_reducible exact hq | with_reducible apply Quiet.setPc | with_reducible apply Quiet.setWz | with_reducible apply Quiet.setSp | with_reducible apply Quiet.setReg | with_reducible apply Quiet.setA | with_reducible apply Quiet.setF | with_reducible apply Quiet.setB | with_reducible apply Quiet.setBc | with_reducible apply Quiet.setDe | with_reducible apply Quiet.setHl | with_reducible apply Quiet.setAf | with_reducible apply Quiet.setPair | with_reducible apply Quiet.setQPair | with_reducible apply Quiet.setXy | with_reducible apply Quiet.setHalf | with_reducible apply Quiet.alu | with_reducible apply Quiet.incF | with_reducible apply Quiet.decF | with_reducible apply Quiet.rotA | with_reducible apply Quiet.tick | with_reducible apply Quiet.rd | with_reducible apply Quiet.imm8 | with_reducible apply Quiet.wr | with_reducible apply Quiet.note | with_reducible apply Quiet.portRd | with_reducible apply Quiet.portWr | with_reducible apply Quiet.imm16 | with_reducible apply Quiet.push16 | with_reducible apply Quiet.pop16 | with_reducible apply Quiet.takenDelay | with_reducible apply Quiet.loadA | with_reducible apply Quiet.storeA | with_reducible apply Quiet.readWord | with_reducible apply Quiet.writeWord | with_reducible apply Quiet.exchangeTop | with_reducible apply Quiet.incMem | with_reducible apply Quiet.decMem | with_reducible apply Quiet.jumpRelative | with_reducible apply Quiet.callTo | with_reducible apply Quiet.returnTo | with_reducible apply Quiet.readDisplacement | with_reducible apply Quiet.rdModify | with_reducible apply Quiet.rotMem | with_reducible apply Quiet.atDisplacement | with_reducible apply Quiet.inputC | with_reducible apply Quiet.loadIR | with_reducible apply Quiet.nibbleRotate | with_reducible apply Quiet.repeatWz | with_reducible apply Quiet.repeatPc | with_reducible apply Quiet.blockLoad | with_reducible apply Quiet.blockLoadRepeat | with_reducible apply Quiet.blockCompare | with_reducible apply Quiet.blockCompareRepeat | with_reducible apply Quiet.blockIn | with_reducible apply Quiet.blockInRepeat | with_reducible apply Quiet.blockOut | with_reducible apply Quiet.blockOutRepeat | with_reducible apply Quiet.rotXyd | with_reducible apply Quiet.resXyd | with_reducible apply Quiet.setXyd | with_reducible apply Quiet.bitXyd)

theorem Quiet.ldAR (hq : Quiet s t) : Quiet s (Sys2Proof.Machine.ldAR t) := by
  unfold Sys2Proof.Machine.ldAR
  repeat (first | with_reducible exact hq | with_reducible apply Quiet.setPc | with_reducible apply Quiet.setWz | with_reducible apply Quiet.setSp | with_reducible apply Quiet.setReg | with_reducible apply Quiet.setA | with_reducible apply Quiet.setF | with_reducible apply Quiet.setB | with_reducible apply Quiet.setBc | with_reducible apply Quiet.setDe | with_reducible apply Quiet.setHl | with_reducible apply Quiet.setAf | with_reducible apply Quiet.setPair | with_reducible apply Quiet.setQPair | with_reducible apply Quiet.setXy | with_reducible apply Quiet.setHalf | with_reducible apply Quiet.alu | with_reducible apply Quiet.incF | with_reducible apply Quiet.decF | with_reducible apply Quiet.rotA | with_reducible apply Quiet.tick | with_reducible apply Quiet.rd | with_reducible apply Quiet.imm8 | with_reducible apply Quiet.wr | with_reducible apply Quiet.note | with_reducible apply Quiet.portRd | with_reducible apply Quiet.portWr | with_reducible apply Quiet.imm16 | with_reducible apply Quiet.push16 | with_reducible apply Quiet.pop16 | with_reducible apply Quiet.takenDelay | with_reducible apply Quiet.loadA | with_reducible apply Quiet.storeA | with_reducible apply Quiet.readWord | with_reducible apply Quiet.writeWord | with_reducible apply Quiet.exchangeTop | with_reducible apply Quiet.incMem | with_reducible apply Quiet.decMem | with_reducible apply Quiet.jumpRelative | with_reducible apply Quiet.callTo | with_reducible apply Quiet.returnTo | with_reducible apply Quiet.readDisplacement | with_reducible apply Quiet.rdModify | with_reducible apply Quiet.rotMem | with_reducible apply Quiet.atDisplacement | with_reducible apply Quiet.inputC | with_reducible apply Quiet.loadIR | with_reducible apply Quiet.nibbleRotate | with_reducible apply Quiet.repeatWz | with_reducible apply Quiet.repeatPc | with_reducible apply Quiet.blockLoad | with_reducible apply Quiet.blockLoadRepeat | with_reducible apply Quiet.blockCompare | with_reducible apply Quiet.blockCompareRepeat | with_reducible apply Quiet.blockIn | with_reducible apply Quiet.blockInRepeat | with_reducible apply Quiet.blockOut | with_reducible apply Quiet.blockOutRepeat | with_reducible apply Quiet.rotXyd | with_reducible apply Quiet.resXyd | with_reducible apply Quiet.setXyd | with_reducible apply Quiet.bitXyd)

theorem Quiet.rrd (hq : Quiet s t) : Quiet s (Sys2Proof.Machine.rrd t) := by
  unfold Sys2Proof.Machine.rrd
  dsimp only
  repeat (first | with_reducible exact hq | with_reducible apply Quiet.setPc | with_reducible apply Quiet.setWz | with_reducible apply Quiet.setSp | with_reducible apply Quiet.setReg | with_reducible apply Quiet.setA | with_reducible apply Quiet.setF | with_reducible apply Quiet.setB | with_reducible apply Quiet.setBc | with_reducible apply Quiet.setDe | with_reducible apply Quiet.setHl | with_reducible apply Quiet.setAf | with_reducible apply Quiet.setPair | with_reducible apply Quiet.setQPair | with_reducible apply Quiet.setXy | with_reducible apply Quiet.setHalf | with_reducible apply Quiet.alu | with_reducible apply Quiet.incF | with_reducible apply Quiet.decF | with_reducible apply Quiet.rotA | with_reducible apply Quiet.tick | with_reducible apply Quiet.rd | with_reducible apply Quiet.imm8 | with_reducible apply Quiet.wr | with_reducible apply Quiet.note | with_reducible apply Quiet.portRd | with_reducible apply Quiet.portWr | with_reducible apply Quiet.imm16 | with_reducible apply Quiet.push16 | with_reducible apply Quiet.pop16 | with_reducible apply Quiet.takenDelay | with_reducible apply Quiet.loadA | with_reducible apply Quiet.storeA | with_reducible apply Quiet.readWord | with_reducible apply Quiet.writeWord | with_reducible apply Quiet.exchangeTop | with_reducible apply Quiet.incMem | with_reducible apply Quiet.decMem | with_reducible apply Quiet.jumpRelative | with_reducible apply Quiet.callTo | with_reducible apply Quiet.returnTo | with_reducible apply Quiet.readDisplacement | with_reducible apply Quiet.rdModify | with_reducible apply Quiet.rotMem | with_reducible apply Quiet.atDisplacement | with_reducible apply Quiet.inputC | with_reducible apply Quiet.loadIR | with_reducible apply Quiet.nibbleRotate | with_reducible apply Quiet.repeatWz | with_reducible apply Quiet.repeatPc | with_reducible apply Quiet.blockLoad | with_reducible apply Quiet.blockLoadRepeat | with_reducible apply Quiet.blockCompare | with_reducible apply Quiet.blockCompareRepeat | with_reducible apply Quiet.blockIn | with_reducible apply Quiet.blockInRepeat | with_reducible apply Quiet.blockOut | with_reducible apply Quiet.blockOutRepeat | with_reducible apply Quiet.rotXyd | with_reducible apply Quiet.resXyd | with_reducible apply Quiet.setXyd | with_reducible apply Quiet.bitXyd)

theorem Quiet.rld (hq : Quiet s t) : Quiet s (Sys2Proof.Machine.rld t) := by
  unfold Sys2Proof.Machine.rld
  dsimp only
  repeat (first | with_reducible exact hq | with_reducible apply Quiet.setPc | with_reducible apply Quiet.setWz | with_reducible apply Quiet.setSp | with_reducible apply Quiet.setReg | with_reducible apply Quiet.setA | with_reducible apply Quiet.setF | with_reducible apply Quiet.setB | with_reducible apply Quiet.setBc | with_reducible apply Quiet.setDe | with_reducible apply Quiet.setHl | with_reducible apply Quiet.setAf | with_reducible apply Quiet.setPair | with_reducible apply Quiet.setQPair | with_reducible apply Quiet.setXy | with_reducible apply Quiet.setHalf | with_reducible apply Quiet.alu | with_reducible apply Quiet.incF | with_reducible apply Quiet.decF | with_reducible apply Quiet.rotA | with_reducible apply Quiet.tick | with_reducible apply Quiet.rd | with_reducible apply Quiet.imm8 | with_reducible apply Quiet.wr | with_reducible apply Quiet.note | with_reducible apply Quiet.portRd | with_reducible apply Quiet.portWr | with_reducible apply Quiet.imm16 | with_reducible apply Quiet.push16 | with_reducible apply Quiet.pop16 | with_reducible apply Quiet.takenDelay | with_reducible apply Quiet.loadA | with_reducible apply Quiet.storeA | with_reducible apply Quiet.readWord | with_reducible apply Quiet.writeWord | with_reducible apply Quiet.exchangeTop | with_reducible apply Quiet.incMem | with_reducible apply Quiet.decMem | with_reducible apply Quiet.jumpRelative | with_reducible apply Quiet.callTo | with_reducible apply Quiet.returnTo | with_reducible apply Quiet.readDisplacement | with_reducible apply Quiet.rdModify | with_reducible apply Quiet.rotMem | with_reducible apply Quiet.atDisplacement | with_reducible apply Quiet.inputC | with_reducible apply Quiet.loadIR | with_reducible apply Quiet.nibbleRotate | with_reducible apply Quiet.repeatWz | with_reducible apply Quiet.repeatPc | with_reducible apply Quiet.blockLoad | with_reducible apply Quiet.blockLoadRepeat | with_reducible apply Quiet.blockCompare | with_reducible apply Quiet.blockCompareRepeat | with_reducible apply Quiet.blockIn | with_reducible apply Quiet.blockInRepeat | with_reducible apply Quiet.blockOut | with_reducible apply Quiet.blockOutRepeat | with_reducible apply Quiet.rotXyd | with_reducible apply Quiet.resXyd | with_reducible apply Quiet.setXyd | with_reducible apply Quiet.bitXyd)

theorem Quiet.ldi (hq : Quiet s t) : Quiet s (Sys2Proof.Machine.ldi t) := by
  unfold Sys2Proof.Machine.ldi
  repeat (first | with_reducible exact hq | with_reducible apply Quiet.setPc | with_reducible apply Quiet.setWz | with_reducible apply Quiet.setSp | with_reducible apply Quiet.setReg | with_reducible apply Quiet.setA | with_reducible apply Quiet.setF | with_reducible apply Quiet.setB | with_reducible apply Quiet.setBc | with_reducible apply Quiet.setDe | with_reducible apply Quiet.setHl | with_reducible apply Quiet.setAf | with_reducible apply Quiet.setPair | with_reducible apply Quiet.setQPair | with_reducible apply Quiet.setXy | with_reducible apply Quiet.setHalf | with_reducible apply Quiet.alu | with_reducible apply Quiet.incF | with_reducible apply Quiet.decF | with_reducible apply Quiet.rotA | with_reducible apply Quiet.tick | with_reducible apply Quiet.rd | with_reducible apply Quiet.imm8 | with_reducible apply Quiet.wr | with_reducible apply Quiet.note | with_reducible apply Quiet.portRd | with_reducible apply Quiet.portWr | with_reducible apply Quiet.imm16 | with_reducible apply Quiet.push16 | with_reducible apply Quiet.pop16 | with_reducible apply Quiet.takenDelay | with_reducible apply Quiet.loadA | with_reducible apply Quiet.storeA | with_reducible apply Quiet.readWord | with_reducible apply Quiet.writeWord | with_reducible apply Quiet.exchangeTop | with_reducible apply Quiet.incMem | with_reducible apply Quiet.decMem | with_reducible apply Quiet.jumpRelative | with_reducible apply Quiet.callTo | with_reducible apply Quiet.returnTo | with_reducible apply Quiet.readDisplacement | with_reducible apply Quiet.rdModify | with_reducible apply Quiet.rotMem | with_reducible apply Quiet.atDisplacement | with_reducible apply Quiet.inputC | with_reducible apply Quiet.loadIR | with_reducible apply Quiet.nibbleRotate | with_reducible apply Quiet.repeatWz | with_reducible apply Quiet.repeatPc | with_reducible apply Quiet.blockLoad | with_reducible apply Quiet.blockLoadRepeat | with_reducible apply Quiet.blockCompare | with_reducible apply Quiet.blockCompareRepeat | with_reducible apply Quiet.blockIn | with_reducible apply Quiet.blockInRepeat | with_reducible apply Quiet.blockOut | with_reducible apply Quiet.blockOutRepeat | with_reducible apply Quiet.rotXyd | with_reducible apply Quiet.resXyd | with_reducible apply Quiet.setXyd | with_reducible apply Quiet.bitXyd)

theorem Quiet.ldd (hq : Quiet s t) : Quiet s (Sys2Proof.Machine.ldd t) := by
  unfold Sys2Proof.Machine.ldd
  repeat (first | with_reducible exact hq | with_reducible apply Quiet.setPc | with_reducible apply Quiet.setWz | with_reducible apply Quiet.setSp | with_reducible apply Quiet.setReg | with_reducible apply Quiet.setA | with_reducible apply Quiet.setF | with_reducible apply Quiet.setB | with_reducible apply Quiet.setBc | with_reducible apply Quiet.setDe | with_reducible apply Quiet.setHl | with_reducible apply Quiet.setAf | with_reducible apply Quiet.setPair | with_reducible apply Quiet.setQPair | with_reducible apply Quiet.setXy | with_reducible apply Quiet.setHalf | with_reducible apply Quiet.alu | with_reducible apply Quiet.incF | with_reducible apply Quiet.decF | with_reducible apply Quiet.rotA | with_reducible apply Quiet.tick | with_reducible apply Quiet.rd | with_reducible apply Quiet.imm8 | with_reducible apply Quiet.wr | with_reducible apply Quiet.note | with_reducible apply Quiet.portRd | with_reducible apply Quiet.portWr | with_reducible apply Quiet.imm16 | with_reducible apply Quiet.push16 | with_reducible apply Quiet.pop16 | with_reducible apply Quiet.takenDelay | with_reducible apply Quiet.loadA | with_reducible apply Quiet.storeA | with_reducible apply Quiet.readWord | with_reducible apply Quiet.writeWord | with_reducible apply Quiet.exchangeTop | with_reducible apply Quiet.incMem | with_reducible apply Quiet.decMem | with_reducible apply Quiet.jumpRelative | with_reducible apply Quiet.callTo | with_reducible apply Quiet.returnTo | with_reducible apply Quiet.readDisplacement | with_reducible apply Quiet.rdModify | with_reducible apply Quiet.rotMem | with_reducible apply Quiet.atDisplacement | with_reducible apply Quiet.inputC | with_reducible apply Quiet.loadIR | with_reducible apply Quiet.nibbleRotate | with_reducible apply Quiet.repeatWz | with_reducible apply Quiet.repeatPc | with_reducible apply Quiet.blockLoad | with_reducible apply Quiet.blockLoadRepeat | with_reducible apply Quiet.blockCompare | with_reducible apply Quiet.blockCompareRepeat | with_reducible apply Quiet.blockIn | with_reducible apply Quiet.blockInRepeat | with_reducible apply Quiet.blockOut | with_reducible apply Quiet.blockOutRepeat | with_reducible apply Quiet.rotXyd | with_reducible apply Quiet.resXyd | with_reducible apply Quiet.setXyd | with_reducible apply Quiet.bitXyd)

theorem Quiet.ldir (hq : Quiet s t) : Quiet s (Sys2Proof.Machine.ldir t) := by
  unfold Sys2Proof.Machine.ldir
  repeat (first | with_reducible exact hq | with_reducible apply Quiet.setPc | with_reducible apply Quiet.setWz | with_reducible apply Quiet.setSp | with_reducible apply Quiet.setReg | with_reducible apply Quiet.setA | with_reducible apply Quiet.setF | with_reducible apply Quiet.setB | with_reducible apply Quiet.setBc | with_reducible apply Quiet.setDe | with_reducible apply Quiet.setHl | with_reducible apply Quiet.setAf | with_reducible apply Quiet.setPair | with_reducible apply Quiet.setQPair | with_reducible apply Quiet.setXy | with_reducible apply Quiet.setHalf | with_reducible apply Quiet.alu | with_reducible apply Quiet.incF | with_reducible apply Quiet.decF | with_reducible apply Quiet.rotA | with_reducible apply Quiet.tick | with_reducible apply Quiet.rd | with_reducible apply Quiet.imm8 | with_reducible apply Quiet.wr | with_reducible apply Quiet.note | with_reducible apply Quiet.portRd | with_reducible apply Quiet.portWr | with_reducible apply Quiet.imm16 | with_reducible apply Quiet.push16 | with_reducible apply Quiet.pop16 | with_reducible apply Quiet.takenDelay | with_reducible apply Quiet.loadA | with_reducible apply Quiet.storeA | with_reducible apply Quiet.readWord | with_reducible apply Quiet.writeWord | with_reducible apply Quiet.exchangeTop | with_reducible apply Quiet.incMem | with_reducible apply Quiet.decMem | with_reducible apply Quiet.jumpRelative | with_reducible apply Quiet.callTo | with_reducible apply Quiet.returnTo | with_reducible apply Quiet.readDisplacement | with_reducible apply Quiet.rdModify | with_reducible apply Quiet.rotMem | with_reducible apply Quiet.atDisplacement | with_reducible apply Quiet.inputC | with_reducible apply Quiet.loadIR | with_reducible apply Quiet.nibbleRotate | with_reducible apply Quiet.repeatWz | with_reducible apply Quiet.repeatPc | with_reducible apply Quiet.blockLoad | with_reducible apply Quiet.blockLoadRepeat | with_reducible apply Quiet.blockCompare | with_reducible apply Quiet.blockCompareRepeat | with_reducible apply Quiet.blockIn | with_reducible apply Quiet.blockInRepeat | with_reducible apply Quiet.blockOut | with_reducible apply Quiet.blockOutRepeat | with_reducible apply Quiet.rotXyd | with_reducible apply Quiet.resXyd | with_reducible apply Quiet.setXyd | with_reducible apply Quiet.bitXyd)

theorem Quiet.lddr (hq : Quiet s t) : Quiet s (Sys2Proof.Machine.lddr t) := by
  unfold Sys2Proof.Machine.lddr
  repeat (first | with_reducible exact hq | with_reducible apply Quiet.setPc | with_reducible apply Quiet.setWz | with_reducible apply Quiet.setSp | with_reducible apply Quiet.setReg | with_reducible apply Quiet.setA | with_reducible apply Quiet.setF | with_reducible apply Quiet.setB | with_reducible apply Quiet.setBc | with_reducible apply Quiet.setDe | with_reducible apply Quiet.setHl | with_reducible apply Quiet.setAf | with_reducible apply Quiet.setPair | with_reducible apply Quiet.setQPair | with_reducible apply Quiet.setXy | with_reducible apply Quiet.setHalf | with_reducible apply Quiet.alu | with_reducible apply Quiet.incF | with_reducible apply Quiet.decF | with_reducible apply Quiet.rotA | with_reducible apply Quiet.tick | with_reducible apply Quiet.rd | with_reducible apply Quiet.imm8 | with_reducible apply Quiet.wr | with_reducible apply Quiet.note | with_reducible apply Quiet.portRd | with_reducible apply Quiet.portWr | with_reducible apply Quiet.imm16 | with_reducible apply Quiet.push16 | with_reducible apply Quiet.pop16 | with_reducible apply Quiet.takenDelay | with_reducible apply Quiet.loadA | with_reducible apply Quiet.storeA | with_reducible apply Quiet.readWord | with_reducible apply Quiet.writeWord | with_reducible apply Quiet.exchangeTop | with_reducible apply Quiet.incMem | with_reducible apply Quiet.decMem | with_reducible apply Quiet.jumpRelative | with_reducible apply Quiet.callTo | with_reducible apply Quiet.returnTo | with_reducible apply Quiet.readDisplacement | with_reducible apply Quiet.rdModify | with_reducible apply Quiet.rotMem | with_reducible apply Quiet.atDisplacement | with_reducible apply Quiet.inputC | with_reducible apply Quiet.loadIR | with_reducible apply Quiet.nibbleRotate | with_reducible apply Quiet.repeatWz | with_reducible apply Quiet.repeatPc | with_reducible apply Quiet.blockLoad | with_reducible apply Quiet.blockLoadRepeat | with_reducible apply Quiet.blockCompare | with_reducible apply Quiet.blockCompareRepeat | with_reducible apply Quiet.blockIn | with_reducible apply Quiet.blockInRepeat | with_reducible apply Quiet.blockOut | with_reducible apply Quiet.blockOutRepeat | with_reducible apply Quiet.rotXyd | with_reducible apply Quiet.resXyd | with_reducible apply Quiet.setXyd | with_reducible apply Quiet.bitXyd)

theorem Quiet.cpi (hq : Quiet s t) : Quiet s (Sys2Proof.Machine.cpi t) := by
  unfold Sys2Proof.Machine.cpi
  repeat (first | with_reducible exact hq | with_reducible apply Quiet.setPc | with_reducible apply Quiet.setWz | with_reducible apply Quiet.setSp | with_reducible apply Quiet.setReg | with_reducible apply Quiet.setA | with_reducible apply Quiet.setF | with_reducible apply Quiet.setB | with_reducible apply Quiet.setBc | with_reducible apply Quiet.setDe | with_reducible apply Quiet.setHl | with_reducible apply Quiet.setAf | with_reducible apply Quiet.setPair | with_reducible apply Quiet.setQPair | with_reducible apply Quiet.setXy | with_reducible apply Quiet.setHalf | with_reducible apply Quiet.alu | with_reducible apply Quiet.incF | with_reducible apply Quiet.decF | with_reducible apply Quiet.rotA | with_reducible apply Quiet.tick | with_reducible apply Quiet.rd | with_reducible apply Quiet.imm8 | with_reducible apply Quiet.wr | with_reducible apply Quiet.note | with_reducible apply Quiet.portRd | with_reducible apply Quiet.portWr | with_reducible apply Quiet.imm16 | with_reducible apply Quiet.push16 | with_reducible apply Quiet.pop16 | with_reducible apply Quiet.takenDelay | with_reducible apply Quiet.loadA | with_reducible apply Quiet.storeA | with_reducible apply Quiet.readWord | with_reducible apply Quiet.writeWord | with_reducible apply Quiet.exchangeTop | with_reducible apply Quiet.incMem | with_reducible apply Quiet.decMem | with_reducible apply Quiet.jumpRelative | with_reducible apply Quiet.callTo | with_reducible apply Quiet.returnTo | with_reducible apply Quiet.readDisplacement | with_reducible apply Quiet.rdModify | with_reducible apply Quiet.rotMem | with_reducible apply Quiet.atDisplacement | with_reducible apply Quiet.inputC | with_reducible apply Quiet.loadIR | with_reducible apply Quiet.nibbleRotate | with_reducible apply Quiet.repeatWz | with_reducible apply Quiet.repeatPc | with_reducible apply Quiet.blockLoad | with_reducible apply Quiet.blockLoadRepeat | with_reducible apply Quiet.blockCompare | with_reducible apply Quiet.blockCompareRepeat | with_reducible apply Quiet.blockIn | with_reducible apply Quiet.blockInRepeat | with_reducible apply Quiet.blockOut | with_reducible apply Quiet.blockOutRepeat | with_reducible apply Quiet.rotXyd | with_reducible apply Quiet.resXyd | with_reducible apply Quiet.setXyd | with_reducible apply Quiet.bitXyd)

theorem Quiet.cpd (hq : Quiet s t) : Quiet s (Sys2Proof.Machine.cpd t) := by
  unfold Sys2Proof.Machine.cpd
  repeat (first | with_reducible exact hq | with_reducible apply Quiet.setPc | with_reducible apply Quiet.setWz | with_reducible apply Quiet.setSp | with_reducible apply Quiet.setReg | with_reducible apply Quiet.setA | with_reducible apply Quiet.setF | with_reducible apply Quiet.setB | with_reducible apply Quiet.setBc | with_reducible apply Quiet.setDe | with_reducible apply Quiet.setHl | with_reducible apply Quiet.setAf | with_reducible apply Quiet.setPair | with_reducible apply Quiet.setQPair | with_reducible apply Quiet.setXy | with_reducible apply Quiet.setHalf | with_reducible apply Quiet.alu | with_reducible apply Quiet.incF | with_reducible apply Quiet.decF | with_reducible apply Quiet.rotA | with_reducible apply Quiet.tick | with_reducible apply Quiet.rd | with_reducible apply Quiet.imm8 | with_reducible apply Quiet.wr | with_reducible apply Quiet.note | with_reducible apply Quiet.portRd | with_reducible apply Quiet.portWr | with_reducible apply Quiet.imm16 | with_reducible apply Quiet.push16 | with_reducible apply Quiet.pop16 | with_reducible apply Quiet.takenDelay | with_reducible apply Quiet.loadA | with_reducible apply Quiet.storeA | with_reducible apply Quiet.readWord | with_reducible apply Quiet.writeWord | with_reducible apply Quiet.exchangeTop | with_reducible apply Quiet.incMem | with_reducible apply Quiet.decMem | with_reducible apply Quiet.jumpRelative | with_reducible apply Quiet.callTo | with_reducible apply Quiet.returnTo | with_reducible apply Quiet.readDisplacement | with_reducible apply Quiet.rdModify | with_reducible apply Quiet.rotMem | with_reducible apply Quiet.atDisplacement | with_reducible apply Quiet.inputC | with_reducible apply Quiet.loadIR | with_reducible apply Quiet.nibbleRotate | with_reducible apply Quiet.repeatWz | with_reducible apply Quiet.repeatPc | with_reducible apply Quiet.blockLoad | with_reducible apply Quiet.blockLoadRepeat | with_reducible apply Quiet.blockCompare | with_reducible apply Quiet.blockCompareRepeat | with_reducible apply Quiet.blockIn | with_reducible apply Quiet.blockInRepeat | with_reducible apply Quiet.blockOut | with_reducible apply Quiet.blockOutRepeat | with_reducible apply Quiet.rotXyd | with_reducible apply Quiet.resXyd | with_reducible apply Quiet.setXyd | with_reducible apply Quiet.bitXyd)

theorem Quiet.cpir (hq : Quiet s t) : Quiet s (Sys2Proof.Machine.cpir t) := by
  unfold Sys2Proof.Machine.cpir
  repeat (first | with_reducible exact hq | with_reducible apply Quiet.setPc | with_reducible apply Quiet.setWz | with_reducible apply Quiet.setSp | with_reducible apply Quiet.setReg | with_reducible apply Quiet.setA | with_reducible apply Quiet.setF | with_reducible apply Quiet.setB | with_reducible apply Quiet.setBc | with_reducible apply Quiet.setDe | with_reducible apply Quiet.setHl | with_reducible apply Quiet.setAf | with_reducible apply Quiet.setPair | with_reducible apply Quiet.setQPair | with_reducible apply Quiet.setXy | with_reducible apply Quiet.setHalf | with_reducible apply Quiet.alu | with_reducible apply Quiet.incF | with_reducible apply Quiet.decF | with_reducible apply Quiet.rotA | with_reducible apply Quiet.tick | with_reducible apply Quiet.rd | with_reducible apply Quiet.imm8 | with_reducible apply Quiet.wr | with_reducible apply Quiet.note | with_reducible apply Quiet.portRd | with_reducible apply Quiet.portWr | with_reducible apply Quiet.imm16 | with_reducible apply Quiet.push16 | with_reducible apply Quiet.pop16 | with_reducible apply Quiet.takenDelay | with_reducible apply Quiet.loadA | with_reducible apply Quiet.storeA | with_reducible apply Quiet.readWord | with_reducible apply Quiet.writeWord | with_reducible apply Quiet.exchangeTop | with_reducible apply Quiet.incMem | with_reducible apply Quiet.decMem | with_reducible apply Quiet.jumpRelative | with_reducible apply Quiet.callTo | with_reducible apply Quiet.returnTo | with_reducible apply Quiet.readDisplacement | with_reducible apply Quiet.rdModify | with_reducible apply Quiet.rotMem | with_reducible apply Quiet.atDisplacement | with_reducible apply Quiet.inputC | with_reducible apply Quiet.loadIR | with_reducible apply Quiet.nibbleRotate | with_reducible apply Quiet.repeatWz | with_reducible apply Quiet.repeatPc | with_reducible apply Quiet.blockLoad | with_reducible apply Quiet.blockLoadRepeat | with_reducible apply Quiet.blockCompare | with_reducible apply Quiet.blockCompareRepeat | with_reducible apply Quiet.blockIn | with_reducible apply Quiet.blockInRepeat | with_reducible apply Quiet.blockOut | with_reducible apply Quiet.blockOutRepeat | with_reducible apply Quiet.rotXyd | with_reducible apply Quiet.resXyd | with_reducible apply Quiet.setXyd | with_reducible apply Quiet.bitXyd)

theorem Quiet.cpdr (hq : Quiet s t) : Quiet s (Sys2Proof.Machine.cpdr t) := by
  unfold Sys2Proof.Machine.cpdr
  repeat (first | with_reducible exact hq | with_reducible apply Quiet.setPc | with_reducible apply Quiet.setWz | with_reducible apply Quiet.setSp | with_reducible apply Quiet.setReg | with_reducible apply Quiet.setA | with_reducible apply Quiet.setF | with_reducible apply Quiet.setB | with_reducible apply Quiet.setBc | with_reducible apply Quiet.setDe | with_reducible apply Quiet.setHl | with_reducible apply Quiet.setAf | with_reducible apply Quiet.setPair | with_reducible apply Quiet.setQPair | with_reducible apply Quiet.setXy | with_reducible apply Quiet.setHalf | with_reducible apply Quiet.alu | with_reducible apply Quiet.incF | with_reducible apply Quiet.decF | with_reducible apply Quiet.rotA | with_reducible apply Quiet.tick | with_reducible apply Quiet.rd | with_reducible apply Quiet.imm8 | with_reducible apply Quiet.wr | with_reducible apply Quiet.note | with_reducible apply Quiet.portRd | with_reducible apply Quiet.portWr | with_reducible apply Quiet.imm16 | with_reducible apply Quiet.push16 | with_reducible apply Quiet.pop16 | with_reducible apply Quiet.takenDelay | with_reducible apply Quiet.loadA | with_reducible apply Quiet.storeA | with_reducible apply Quiet.readWord | with_reducible apply Quiet.writeWord | with_reducible apply Quiet.exchangeTop | with_reducible apply Quiet.incMem | with_reducible apply Quiet.decMem | with_reducible apply Quiet.jumpRelative | with_reducible apply Quiet.callTo | with_reducible apply Quiet.returnTo | with_reducible apply Quiet.readDisplacement | with_reducible apply Quiet.rdModify | with_reducible apply Quiet.rotMem | with_reducible apply Quiet.atDisplacement | with_reducible apply Quiet.inputC | with_reducible apply Quiet.loadIR | with_reducible apply Quiet.nibbleRotate | with_reducible apply Quiet.repeatWz | with_reducible apply Quiet.repeatPc | with_reducible apply Quiet.blockLoad | with_reducible apply Quiet.blockLoadRepeat | with_reducible apply Quiet.blockCompare | with_reducible apply Quiet.blockCompareRepeat | with_reducible apply Quiet.blockIn | with_reducible apply Quiet.blockInRepeat | with_reducible apply Quiet.blockOut | with_reducible apply Quiet.blockOutRepeat | with_reducible apply Quiet.rotXyd | with_reducible apply Quiet.resXyd | with_reducible apply Quiet.setXyd | with_reducible apply Quiet.bitXyd)

theorem Quiet.ini (hq : Quiet s t) : Quiet s (Sys2Proof.Machine.ini t) := by
  unfold Sys2Proof.Machine.ini
  repeat (first | with_reducible exact hq | with_reducible apply Quiet.setPc | with_reducible apply Quiet.setWz | with_reducible apply Quiet.setSp | with_reducible apply Quiet.setReg | with_reducible apply Quiet.setA | with_reducible apply Quiet.setF | with_reducible apply Quiet.setB | with_reducible apply Quiet.setBc | with_reducible apply Quiet.setDe | with_reducible apply Quiet.setHl | with_reducible apply Quiet.setAf | with_reducible apply Quiet.setPair | with_reducible apply Quiet.setQPair | with_reducible apply Quiet.setXy | with_reducible apply Quiet.setHalf | with_reducible apply Quiet.alu | with_reducible apply Quiet.incF | with_reducible apply Quiet.decF | with_reducible apply Quiet.rotA | with_reducible apply Quiet.tick | with_reducible apply Quiet.rd | with_reducible apply Quiet.imm8 | with_reducible apply Quiet.wr | with_reducible apply Quiet.note | with_reducible apply Quiet.portRd | with_reducible apply Quiet.portWr | with_reducible apply Quiet.imm16 | with_reducible apply Quiet.push16 | with_reducible apply Quiet.pop16 | with_reducible apply Quiet.takenDelay | with_reducible apply Quiet.loadA | with_reducible apply Quiet.storeA | with_reducible apply Quiet.readWord | with_reducible apply Quiet.writeWord | with_reducible apply Quiet.exchangeTop | with_reducible apply Quiet.incMem | with_reducible apply Quiet.decMem | with_reducible apply Quiet.jumpRelative | with_reducible apply Quiet.callTo | with_reducible apply Quiet.returnTo | with_reducible apply Quiet.readDisplacement | with_reducible apply Quiet.rdModify | with_reducible apply Quiet.rotMem | with_reducible apply Quiet.atDisplacement | with_reducible apply Quiet.inputC | with_reducible apply Quiet.loadIR | with_reducible apply Quiet.nibbleRotate | with_reducible apply Quiet.repeatWz | with_reducible apply Quiet.repeatPc | with_reducible apply Quiet.blockLoad | with_reducible apply Quiet.blockLoadRepeat | with_reducible apply Quiet.blockCompare | with_reducible apply Quiet.blockCompareRepeat | with_reducible apply Quiet.blockIn | with_reducible apply Quiet.blockInRepeat | with_reducible apply Quiet.blockOut | with_reducible apply Quiet.blockOutRepeat | with_reducible apply Quiet.rotXyd | with_reducible apply Quiet.resXyd | with_reducible apply Quiet.setXyd | with_reducible apply Quiet.bitXyd)

theorem Quiet.ind (hq : Quiet s t) : Quiet s (Sys2Proof.Machine.ind t) := by
  unfold Sys2Proof.Machine.ind
  repeat (first | with_reducible exact hq | with_reducible apply Quiet.setPc | with_reducible apply Quiet.setWz | with_reducible apply Quiet.setSp | with_reducible apply Quiet.setReg | with_reducible apply Quiet.setA | with_reducible apply Quiet.setF | with_reducible apply Quiet.setB | with_reducible apply Quiet.setBc | with_reducible apply Quiet.setDe | with_reducible apply Quiet.setHl | with_reducible apply Quiet.setAf | with_reducible apply Quiet.setPair | with_reducible apply Quiet.setQPair | with_reducible apply Quiet.setXy | with_reducible apply Quiet.setHalf | with_reducible apply Quiet.alu | with_reducible apply Quiet.incF | with_reducible apply Quiet.decF | with_reducible apply Quiet.rotA | with_reducible apply Quiet.tick | with_reducible apply Quiet.rd | with_reducible apply Quiet.imm8 | with_reducible apply Quiet.wr | with_reducible apply Quiet.note | with_reducible apply Quiet.portRd | with_reducible apply Quiet.portWr | with_reducible apply Quiet.imm16 | with_reducible apply Quiet.push16 | with_reducible apply Quiet.pop16 | with_reducible apply Quiet.takenDelay | with_reducible apply Quiet.loadA | with_reducible apply Quiet.storeA | with_reducible apply Quiet.readWord | with_reducible apply Quiet.writeWord | with_reducible apply Quiet.exchangeTop | with_reducible apply Quiet.incMem | with_reducible apply Quiet.decMem | with_reducible apply Quiet.jumpRelative | with_reducible apply Quiet.callTo | with_reducible apply Quiet.returnTo | with_reducible apply Quiet.readDisplacement | with_reducible apply Quiet.rdModify | with_reducible apply Quiet.rotMem | with_reducible apply Quiet.atDisplacement | with_reducible apply Quiet.inputC | with_reducible apply Quiet.loadIR | with_reducible apply Quiet.nibbleRotate | with_reducible apply Quiet.repeatWz | with_reducible apply Quiet.repeatPc | with_reducible apply Quiet.blockLoad | with_reducible apply Quiet.blockLoadRepeat | with_reducible apply Quiet.blockCompare | with_reducible apply Quiet.blockCompareRepeat | with_reducible apply Quiet.blockIn | with_reducible apply Quiet.blockInRepeat | with_reducible apply Quiet.blockOut | with_reducible apply Quiet.blockOutRepeat | with_reducible apply Quiet.rotXyd | with_reducible apply Quiet.resXyd | with_reducible apply Quiet.setXyd | with_reducible apply Quiet.bitXyd)

theorem Quiet.inir (hq : Quiet s t) : Quiet s (Sys2Proof.Machine.inir t) := by
  unfold Sys2Proof.Machine.inir
  repeat (first | with_reducible exact hq | with_reducible apply Quiet.setPc | with_reducible apply Quiet.setWz | with_reducible apply Quiet.setSp | with_reducible apply Quiet.setReg | with_reducible apply Quiet.setA | with_reducible apply Quiet.setF | with_reducible apply Quiet.setB | with_reducible apply Quiet.setBc | with_reducible apply Quiet.setDe | with_reducible apply Quiet.setHl | with_reducible apply Quiet.setAf | with_reducible apply Quiet.setPair | with_reducible apply Quiet.setQPair | with_reducible apply Quiet.setXy | with_reducible apply Quiet.setHalf | with_reducible apply Quiet.alu | with_reducible apply Quiet.incF | with_reducible apply Quiet.decF | with_reducible apply Quiet.rotA | with_reducible apply Quiet.tick | with_reducible apply Quiet.rd | with_reducible apply Quiet.imm8 | with_reducible apply Quiet.wr | with_reducible apply Quiet.note | with_reducible apply Quiet.portRd | with_reducible apply Quiet.portWr | with_reducible apply Quiet.imm16 | with_reducible apply Quiet.push16 | with_reducible apply Quiet.pop16 | with_reducible apply Quiet.takenDelay | with_reducible apply Quiet.loadA | with_reducible apply Quiet.storeA | with_reducible apply Quiet.readWord | with_reducible apply Quiet.writeWord | with_reducible apply Quiet.exchangeTop | with_reducible apply Quiet.incMem | with_reducible apply Quiet.decMem | with_reducible apply Quiet.jumpRelative | with_reducible apply Quiet.callTo | with_reducible apply Quiet.returnTo | with_reducible apply Quiet.readDisplacement | with_reducible apply Quiet.rdModify | with_reducible apply Quiet.rotMem | with_reducible apply Quiet.atDisplacement | with_reducible apply Quiet.inputC | with_reducible apply Quiet.loadIR | with_reducible apply Quiet.nibbleRotate | with_reducible apply Quiet.repeatWz | with_reducible apply Quiet.repeatPc | with_reducible apply Quiet.blockLoad | with_reducible apply Quiet.blockLoadRepeat | with_reducible apply Quiet.blockCompare | with_reducible apply Quiet.blockCompareRepeat | with_reducible apply Quiet.blockIn | with_reducible apply Quiet.blockInRepeat | with_reducible apply Quiet.blockOut | with_reducible apply Quiet.blockOutRepeat | with_reducible apply Quiet.rotXyd | with_reducible apply Quiet.resXyd | with_reducible apply Quiet.setXyd | with_reducible apply Quiet.bitXyd)

theorem Quiet.indr (hq : Quiet s t) : Quiet s (Sys2Proof.Machine.indr t) := by
  unfold Sys2Proof.Machine.indr
  repeat (first | with_reducible exact hq | with_reducible apply Quiet.setPc | with_reducible apply Quiet.setWz | with_reducible apply Quiet.setSp | with_reducible apply Quiet.setReg | with_reducible apply Quiet.setA | with_reducible apply Quiet.setF | with_reducible apply Quiet.setB | with_reducible apply Quiet.setBc | with_reducible apply Quiet.setDe | with_reducible apply Quiet.setHl | with_reducible apply Quiet.setAf | with_reducible apply Quiet.setPair | with_reducible apply Quiet.setQPair | with_reducible apply Quiet.setXy | with_reducible apply Quiet.setHalf | with_reducible apply Quiet.alu | with_reducible apply Quiet.incF | with_reducible apply Quiet.decF | with_reducible apply Quiet.rotA | with_reducible apply Quiet.tick | with_reducible apply Quiet.rd | with_reducible apply Quiet.imm8 | with_reducible apply Quiet.wr | with_reducible apply Quiet.note | with_reducible apply Quiet.portRd | with_reducible apply Quiet.portWr | with_reducible apply Quiet.imm16 | with_reducible apply Quiet.push16 | with_reducible apply Quiet.pop16 | with_reducible apply Quiet.takenDelay | with_reducible apply Quiet.loadA | with_reducible apply Quiet.storeA | with_reducible apply Quiet.readWord | with_reducible apply Quiet.writeWord | with_reducible apply Quiet.exchangeTop | with_reducible apply Quiet.incMem | with_reducible apply Quiet.decMem | with_reducible apply Quiet.jumpRelative | with_reducible apply Quiet.callTo | with_reducible apply Quiet.returnTo | with_reducible apply Quiet.readDisplacement | with_reducible apply Quiet.rdModify | with_reducible apply Quiet.rotMem | with_reducible apply Quiet.atDisplacement | with_reducible apply Quiet.inputC | with_reducible apply Quiet.loadIR | with_reducible apply Quiet.nibbleRotate | with_reducible apply Quiet.repeatWz | with_reducible apply Quiet.repeatPc | with_reducible apply Quiet.blockLoad | with_reducible apply Quiet.blockLoadRepeat | with_reducible apply Quiet.blockCompare | with_reducible apply Quiet.blockCompareRepeat | with_reducible apply Quiet.blockIn | with_reducible apply Quiet.blockInRepeat | with_reducible apply Quiet.blockOut | with_reducible apply Quiet.blockOutRepeat | with_reducible apply Quiet.rotXyd | with_reducible apply Quiet.resXyd | with_reducible apply Quiet.setXyd | with_reducible apply Quiet.bitXyd)

theorem Quiet.outi (hq : Quiet s t) : Quiet s (Sys2Proof.Machine.outi t) := by
  unfold Sys2Proof.Machine.outi
  repeat (first | with_reducible exact hq | with_reducible apply Quiet.setPc | with_reducible apply Quiet.setWz | with_reducible apply Quiet.setSp | with_reducible apply Quiet.setReg | with_reducible apply Quiet.setA | with_reducible apply Quiet.setF | with_reducible apply Quiet.setB | with_reducible apply Quiet.setBc | with_reducible apply Quiet.setDe | with_reducible apply Quiet.setHl | with_reducible apply Quiet.setAf | with_reducible apply Quiet.setPair | with_reducible apply Quiet.setQPair | with_reducible apply Quiet.setXy | with_reducible apply Quiet.setHalf | with_reducible apply Quiet.alu | with_reducible apply Quiet.incF | with_reducible apply Quiet.decF | with_reducible apply Quiet.rotA | with_reducible apply Quiet.tick | with_reducible apply Quiet.rd | with_reducible apply Quiet.imm8 | with_reducible apply Quiet.wr | with_reducible apply Quiet.note | with_reducible apply Quiet.portRd | with_reducible apply Quiet.portWr | with_reducible apply Quiet.imm16 | with_reducible apply Quiet.push16 | with_reducible apply Quiet.pop16 | with_reducible apply Quiet.takenDelay | with_reducible apply Quiet.loadA | with_reducible apply Quiet.storeA | with_reducible apply Quiet.readWord | with_reducible apply Quiet.writeWord | with_reducible apply Quiet.exchangeTop | with_reducible apply Quiet.incMem | with_reducible apply Quiet.decMem | with_reducible apply Quiet.jumpRelative | with_reducible apply Quiet.callTo | with_reducible apply Quiet.returnTo | with_reducible apply Quiet.readDisplacement | with_reducible apply Quiet.rdModify | with_reducible apply Quiet.rotMem | with_reducible apply Quiet.atDisplacement | with_reducible apply Quiet.inputC | with_reducible apply Quiet.loadIR | with_reducible apply Quiet.nibbleRotate | with_reducible apply Quiet.repeatWz | with_reducible apply Quiet.repeatPc | with_reducible apply Quiet.blockLoad | with_reducible apply Quiet.blockLoadRepeat | with_reducible apply Quiet.blockCompare | with_reducible apply Quiet.blockCompareRepeat | with_reducible apply Quiet.blockIn | with_reducible apply Quiet.blockInRepeat | with_reducible apply Quiet.blockOut | with_reducible apply Quiet.blockOutRepeat | with_reducible apply Quiet.rotXyd | with_reducible apply Quiet.resXyd | with_reducible apply Quiet.setXyd | with_reducible apply Quiet.bitXyd)

theorem Quiet.outd (hq : Quiet s t) : Quiet s (Sys2Proof.Machine.outd t) := by
  unfold Sys2Proof.Machine.outd
  repeat (first | with_reducible exact hq | with_reducible apply Quiet.setPc | with_reducible apply Quiet.setWz | with_reducible apply Quiet.setSp | with_reducible apply Quiet.setReg | with_reducible apply Quiet.setA | with_reducible apply Quiet.setF | with_reducible apply Quiet.setB | with_reducible apply Quiet.setBc | with_reducible apply Quiet.setDe | with_reducible apply Quiet.setHl | with_reducible apply Quiet.setAf | with_reducible apply Quiet.setPair | with_reducible apply Quiet.setQPair | with_reducible apply Quiet.setXy | with_reducible apply Quiet.setHalf | with_reducible apply Quiet.alu | with_reducible apply Quiet.incF | with_reducible apply Quiet.decF | with_reducible apply Quiet.rotA | with_reducible apply Quiet.tick | with_reducible apply Quiet.rd | with_reducible apply Quiet.imm8 | with_reducible apply Quiet.wr | with_reducible apply Quiet.note | with_reducible apply Quiet.portRd | with_reducible apply Quiet.portWr | with_reducible apply Quiet.imm16 | with_reducible apply Quiet.push16 | with_reducible apply Quiet.pop16 | with_reducible apply Quiet.takenDelay | with_reducible apply Quiet.loadA | with_reducible apply Quiet.storeA | with_reducible apply Quiet.readWord | with_reducible apply Quiet.writeWord | with_reducible apply Quiet.exchangeTop | with_reducible apply Quiet.incMem | with_reducible apply Quiet.decMem | with_reducible apply Quiet.jumpRelative | with_reducible apply Quiet.callTo | with_reducible apply Quiet.returnTo | with_reducible apply Quiet.readDisplacement | with_reducible apply Quiet.rdModify | with_reducible apply Quiet.rotMem | with_reducible apply Quiet.atDisplacement | with_reducible apply Quiet.inputC | with_reducible apply Quiet.loadIR | with_reducible apply Quiet.nibbleRotate | with_reducible apply Quiet.repeatWz | with_reducible apply Quiet.repeatPc | with_reducible apply Quiet.blockLoad | with_reducible apply Quiet.blockLoadRepeat | with_reducible apply Quiet.blockCompare | with_reducible apply Quiet.blockCompareRepeat | with_reducible apply Quiet.blockIn | with_reducible apply Quiet.blockInRepeat | with_reducible apply Quiet.blockOut | with_reducible apply Quiet.blockOutRepeat | with_reducible apply Quiet.rotXyd | with_reducible apply Quiet.resXyd | with_reducible apply Quiet.setXyd | with_reducible apply Quiet.bitXyd)

theorem Quiet.otir (hq : Quiet s t) : Quiet s (Sys2Proof.Machine.otir t) := by
  unfold Sys2Proof.Machine.otir
  repeat (first | with_reducible exact hq | with_reducible apply Quiet.setPc | with_reducible apply Quiet.setWz | with_reducible apply Quiet.setSp | with_reducible apply Quiet.setReg | with_reducible apply Quiet.setA | with_reducible apply Quiet.setF | with_reducible apply Quiet.setB | with_reducible apply Quiet.setBc | with_reducible apply Quiet.setDe | with_reducible apply Quiet.setHl | with_reducible apply Quiet.setAf | with_reducible apply Quiet.setPair | with_reducible apply Quiet.setQPair | with_reducible apply Quiet.setXy | with_reducible apply Quiet.setHalf | with_reducible apply Quiet.alu | with_reducible apply Quiet.incF | with_reducible apply Quiet.decF | with_reducible apply Quiet.rotA | with_reducible apply Quiet.tick | with_reducible apply Quiet.rd | with_reducible apply Quiet.imm8 | with_reducible apply Quiet.wr | with_reducible apply Quiet.note | with_reducible apply Quiet.portRd | with_reducible apply Quiet.portWr | with_reducible apply Quiet.imm16 | with_reducible apply Quiet.push16 | with_reducible apply Quiet.pop16 | with_reducible apply Quiet.takenDelay | with_reducible apply Quiet.loadA | with_reducible apply Quiet.storeA | with_reducible apply Quiet.readWord | with_reducible apply Quiet.writeWord | with_reducible apply Quiet.exchangeTop | with_reducible apply Quiet.incMem | with_reducible apply Quiet.decMem | with_reducible apply Quiet.jumpRelative | with_reducible apply Quiet.callTo | with_reducible apply Quiet.returnTo | with_reducible apply Quiet.readDisplacement | with_reducible apply Quiet.rdModify | with_reducible apply Quiet.rotMem | with_reducible apply Quiet.atDisplacement | with_reducible apply Quiet.inputC | with_reducible apply Quiet.loadIR | with_reducible apply Quiet.nibbleRotate | with_reducible apply Quiet.repeatWz | with_reducible apply Quiet.repeatPc | with_reducible apply Quiet.blockLoad | with_reducible apply Quiet.blockLoadRepeat | with_reducible apply Quiet.blockCompare | with_reducible apply Quiet.blockCompareRepeat | with_reducible apply Quiet.blockIn | with_reducible apply Quiet.blockInRepeat | with_reducible apply Quiet.blockOut | with_reducible apply Quiet.blockOutRepeat | with_reducible apply Quiet.rotXyd | with_reducible apply Quiet.resXyd | with_reducible apply Quiet.setXyd | with_reducible apply Quiet.bitXyd)

theorem Quiet.otdr (hq : Quiet s t) : Quiet s (Sys2Proof.Machine.otdr t) := by
  unfold Sys2Proof.Machine.otdr
  repeat (first | with_reducible exact hq | with_reducible apply Quiet.setPc | with_reducible apply Quiet.setWz | with_reducible apply Quiet.setSp | with_reducible apply Quiet.setReg | with_reducible apply Quiet.setA | with_reducible apply Quiet.setF | with_reducible apply Quiet.setB | with_reducible apply Quiet.setBc | with_reducible apply Quiet.setDe | with_reducible apply Quiet.setHl | with_reducible apply Quiet.setAf | with_reducible apply Quiet.setPair | with_reducible apply Quiet.setQPair | with_reducible apply Quiet.setXy | with_reducible apply Quiet.setHalf | with_reducible apply Quiet.alu | with_reducible apply Quiet.incF | with_reducible apply Quiet.decF | with_reducible apply Quiet.rotA | with_reducible apply Quiet.tick | with_reducible apply Quiet.rd | with_reducible apply Quiet.imm8 | with_reducible apply Quiet.wr | with_reducible apply Quiet.note | with_reducible apply Quiet.portRd | with_reducible apply Quiet.portWr | with_reducible apply Quiet.imm16 | with_reducible apply Quiet.push16 | with_reducible apply Quiet.pop16 | with_reducible apply Quiet.takenDelay | with_reducible apply Quiet.loadA | with_reducible apply Quiet.storeA | with_reducible apply Quiet.readWord | with_reducible apply Quiet.writeWord | with_reducible apply Quiet.exchangeTop | with_reducible apply Quiet.incMem | with_reducible apply Quiet.decMem | with_reducible apply Quiet.jumpRelative | with_reducible apply Quiet.callTo | with_reducible apply Quiet.returnTo | with_reducible apply Quiet.readDisplacement | with_reducible apply Quiet.rdModify | with_reducible apply Quiet.rotMem | with_reducible apply Quiet.atDisplacement | with_reducible apply Quiet.inputC | with_reducible apply Quiet.loadIR | with_reducible apply Quiet.nibbleRotate | with_reducible apply Quiet.repeatWz | with_reducible apply Quiet.repeatPc | with_reducible apply Quiet.blockLoad | with_reducible apply Quiet.blockLoadRepeat | with_reducible apply Quiet.blockCompare | with_reducible apply Quiet.blockCompareRepeat | with_reducible apply Quiet.blockIn | with_reducible apply Quiet.blockInRepeat | with_reducible apply Quiet.blockOut | with_reducible apply Quiet.blockOutRepeat | with_reducible apply Quiet.rotXyd | with_reducible apply Quiet.resXyd | with_reducible apply Quiet.setXyd | with_reducible apply Quiet.bitXyd)

theorem Quiet.nopEd (hq : Quiet s t) : Quiet s (Sys2Proof.Machine.nopEd t) := by
  unfold Sys2Proof.Machine.nopEd
  repeat (first | with_reducible exact hq | with_reducible apply Quiet.setPc | with_reducible apply Quiet.setWz | with_reducible apply Quiet.setSp | with_reducible apply Quiet.setReg | with_reducible apply Quiet.setA | with_reducible apply Quiet.setF | with_reducible apply Quiet.setB | with_reducible apply Quiet.setBc | with_reducible apply Quiet.setDe | with_reducible apply Quiet.setHl | with_reducible apply Quiet.setAf | with_reducible apply Quiet.setPair | with_reducible apply Quiet.setQPair | with_reducible apply Quiet.setXy | with_reducible apply Quiet.setHalf | with_reducible apply Quiet.alu | with_reducible apply Quiet.incF | with_reducible apply Quiet.decF | with_reducible apply Quiet.rotA | with_reducible apply Quiet.tick | with_reducible apply Quiet.rd | with_reducible apply Quiet.imm8 | with_reducible apply Quiet.wr | with_reducible apply Quiet.note | with_reducible apply Quiet.portRd | with_reducible apply Quiet.portWr | with_reducible apply Quiet.imm16 | with_reducible apply Quiet.push16 | with_reducible apply Quiet.pop16 | with_reducible apply Quiet.takenDelay | with_reducible apply Quiet.loadA | with_reducible apply Quiet.storeA | with_reducible apply Quiet.readWord | with_reducible apply Quiet.writeWord | with_reducible apply Quiet.exchangeTop | with_reducible apply Quiet.incMem | with_reducible apply Quiet.decMem | with_reducible apply Quiet.jumpRelative | with_reducible apply Quiet.callTo | with_reducible apply Quiet.returnTo | with_reducible apply Quiet.readDisplacement | with_reducible apply Quiet.rdModify | with_reducible apply Quiet.rotMem | with_reducible apply Quiet.atDisplacement | with_reducible apply Quiet.inputC | with_reducible apply Quiet.loadIR | with_reducible apply Quiet.nibbleRotate | with_reducible apply Quiet.repeatWz | with_reducible apply Quiet.repeatPc | with_reducible apply Quiet.blockLoad | with_reducible apply Quiet.blockLoadRepeat | with_reducible apply Quiet.blockCompare | with_reducible apply Quiet.blockCompareRepeat | with_reducible apply Quiet.blockIn | with_reducible apply Quiet.blockInRepeat | with_reducible apply Quiet.blockOut | with_reducible apply Quiet.blockOutRepeat | with_reducible apply Quiet.rotXyd | with_reducible apply Quiet.resXyd | with_reducible apply Quiet.setXyd | with_reducible apply Quiet.bitXyd)

/-- A quiet form's operation is quiet. -/
theorem formRun_quiet (f : Form) (hf : quietForm f = true) (s : State) : Quiet s (formRun f s) := by
  cases f with
  | ldRegReg r q => exact (Quiet.refl s).ldRegReg r q
  | ldRegImm r => exact (Quiet.refl s).ldRegImm r
  | ldRegAtHl r => exact (Quiet.refl s).ldRegAtHl r
  | ldAtHlReg r => exact (Quiet.refl s).ldAtHlReg r
  | ldAtHlImm => exact (Quiet.refl s).ldAtHlImm
  | ldAAtBc => exact (Quiet.refl s).ldAAtBc
  | ldAAtDe => exact (Quiet.refl s).ldAAtDe
  | ldAAtNn => exact (Quiet.refl s).ldAAtNn
  | ldAtBcA => exact (Quiet.refl s).ldAtBcA
  | ldAtDeA => exact (Quiet.refl s).ldAtDeA
  | ldAtNnA => exact (Quiet.refl s).ldAtNnA
  | ldPairImm p => exact (Quiet.refl s).ldPairImm p
  | ldHlAtNn => exact (Quiet.refl s).ldHlAtNn
  | ldAtNnHl => exact (Quiet.refl s).ldAtNnHl
  | ldSpHl => exact (Quiet.refl s).ldSpHl
  | push p => exact (Quiet.refl s).push p
  | pop p => exact (Quiet.refl s).pop p
  | exDeHl => exact (Quiet.refl s).exDeHl
  | exAf => exact absurd hf Bool.false_ne_true
  | exx => exact absurd hf Bool.false_ne_true
  | exSpHl => exact (Quiet.refl s).exSpHl
  | aluReg op r => exact (Quiet.refl s).aluReg op r
  | aluAtHl op => exact (Quiet.refl s).aluAtHl op
  | aluImm op => exact (Quiet.refl s).aluImm op
  | incReg r => exact (Quiet.refl s).incReg r
  | incAtHl => exact (Quiet.refl s).incAtHl
  | decReg r => exact (Quiet.refl s).decReg r
  | decAtHl => exact (Quiet.refl s).decAtHl
  | daa => exact (Quiet.refl s).daa
  | cpl => exact (Quiet.refl s).cpl
  | scf => exact (Quiet.refl s).scf
  | ccf => exact (Quiet.refl s).ccf
  | rlca => exact (Quiet.refl s).rlca
  | rrca => exact (Quiet.refl s).rrca
  | rla => exact (Quiet.refl s).rla
  | rra => exact (Quiet.refl s).rra
  | addHl p => exact (Quiet.refl s).addHl p
  | incPair p => exact (Quiet.refl s).incPair p
  | decPair p => exact (Quiet.refl s).decPair p
  | jp => exact (Quiet.refl s).jp
  | jpCc cc => exact (Quiet.refl s).jpCc cc
  | jpHl => exact (Quiet.refl s).jpHl
  | jr => exact (Quiet.refl s).jr
  | jrCc cc => exact (Quiet.refl s).jrCc cc
  | djnz => exact (Quiet.refl s).djnz
  | call => exact (Quiet.refl s).call
  | callCc cc => exact (Quiet.refl s).callCc cc
  | ret => exact (Quiet.refl s).ret
  | retCc cc => exact (Quiet.refl s).retCc cc
  | rst y => exact (Quiet.refl s).rst y
  | nop => exact (Quiet.refl s).nop
  | halt => exact absurd hf Bool.false_ne_true
  | di => exact absurd hf Bool.false_ne_true
  | ei => exact absurd hf Bool.false_ne_true
  | inA => exact (Quiet.refl s).inA
  | outA => exact (Quiet.refl s).outA
  | prefixCb => exact absurd hf Bool.false_ne_true
  | prefixDd => exact absurd hf Bool.false_ne_true
  | prefixEd => exact absurd hf Bool.false_ne_true
  | prefixFd => exact absurd hf Bool.false_ne_true
  | ldXyImm x => exact (Quiet.refl s).ldXyImm x
  | ldAtNnXy x => exact (Quiet.refl s).ldAtNnXy x
  | ldXyAtNn x => exact (Quiet.refl s).ldXyAtNn x
  | ldSpXy x => exact (Quiet.refl s).ldSpXy x
  | pushXy x => exact (Quiet.refl s).pushXy x
  | popXy x => exact (Quiet.refl s).popXy x
  | exSpXy x => exact (Quiet.refl s).exSpXy x
  | jpXy x => exact (Quiet.refl s).jpXy x
  | addXy x p => exact (Quiet.refl s).addXy x p
  | incXy x => exact (Quiet.refl s).incXy x
  | decXy x => exact (Quiet.refl s).decXy x
  | ldRegXyd x r => exact (Quiet.refl s).ldRegXyd x r
  | ldXydReg x r => exact (Quiet.refl s).ldXydReg x r
  | ldXydImm x => exact (Quiet.refl s).ldXydImm x
  | incXyd x => exact (Quiet.refl s).incXyd x
  | decXyd x => exact (Quiet.refl s).decXyd x
  | aluXyd x op => exact (Quiet.refl s).aluXyd x op
  | ldHalfImm x h => exact (Quiet.refl s).ldHalfImm x h
  | ldRegHalf x r h => exact (Quiet.refl s).ldRegHalf x r h
  | ldHalfReg x h r => exact (Quiet.refl s).ldHalfReg x h r
  | ldHalfHalf x h k => exact (Quiet.refl s).ldHalfHalf x h k
  | incHalf x h => exact (Quiet.refl s).incHalf x h
  | decHalf x h => exact (Quiet.refl s).decHalf x h
  | aluHalf x op h => exact (Quiet.refl s).aluHalf x op h
  | rotReg k r => exact (Quiet.refl s).rotReg k r
  | rotAtHl k => exact (Quiet.refl s).rotAtHl k
  | bitReg b r => exact (Quiet.refl s).bitReg b r
  | bitAtHl b => exact (Quiet.refl s).bitAtHl b
  | resReg b r => exact (Quiet.refl s).resReg b r
  | resAtHl b => exact (Quiet.refl s).resAtHl b
  | setReg b r => exact (Quiet.refl s).setBitReg b r
  | setAtHl b => exact (Quiet.refl s).setAtHl b
  | rotXyd x k => exact (Quiet.refl s).rotXyd x k
  | rotXydCopy x k r => exact (Quiet.refl s).rotXydCopy x k r
  | bitXyd x b z => exact (Quiet.refl s).bitXyd x b
  | resXyd x b => exact (Quiet.refl s).resXyd x b
  | resXydCopy x b r => exact (Quiet.refl s).resXydCopy x b r
  | setXyd x b => exact (Quiet.refl s).setXyd x b
  | setXydCopy x b r => exact (Quiet.refl s).setXydCopy x b r
  | inReg r => exact (Quiet.refl s).inReg r
  | inFlags => exact (Quiet.refl s).inFlags
  | outReg r => exact (Quiet.refl s).outReg r
  | outZero => exact (Quiet.refl s).outZero
  | sbcHl p => exact (Quiet.refl s).sbcHl p
  | adcHl p => exact (Quiet.refl s).adcHl p
  | ldAtNnPair p => exact (Quiet.refl s).ldAtNnPair p
  | ldPairAtNn p => exact (Quiet.refl s).ldPairAtNn p
  | neg y => exact (Quiet.refl s).neg
  | retn y => exact absurd hf Bool.false_ne_true
  | reti => exact absurd hf Bool.false_ne_true
  | im m y => exact absurd hf Bool.false_ne_true
  | ldIA => exact absurd hf Bool.false_ne_true
  | ldRA => exact absurd hf Bool.false_ne_true
  | ldAI => exact (Quiet.refl s).ldAI
  | ldAR => exact (Quiet.refl s).ldAR
  | rrd => exact (Quiet.refl s).rrd
  | rld => exact (Quiet.refl s).rld
  | ldi => exact (Quiet.refl s).ldi
  | ldd => exact (Quiet.refl s).ldd
  | ldir => exact (Quiet.refl s).ldir
  | lddr => exact (Quiet.refl s).lddr
  | cpi => exact (Quiet.refl s).cpi
  | cpd => exact (Quiet.refl s).cpd
  | cpir => exact (Quiet.refl s).cpir
  | cpdr => exact (Quiet.refl s).cpdr
  | ini => exact (Quiet.refl s).ini
  | ind => exact (Quiet.refl s).ind
  | inir => exact (Quiet.refl s).inir
  | indr => exact (Quiet.refl s).indr
  | outi => exact (Quiet.refl s).outi
  | outd => exact (Quiet.refl s).outd
  | otir => exact (Quiet.refl s).otir
  | otdr => exact (Quiet.refl s).otdr
  | nopEd op => exact (Quiet.refl s).nopEd

/-- Every form's operation is steady. -/
theorem formRun_steady (f : Form) (s : State) : Steady s (formRun f s) := by
  by_cases hf : quietForm f = true
  · exact (formRun_quiet f hf s).toSteady
  · cases f <;> first | (exact absurd rfl hf) | skip
    case exAf => exact ⟨rfl, rfl, rfl, id, ⟨[], rfl⟩, Nat.le_refl _⟩
    case exx => exact ⟨rfl, rfl, rfl, id, ⟨[], rfl⟩, Nat.le_refl _⟩
    case halt => exact ⟨rfl, rfl, rfl, id, ⟨[], rfl⟩, Nat.le_refl _⟩
    case di => exact ⟨rfl, rfl, rfl, id, ⟨[], rfl⟩, Nat.le_refl _⟩
    case ei => exact ⟨rfl, rfl, rfl, id, ⟨[], rfl⟩, Nat.le_refl _⟩
    case prefixCb => exact ⟨rfl, rfl, rfl, id, ⟨[], rfl⟩, Nat.le_refl _⟩
    case prefixDd => exact ⟨rfl, rfl, rfl, id, ⟨[], rfl⟩, Nat.le_refl _⟩
    case prefixEd => exact ⟨rfl, rfl, rfl, id, ⟨[], rfl⟩, Nat.le_refl _⟩
    case prefixFd => exact ⟨rfl, rfl, rfl, id, ⟨[], rfl⟩, Nat.le_refl _⟩
    case retn => exact (Quiet.refl s).pop16.toSteady.trans ⟨rfl, rfl, rfl, id, ⟨[], rfl⟩, Nat.le_refl _⟩
    case reti => exact (Quiet.refl s).pop16.toSteady.trans ⟨rfl, rfl, rfl, id, ⟨[], rfl⟩, Nat.le_refl _⟩
    case im => exact ⟨rfl, rfl, rfl, id, ⟨[], rfl⟩, Nat.le_refl _⟩
    case ldIA => exact ⟨rfl, rfl, rfl, id, ⟨[], rfl⟩, Nat.le_add_right _ _⟩
    case ldRA => exact ⟨rfl, rfl, rfl, id, ⟨[], rfl⟩, Nat.le_add_right _ _⟩

/-- The forms that are not quiet. -/
theorem loud_cases (f : Form) (hf : quietForm f = false) :
    f = .exAf ∨ f = .exx ∨ f = .halt ∨ f = .di ∨ f = .ei ∨ f = .prefixCb ∨ f = .prefixDd ∨ f = .prefixEd ∨ f = .prefixFd ∨
    (∃ y, f = .retn y) ∨ f = .reti ∨ (∃ m y, f = .im m y) ∨ f = .ldIA ∨ f = .ldRA := by
  cases f <;> first | (exact Bool.noConfusion hf) | simp

/-! ## Which forms write a field that is not quiet -/

/-- `R` is written by `LD R,A` only (R29, R464). -/
theorem formRun_rReg (f : Form) (s : State) (h0 : f ≠ .ldRA) :
    (formRun f s).rReg = s.rReg := by
  cases hq : quietForm f
  · rcases loud_cases f hq with rfl | rfl | rfl | rfl | rfl | rfl | rfl | rfl | rfl | ⟨y, rfl⟩ | rfl | ⟨m, y, rfl⟩ | rfl | rfl
    · exact rfl
    · exact rfl
    · exact rfl
    · exact rfl
    · exact rfl
    · exact rfl
    · exact rfl
    · exact rfl
    · exact rfl
    · exact ((Quiet.refl s).pop16).rReg
    · exact ((Quiet.refl s).pop16).rReg
    · exact rfl
    · exact rfl
    · exact absurd rfl h0
  · exact (formRun_quiet f hq s).rReg

/-- `I` is written by `LD I,A` only (R28, R463). -/
theorem formRun_iReg (f : Form) (s : State) (h0 : f ≠ .ldIA) :
    (formRun f s).iReg = s.iReg := by
  cases hq : quietForm f
  · rcases loud_cases f hq with rfl | rfl | rfl | rfl | rfl | rfl | rfl | rfl | rfl | ⟨y, rfl⟩ | rfl | ⟨m, y, rfl⟩ | rfl | rfl
    · exact rfl
    · exact rfl
    · exact rfl
    · exact rfl
    · exact rfl
    · exact rfl
    · exact rfl
    · exact rfl
    · exact rfl
    · exact ((Quiet.refl s).pop16).iReg
    · exact ((Quiet.refl s).pop16).iReg
    · exact rfl
    · exact absurd rfl h0
    · exact rfl
  · exact (formRun_quiet f hq s).iReg

/-- `IM` is written by `IM m` only (R35, R462). -/
theorem formRun_im (f : Form) (s : State) (h0 : ∀ m y, f ≠ .im m y) :
    (formRun f s).im = s.im := by
  cases hq : quietForm f
  · rcases loud_cases f hq with rfl | rfl | rfl | rfl | rfl | rfl | rfl | rfl | rfl | ⟨y, rfl⟩ | rfl | ⟨m, y, rfl⟩ | rfl | rfl
    · exact rfl
    · exact rfl
    · exact rfl
    · exact rfl
    · exact rfl
    · exact rfl
    · exact rfl
    · exact rfl
    · exact rfl
    · exact ((Quiet.refl s).pop16).im
    · exact ((Quiet.refl s).pop16).im
    · exact absurd rfl (h0 m y)
    · exact rfl
    · exact rfl
  · exact (formRun_quiet f hq s).im

/-- The interrupt flip-flops are written by `DI`, `EI`, `RETN` and `RETI` only (R34). -/
theorem formRun_iff (f : Form) (s : State) (h0 : f ≠ .di) (h1 : f ≠ .ei) (h2 : ∀ y, f ≠ .retn y) (h3 : f ≠ .reti) :
    (formRun f s).iff1 = s.iff1 ∧ (formRun f s).iff2 = s.iff2 := by
  cases hq : quietForm f
  · rcases loud_cases f hq with rfl | rfl | rfl | rfl | rfl | rfl | rfl | rfl | rfl | ⟨y, rfl⟩ | rfl | ⟨m, y, rfl⟩ | rfl | rfl
    · exact ⟨rfl, rfl⟩
    · exact ⟨rfl, rfl⟩
    · exact ⟨rfl, rfl⟩
    · exact absurd rfl h0
    · exact absurd rfl h1
    · exact ⟨rfl, rfl⟩
    · exact ⟨rfl, rfl⟩
    · exact ⟨rfl, rfl⟩
    · exact ⟨rfl, rfl⟩
    · exact absurd rfl (h2 y)
    · exact absurd rfl h3
    · exact ⟨rfl, rfl⟩
    · exact ⟨rfl, rfl⟩
    · exact ⟨rfl, rfl⟩
  · exact ⟨(formRun_quiet f hq s).iff1, (formRun_quiet f hq s).iff2⟩

/-- The signal bits are written by `HALT` only (R33, R341). -/
theorem formRun_sig (f : Form) (s : State) (h0 : f ≠ .halt) :
    (formRun f s).sig = s.sig := by
  cases hq : quietForm f
  · rcases loud_cases f hq with rfl | rfl | rfl | rfl | rfl | rfl | rfl | rfl | rfl | ⟨y, rfl⟩ | rfl | ⟨m, y, rfl⟩ | rfl | rfl
    · exact rfl
    · exact rfl
    · exact absurd rfl h0
    · exact rfl
    · exact rfl
    · exact rfl
    · exact rfl
    · exact rfl
    · exact rfl
    · exact ((Quiet.refl s).pop16).sig
    · exact ((Quiet.refl s).pop16).sig
    · exact rfl
    · exact rfl
    · exact rfl
  · exact (formRun_quiet f hq s).sig

/-- The hold-off is set by `EI` and the prefix bytes only (R36). -/
theorem formRun_blocked (f : Form) (s : State) (h0 : f ≠ .ei) (h1 : prefixForm f = false) :
    (formRun f s).blocked = s.blocked := by
  cases hq : quietForm f
  · rcases loud_cases f hq with rfl | rfl | rfl | rfl | rfl | rfl | rfl | rfl | rfl | ⟨y, rfl⟩ | rfl | ⟨m, y, rfl⟩ | rfl | rfl
    · exact rfl
    · exact rfl
    · exact rfl
    · exact rfl
    · exact absurd rfl h0
    · exact absurd h1 (by decide)
    · exact absurd h1 (by decide)
    · exact absurd h1 (by decide)
    · exact absurd h1 (by decide)
    · exact ((Quiet.refl s).pop16).blocked
    · exact ((Quiet.refl s).pop16).blocked
    · exact rfl
    · exact rfl
    · exact rfl
  · exact (formRun_quiet f hq s).blocked

/-- The latches are written by the prefix bytes only (R37 to R39). -/
theorem formRun_latches (f : Form) (s : State) (h0 : prefixForm f = false) :
    (formRun f s).prefixMode = s.prefixMode ∧ (formRun f s).indexMode = s.indexMode ∧ (formRun f s).inOp = s.inOp := by
  cases hq : quietForm f
  · rcases loud_cases f hq with rfl | rfl | rfl | rfl | rfl | rfl | rfl | rfl | rfl | ⟨y, rfl⟩ | rfl | ⟨m, y, rfl⟩ | rfl | rfl
    · exact ⟨rfl, rfl, rfl⟩
    · exact ⟨rfl, rfl, rfl⟩
    · exact ⟨rfl, rfl, rfl⟩
    · exact ⟨rfl, rfl, rfl⟩
    · exact ⟨rfl, rfl, rfl⟩
    · exact absurd h0 (by decide)
    · exact absurd h0 (by decide)
    · exact absurd h0 (by decide)
    · exact absurd h0 (by decide)
    · exact ⟨((Quiet.refl s).pop16).prefixMode, ((Quiet.refl s).pop16).indexMode, ((Quiet.refl s).pop16).inOp⟩
    · exact ⟨((Quiet.refl s).pop16).prefixMode, ((Quiet.refl s).pop16).indexMode, ((Quiet.refl s).pop16).inOp⟩
    · exact ⟨rfl, rfl, rfl⟩
    · exact ⟨rfl, rfl, rfl⟩
    · exact ⟨rfl, rfl, rfl⟩
  · exact ⟨(formRun_quiet f hq s).prefixMode, (formRun_quiet f hq s).indexMode, (formRun_quiet f hq s).inOp⟩

/-- The shadows are written by the two exchanges only (R22). -/
theorem formRun_shadows (f : Form) (s : State) (h0 : f ≠ .exAf) (h1 : f ≠ .exx) :
    (formRun f s).afAlt = s.afAlt ∧ (formRun f s).bcAlt = s.bcAlt ∧ (formRun f s).deAlt = s.deAlt ∧ (formRun f s).hlAlt = s.hlAlt := by
  cases hq : quietForm f
  · rcases loud_cases f hq with rfl | rfl | rfl | rfl | rfl | rfl | rfl | rfl | rfl | ⟨y, rfl⟩ | rfl | ⟨m, y, rfl⟩ | rfl | rfl
    · exact absurd rfl h0
    · exact absurd rfl h1
    · exact ⟨rfl, rfl, rfl, rfl⟩
    · exact ⟨rfl, rfl, rfl, rfl⟩
    · exact ⟨rfl, rfl, rfl, rfl⟩
    · exact ⟨rfl, rfl, rfl, rfl⟩
    · exact ⟨rfl, rfl, rfl, rfl⟩
    · exact ⟨rfl, rfl, rfl, rfl⟩
    · exact ⟨rfl, rfl, rfl, rfl⟩
    · exact ⟨((Quiet.refl s).pop16).afAlt, ((Quiet.refl s).pop16).bcAlt, ((Quiet.refl s).pop16).deAlt, ((Quiet.refl s).pop16).hlAlt⟩
    · exact ⟨((Quiet.refl s).pop16).afAlt, ((Quiet.refl s).pop16).bcAlt, ((Quiet.refl s).pop16).deAlt, ((Quiet.refl s).pop16).hlAlt⟩
    · exact ⟨rfl, rfl, rfl, rfl⟩
    · exact ⟨rfl, rfl, rfl, rfl⟩
    · exact ⟨rfl, rfl, rfl, rfl⟩
  · exact ⟨(formRun_quiet f hq s).afAlt, (formRun_quiet f hq s).bcAlt, (formRun_quiet f hq s).deAlt, (formRun_quiet f hq s).hlAlt⟩

end Sys2Proof.Machine
end

