-- ==== Sys2Proof/Laws/Latch.lean ====
section
/-! SUPPORT. No instruction but a prefix byte reads the index latch or changes it (R165): its operation on a state with another
latch is its operation on the state, with that latch. Operations without a branch are so by computation; a branch asks for
the two sides of each. -/

namespace Sys2Proof.Machine

/-- The state with the index latch at `im`. -/
def State.withIndex (s : State) (im : IndexMode) : State := { s with indexMode := im }

variable (im : IndexMode) (s : State)

/-- A choice that does not depend on the latch. -/
theorem withIndex_ite (p : Prop) [Decidable p] (t u : State) :
    (if p then t.withIndex im else u.withIndex im) = (if p then t else u).withIndex im := by
  split <;> rfl

theorem withIndex_extraReads (da : Word) (n : Nat) :
    (s.withIndex im).extraReads da n = (s.extraReads da n).withIndex im := by
  induction n generalizing s with
  | zero => rfl
  | succ n ih => exact ih ((s.note .memRead da (s.byteAt da)).tick s.cfg.tact.extraRead)

theorem withIndex_takenDelay (da : Word) : (s.withIndex im).takenDelay da = (s.takenDelay da).withIndex im := by
  unfold State.takenDelay
  rw [← withIndex_ite, ← withIndex_extraReads]
  rfl

theorem withIndex_jumpRelative (da : Word) (e : Byte) :
    (s.withIndex im).jumpRelative da e = (s.jumpRelative da e).withIndex im := by
  unfold State.jumpRelative
  dsimp only
  rw [withIndex_takenDelay]
  rfl

/-! ## The operations -/

theorem withIndex_ldRegReg (r : Reg8) (q : Reg8) : Sys2Proof.Machine.ldRegReg r q (s.withIndex im) = (Sys2Proof.Machine.ldRegReg r q s).withIndex im := rfl

theorem withIndex_ldRegImm (r : Reg8) : Sys2Proof.Machine.ldRegImm r (s.withIndex im) = (Sys2Proof.Machine.ldRegImm r s).withIndex im := rfl

theorem withIndex_ldRegAtHl (r : Reg8) : Sys2Proof.Machine.ldRegAtHl r (s.withIndex im) = (Sys2Proof.Machine.ldRegAtHl r s).withIndex im := rfl

theorem withIndex_ldAtHlReg (r : Reg8) : Sys2Proof.Machine.ldAtHlReg r (s.withIndex im) = (Sys2Proof.Machine.ldAtHlReg r s).withIndex im := rfl

theorem withIndex_ldAtHlImm : Sys2Proof.Machine.ldAtHlImm (s.withIndex im) = (Sys2Proof.Machine.ldAtHlImm s).withIndex im := rfl

theorem withIndex_ldAAtBc : Sys2Proof.Machine.ldAAtBc (s.withIndex im) = (Sys2Proof.Machine.ldAAtBc s).withIndex im := rfl

theorem withIndex_ldAAtDe : Sys2Proof.Machine.ldAAtDe (s.withIndex im) = (Sys2Proof.Machine.ldAAtDe s).withIndex im := rfl

theorem withIndex_ldAAtNn : Sys2Proof.Machine.ldAAtNn (s.withIndex im) = (Sys2Proof.Machine.ldAAtNn s).withIndex im := rfl

theorem withIndex_ldAtBcA : Sys2Proof.Machine.ldAtBcA (s.withIndex im) = (Sys2Proof.Machine.ldAtBcA s).withIndex im := rfl

theorem withIndex_ldAtDeA : Sys2Proof.Machine.ldAtDeA (s.withIndex im) = (Sys2Proof.Machine.ldAtDeA s).withIndex im := rfl

theorem withIndex_ldAtNnA : Sys2Proof.Machine.ldAtNnA (s.withIndex im) = (Sys2Proof.Machine.ldAtNnA s).withIndex im := rfl

theorem withIndex_ldPairImm (p : Pair) : Sys2Proof.Machine.ldPairImm p (s.withIndex im) = (Sys2Proof.Machine.ldPairImm p s).withIndex im := by
  cases p <;> rfl

theorem withIndex_ldHlAtNn : Sys2Proof.Machine.ldHlAtNn (s.withIndex im) = (Sys2Proof.Machine.ldHlAtNn s).withIndex im := rfl

theorem withIndex_ldAtNnHl : Sys2Proof.Machine.ldAtNnHl (s.withIndex im) = (Sys2Proof.Machine.ldAtNnHl s).withIndex im := rfl

theorem withIndex_ldSpHl : Sys2Proof.Machine.ldSpHl (s.withIndex im) = (Sys2Proof.Machine.ldSpHl s).withIndex im := rfl

theorem withIndex_push (p : QPair) : Sys2Proof.Machine.push p (s.withIndex im) = (Sys2Proof.Machine.push p s).withIndex im := by
  cases p <;> rfl

theorem withIndex_pop (p : QPair) : Sys2Proof.Machine.pop p (s.withIndex im) = (Sys2Proof.Machine.pop p s).withIndex im := by
  cases p <;> rfl

theorem withIndex_exDeHl : Sys2Proof.Machine.exDeHl (s.withIndex im) = (Sys2Proof.Machine.exDeHl s).withIndex im := rfl

theorem withIndex_exAf : Sys2Proof.Machine.exAf (s.withIndex im) = (Sys2Proof.Machine.exAf s).withIndex im := rfl

theorem withIndex_exx : Sys2Proof.Machine.exx (s.withIndex im) = (Sys2Proof.Machine.exx s).withIndex im := rfl

theorem withIndex_exSpHl : Sys2Proof.Machine.exSpHl (s.withIndex im) = (Sys2Proof.Machine.exSpHl s).withIndex im := rfl

theorem withIndex_aluReg (op : AluOp) (r : Reg8) : Sys2Proof.Machine.aluReg op r (s.withIndex im) = (Sys2Proof.Machine.aluReg op r s).withIndex im := rfl

theorem withIndex_aluAtHl (op : AluOp) : Sys2Proof.Machine.aluAtHl op (s.withIndex im) = (Sys2Proof.Machine.aluAtHl op s).withIndex im := rfl

theorem withIndex_aluImm (op : AluOp) : Sys2Proof.Machine.aluImm op (s.withIndex im) = (Sys2Proof.Machine.aluImm op s).withIndex im := rfl

theorem withIndex_incReg (r : Reg8) : Sys2Proof.Machine.incReg r (s.withIndex im) = (Sys2Proof.Machine.incReg r s).withIndex im := rfl

theorem withIndex_incAtHl : Sys2Proof.Machine.incAtHl (s.withIndex im) = (Sys2Proof.Machine.incAtHl s).withIndex im := rfl

theorem withIndex_decReg (r : Reg8) : Sys2Proof.Machine.decReg r (s.withIndex im) = (Sys2Proof.Machine.decReg r s).withIndex im := rfl

theorem withIndex_decAtHl : Sys2Proof.Machine.decAtHl (s.withIndex im) = (Sys2Proof.Machine.decAtHl s).withIndex im := rfl

theorem withIndex_daa : Sys2Proof.Machine.daa (s.withIndex im) = (Sys2Proof.Machine.daa s).withIndex im := rfl

theorem withIndex_cpl : Sys2Proof.Machine.cpl (s.withIndex im) = (Sys2Proof.Machine.cpl s).withIndex im := rfl

theorem withIndex_scf : Sys2Proof.Machine.scf (s.withIndex im) = (Sys2Proof.Machine.scf s).withIndex im := rfl

theorem withIndex_ccf : Sys2Proof.Machine.ccf (s.withIndex im) = (Sys2Proof.Machine.ccf s).withIndex im := rfl

theorem withIndex_rlca : Sys2Proof.Machine.rlca (s.withIndex im) = (Sys2Proof.Machine.rlca s).withIndex im := rfl

theorem withIndex_rrca : Sys2Proof.Machine.rrca (s.withIndex im) = (Sys2Proof.Machine.rrca s).withIndex im := rfl

theorem withIndex_rla : Sys2Proof.Machine.rla (s.withIndex im) = (Sys2Proof.Machine.rla s).withIndex im := rfl

theorem withIndex_rra : Sys2Proof.Machine.rra (s.withIndex im) = (Sys2Proof.Machine.rra s).withIndex im := rfl

theorem withIndex_addHl (p : Pair) : Sys2Proof.Machine.addHl p (s.withIndex im) = (Sys2Proof.Machine.addHl p s).withIndex im := by
  cases p <;> rfl

theorem withIndex_incPair (p : Pair) : Sys2Proof.Machine.incPair p (s.withIndex im) = (Sys2Proof.Machine.incPair p s).withIndex im := by
  cases p <;> rfl

theorem withIndex_decPair (p : Pair) : Sys2Proof.Machine.decPair p (s.withIndex im) = (Sys2Proof.Machine.decPair p s).withIndex im := by
  cases p <;> rfl

theorem withIndex_jp : Sys2Proof.Machine.jp (s.withIndex im) = (Sys2Proof.Machine.jp s).withIndex im := rfl

theorem withIndex_jpCc (cc : Cond) : Sys2Proof.Machine.jpCc cc (s.withIndex im) = (Sys2Proof.Machine.jpCc cc s).withIndex im := by
  unfold jpCc
  dsimp only
  rw [← withIndex_ite]
  rfl

theorem withIndex_jpHl : Sys2Proof.Machine.jpHl (s.withIndex im) = (Sys2Proof.Machine.jpHl s).withIndex im := rfl

theorem withIndex_jr : Sys2Proof.Machine.jr (s.withIndex im) = (Sys2Proof.Machine.jr s).withIndex im := withIndex_jumpRelative im s.imm8 s.pc (s.byteAt s.pc)

theorem withIndex_jrCc (cc : RelCond) : Sys2Proof.Machine.jrCc cc (s.withIndex im) = (Sys2Proof.Machine.jrCc cc s).withIndex im := by
  unfold jrCc
  rw [← withIndex_ite, ← withIndex_jumpRelative]
  rfl

theorem withIndex_djnz : Sys2Proof.Machine.djnz (s.withIndex im) = (Sys2Proof.Machine.djnz s).withIndex im := by
  unfold djnz
  dsimp only
  rw [← withIndex_ite, ← withIndex_jumpRelative]
  rfl

theorem withIndex_call : Sys2Proof.Machine.call (s.withIndex im) = (Sys2Proof.Machine.call s).withIndex im := rfl

theorem withIndex_callCc (cc : Cond) : Sys2Proof.Machine.callCc cc (s.withIndex im) = (Sys2Proof.Machine.callCc cc s).withIndex im := by
  unfold callCc
  dsimp only
  rw [← withIndex_ite]
  rfl

theorem withIndex_ret : Sys2Proof.Machine.ret (s.withIndex im) = (Sys2Proof.Machine.ret s).withIndex im := rfl

theorem withIndex_retCc (cc : Cond) : Sys2Proof.Machine.retCc cc (s.withIndex im) = (Sys2Proof.Machine.retCc cc s).withIndex im := by
  unfold retCc
  dsimp only
  rw [← withIndex_ite]
  rfl

theorem withIndex_rst (y : BitNo) : Sys2Proof.Machine.rst y (s.withIndex im) = (Sys2Proof.Machine.rst y s).withIndex im := rfl

theorem withIndex_nop : Sys2Proof.Machine.nop (s.withIndex im) = (Sys2Proof.Machine.nop s).withIndex im := rfl

theorem withIndex_halt : Sys2Proof.Machine.halt (s.withIndex im) = (Sys2Proof.Machine.halt s).withIndex im := rfl

theorem withIndex_di : Sys2Proof.Machine.di (s.withIndex im) = (Sys2Proof.Machine.di s).withIndex im := rfl

theorem withIndex_ei : Sys2Proof.Machine.ei (s.withIndex im) = (Sys2Proof.Machine.ei s).withIndex im := rfl

theorem withIndex_inA : Sys2Proof.Machine.inA (s.withIndex im) = (Sys2Proof.Machine.inA s).withIndex im := rfl

theorem withIndex_outA : Sys2Proof.Machine.outA (s.withIndex im) = (Sys2Proof.Machine.outA s).withIndex im := rfl

theorem withIndex_ldXyImm (x : XY) : Sys2Proof.Machine.ldXyImm x (s.withIndex im) = (Sys2Proof.Machine.ldXyImm x s).withIndex im := by
  cases x <;> rfl

theorem withIndex_ldAtNnXy (x : XY) : Sys2Proof.Machine.ldAtNnXy x (s.withIndex im) = (Sys2Proof.Machine.ldAtNnXy x s).withIndex im := by
  cases x <;> rfl

theorem withIndex_ldXyAtNn (x : XY) : Sys2Proof.Machine.ldXyAtNn x (s.withIndex im) = (Sys2Proof.Machine.ldXyAtNn x s).withIndex im := by
  cases x <;> rfl

theorem withIndex_ldSpXy (x : XY) : Sys2Proof.Machine.ldSpXy x (s.withIndex im) = (Sys2Proof.Machine.ldSpXy x s).withIndex im := by
  cases x <;> rfl

theorem withIndex_pushXy (x : XY) : Sys2Proof.Machine.pushXy x (s.withIndex im) = (Sys2Proof.Machine.pushXy x s).withIndex im := by
  cases x <;> rfl

theorem withIndex_popXy (x : XY) : Sys2Proof.Machine.popXy x (s.withIndex im) = (Sys2Proof.Machine.popXy x s).withIndex im := by
  cases x <;> rfl

theorem withIndex_exSpXy (x : XY) : Sys2Proof.Machine.exSpXy x (s.withIndex im) = (Sys2Proof.Machine.exSpXy x s).withIndex im := by
  cases x <;> rfl

theorem withIndex_jpXy (x : XY) : Sys2Proof.Machine.jpXy x (s.withIndex im) = (Sys2Proof.Machine.jpXy x s).withIndex im := by
  cases x <;> rfl

theorem withIndex_addXy (x : XY) (p : Pair) : Sys2Proof.Machine.addXy x p (s.withIndex im) = (Sys2Proof.Machine.addXy x p s).withIndex im := by
  cases x <;> cases p <;> rfl

theorem withIndex_incXy (x : XY) : Sys2Proof.Machine.incXy x (s.withIndex im) = (Sys2Proof.Machine.incXy x s).withIndex im := by
  cases x <;> rfl

theorem withIndex_decXy (x : XY) : Sys2Proof.Machine.decXy x (s.withIndex im) = (Sys2Proof.Machine.decXy x s).withIndex im := by
  cases x <;> rfl

theorem withIndex_ldRegXyd (x : XY) (r : Reg8) : Sys2Proof.Machine.ldRegXyd x r (s.withIndex im) = (Sys2Proof.Machine.ldRegXyd x r s).withIndex im := by
  cases x <;> rfl

theorem withIndex_ldXydReg (x : XY) (r : Reg8) : Sys2Proof.Machine.ldXydReg x r (s.withIndex im) = (Sys2Proof.Machine.ldXydReg x r s).withIndex im := by
  cases x <;> rfl

theorem withIndex_ldXydImm (x : XY) : Sys2Proof.Machine.ldXydImm x (s.withIndex im) = (Sys2Proof.Machine.ldXydImm x s).withIndex im := by
  cases x <;> rfl

theorem withIndex_incXyd (x : XY) : Sys2Proof.Machine.incXyd x (s.withIndex im) = (Sys2Proof.Machine.incXyd x s).withIndex im := by
  cases x <;> rfl

theorem withIndex_decXyd (x : XY) : Sys2Proof.Machine.decXyd x (s.withIndex im) = (Sys2Proof.Machine.decXyd x s).withIndex im := by
  cases x <;> rfl

theorem withIndex_aluXyd (x : XY) (op : AluOp) : Sys2Proof.Machine.aluXyd x op (s.withIndex im) = (Sys2Proof.Machine.aluXyd x op s).withIndex im := by
  cases x <;> rfl

theorem withIndex_ldHalfImm (x : XY) (h : Half) : Sys2Proof.Machine.ldHalfImm x h (s.withIndex im) = (Sys2Proof.Machine.ldHalfImm x h s).withIndex im := by
  cases x <;> cases h <;> rfl

theorem withIndex_ldRegHalf (x : XY) (r : PlainReg) (h : Half) : Sys2Proof.Machine.ldRegHalf x r h (s.withIndex im) = (Sys2Proof.Machine.ldRegHalf x r h s).withIndex im := by
  cases x <;> cases h <;> rfl

theorem withIndex_ldHalfReg (x : XY) (h : Half) (r : PlainReg) : Sys2Proof.Machine.ldHalfReg x h r (s.withIndex im) = (Sys2Proof.Machine.ldHalfReg x h r s).withIndex im := by
  cases x <;> cases h <;> rfl

theorem withIndex_ldHalfHalf (x : XY) (h : Half) (k : Half) : Sys2Proof.Machine.ldHalfHalf x h k (s.withIndex im) = (Sys2Proof.Machine.ldHalfHalf x h k s).withIndex im := by
  cases x <;> cases h <;> cases k <;> rfl

theorem withIndex_incHalf (x : XY) (h : Half) : Sys2Proof.Machine.incHalf x h (s.withIndex im) = (Sys2Proof.Machine.incHalf x h s).withIndex im := by
  cases x <;> cases h <;> rfl

theorem withIndex_decHalf (x : XY) (h : Half) : Sys2Proof.Machine.decHalf x h (s.withIndex im) = (Sys2Proof.Machine.decHalf x h s).withIndex im := by
  cases x <;> cases h <;> rfl

theorem withIndex_aluHalf (x : XY) (op : AluOp) (h : Half) : Sys2Proof.Machine.aluHalf x op h (s.withIndex im) = (Sys2Proof.Machine.aluHalf x op h s).withIndex im := by
  cases x <;> cases h <;> rfl

theorem withIndex_rotReg (k : RotOp) (r : Reg8) : Sys2Proof.Machine.rotReg k r (s.withIndex im) = (Sys2Proof.Machine.rotReg k r s).withIndex im := rfl

theorem withIndex_rotAtHl (k : RotOp) : Sys2Proof.Machine.rotAtHl k (s.withIndex im) = (Sys2Proof.Machine.rotAtHl k s).withIndex im := rfl

theorem withIndex_bitReg (b : BitNo) (r : Reg8) : Sys2Proof.Machine.bitReg b r (s.withIndex im) = (Sys2Proof.Machine.bitReg b r s).withIndex im := rfl

theorem withIndex_bitAtHl (b : BitNo) : Sys2Proof.Machine.bitAtHl b (s.withIndex im) = (Sys2Proof.Machine.bitAtHl b s).withIndex im := rfl

theorem withIndex_resReg (b : BitNo) (r : Reg8) : Sys2Proof.Machine.resReg b r (s.withIndex im) = (Sys2Proof.Machine.resReg b r s).withIndex im := rfl

theorem withIndex_resAtHl (b : BitNo) : Sys2Proof.Machine.resAtHl b (s.withIndex im) = (Sys2Proof.Machine.resAtHl b s).withIndex im := rfl

theorem withIndex_setBitReg (b : BitNo) (r : Reg8) : Sys2Proof.Machine.setBitReg b r (s.withIndex im) = (Sys2Proof.Machine.setBitReg b r s).withIndex im := rfl

theorem withIndex_setAtHl (b : BitNo) : Sys2Proof.Machine.setAtHl b (s.withIndex im) = (Sys2Proof.Machine.setAtHl b s).withIndex im := rfl

theorem withIndex_rotXyd (x : XY) (k : RotOp) : Sys2Proof.Machine.rotXyd x k (s.withIndex im) = (Sys2Proof.Machine.rotXyd x k s).withIndex im := by
  cases x <;> rfl

theorem withIndex_rotXydCopy (x : XY) (k : RotOp) (r : Reg8) : Sys2Proof.Machine.rotXydCopy x k r (s.withIndex im) = (Sys2Proof.Machine.rotXydCopy x k r s).withIndex im := by
  cases x <;> rfl

theorem withIndex_bitXyd (x : XY) (b : BitNo) : Sys2Proof.Machine.bitXyd x b (s.withIndex im) = (Sys2Proof.Machine.bitXyd x b s).withIndex im := by
  cases x <;> rfl

theorem withIndex_resXyd (x : XY) (b : BitNo) : Sys2Proof.Machine.resXyd x b (s.withIndex im) = (Sys2Proof.Machine.resXyd x b s).withIndex im := by
  cases x <;> rfl

theorem withIndex_resXydCopy (x : XY) (b : BitNo) (r : Reg8) : Sys2Proof.Machine.resXydCopy x b r (s.withIndex im) = (Sys2Proof.Machine.resXydCopy x b r s).withIndex im := by
  cases x <;> rfl

theorem withIndex_setXyd (x : XY) (b : BitNo) : Sys2Proof.Machine.setXyd x b (s.withIndex im) = (Sys2Proof.Machine.setXyd x b s).withIndex im := by
  cases x <;> rfl

theorem withIndex_setXydCopy (x : XY) (b : BitNo) (r : Reg8) : Sys2Proof.Machine.setXydCopy x b r (s.withIndex im) = (Sys2Proof.Machine.setXydCopy x b r s).withIndex im := by
  cases x <;> rfl

theorem withIndex_inReg (r : Reg8) : Sys2Proof.Machine.inReg r (s.withIndex im) = (Sys2Proof.Machine.inReg r s).withIndex im := rfl

theorem withIndex_inFlags : Sys2Proof.Machine.inFlags (s.withIndex im) = (Sys2Proof.Machine.inFlags s).withIndex im := rfl

theorem withIndex_outReg (r : Reg8) : Sys2Proof.Machine.outReg r (s.withIndex im) = (Sys2Proof.Machine.outReg r s).withIndex im := rfl

theorem withIndex_outZero : Sys2Proof.Machine.outZero (s.withIndex im) = (Sys2Proof.Machine.outZero s).withIndex im := rfl

theorem withIndex_sbcHl (p : Pair) : Sys2Proof.Machine.sbcHl p (s.withIndex im) = (Sys2Proof.Machine.sbcHl p s).withIndex im := by
  cases p <;> rfl

theorem withIndex_adcHl (p : Pair) : Sys2Proof.Machine.adcHl p (s.withIndex im) = (Sys2Proof.Machine.adcHl p s).withIndex im := by
  cases p <;> rfl

theorem withIndex_ldAtNnPair (p : Pair) : Sys2Proof.Machine.ldAtNnPair p (s.withIndex im) = (Sys2Proof.Machine.ldAtNnPair p s).withIndex im := by
  cases p <;> rfl

theorem withIndex_ldPairAtNn (p : Pair) : Sys2Proof.Machine.ldPairAtNn p (s.withIndex im) = (Sys2Proof.Machine.ldPairAtNn p s).withIndex im := by
  cases p <;> rfl

theorem withIndex_neg : Sys2Proof.Machine.neg (s.withIndex im) = (Sys2Proof.Machine.neg s).withIndex im := rfl

theorem withIndex_retn : Sys2Proof.Machine.retn (s.withIndex im) = (Sys2Proof.Machine.retn s).withIndex im := rfl

theorem withIndex_reti : Sys2Proof.Machine.reti (s.withIndex im) = (Sys2Proof.Machine.reti s).withIndex im := rfl

theorem withIndex_im (m : IntMode) : Sys2Proof.Machine.im m (s.withIndex im) = (Sys2Proof.Machine.im m s).withIndex im := rfl

theorem withIndex_ldIA : Sys2Proof.Machine.ldIA (s.withIndex im) = (Sys2Proof.Machine.ldIA s).withIndex im := rfl

theorem withIndex_ldRA : Sys2Proof.Machine.ldRA (s.withIndex im) = (Sys2Proof.Machine.ldRA s).withIndex im := rfl

theorem withIndex_ldAI : Sys2Proof.Machine.ldAI (s.withIndex im) = (Sys2Proof.Machine.ldAI s).withIndex im := rfl

theorem withIndex_ldAR : Sys2Proof.Machine.ldAR (s.withIndex im) = (Sys2Proof.Machine.ldAR s).withIndex im := rfl

theorem withIndex_rrd : Sys2Proof.Machine.rrd (s.withIndex im) = (Sys2Proof.Machine.rrd s).withIndex im := rfl

theorem withIndex_rld : Sys2Proof.Machine.rld (s.withIndex im) = (Sys2Proof.Machine.rld s).withIndex im := rfl

theorem withIndex_ldi : Sys2Proof.Machine.ldi (s.withIndex im) = (Sys2Proof.Machine.ldi s).withIndex im := rfl

theorem withIndex_ldd : Sys2Proof.Machine.ldd (s.withIndex im) = (Sys2Proof.Machine.ldd s).withIndex im := rfl

theorem withIndex_ldir : Sys2Proof.Machine.ldir (s.withIndex im) = (Sys2Proof.Machine.ldir s).withIndex im := by
  unfold ldir State.blockLoadRepeat
  rw [← withIndex_ite]
  rfl

theorem withIndex_lddr : Sys2Proof.Machine.lddr (s.withIndex im) = (Sys2Proof.Machine.lddr s).withIndex im := by
  unfold lddr State.blockLoadRepeat
  rw [← withIndex_ite]
  rfl

theorem withIndex_cpi : Sys2Proof.Machine.cpi (s.withIndex im) = (Sys2Proof.Machine.cpi s).withIndex im := rfl

theorem withIndex_cpd : Sys2Proof.Machine.cpd (s.withIndex im) = (Sys2Proof.Machine.cpd s).withIndex im := rfl

theorem withIndex_cpir : Sys2Proof.Machine.cpir (s.withIndex im) = (Sys2Proof.Machine.cpir s).withIndex im := by
  unfold cpir State.blockCompareRepeat
  rw [← withIndex_ite]
  rfl

theorem withIndex_cpdr : Sys2Proof.Machine.cpdr (s.withIndex im) = (Sys2Proof.Machine.cpdr s).withIndex im := by
  unfold cpdr State.blockCompareRepeat
  rw [← withIndex_ite]
  rfl

theorem withIndex_ini : Sys2Proof.Machine.ini (s.withIndex im) = (Sys2Proof.Machine.ini s).withIndex im := rfl

theorem withIndex_ind : Sys2Proof.Machine.ind (s.withIndex im) = (Sys2Proof.Machine.ind s).withIndex im := rfl

theorem withIndex_inir : Sys2Proof.Machine.inir (s.withIndex im) = (Sys2Proof.Machine.inir s).withIndex im := by
  unfold inir State.blockInRepeat
  rw [← withIndex_ite]
  rfl

theorem withIndex_indr : Sys2Proof.Machine.indr (s.withIndex im) = (Sys2Proof.Machine.indr s).withIndex im := by
  unfold indr State.blockInRepeat
  rw [← withIndex_ite]
  rfl

theorem withIndex_outi : Sys2Proof.Machine.outi (s.withIndex im) = (Sys2Proof.Machine.outi s).withIndex im := rfl

theorem withIndex_outd : Sys2Proof.Machine.outd (s.withIndex im) = (Sys2Proof.Machine.outd s).withIndex im := rfl

theorem withIndex_otir : Sys2Proof.Machine.otir (s.withIndex im) = (Sys2Proof.Machine.otir s).withIndex im := by
  unfold otir State.blockOutRepeat
  rw [← withIndex_ite]
  rfl

theorem withIndex_otdr : Sys2Proof.Machine.otdr (s.withIndex im) = (Sys2Proof.Machine.otdr s).withIndex im := by
  unfold otdr State.blockOutRepeat
  rw [← withIndex_ite]
  rfl

theorem withIndex_nopEd : Sys2Proof.Machine.nopEd (s.withIndex im) = (Sys2Proof.Machine.nopEd s).withIndex im := rfl

/-- No form but a prefix's reads or changes the index latch. -/
theorem formRun_withIndex (f : Form) (hf : prefixForm f = false) :
    formRun f (s.withIndex im) = (formRun f s).withIndex im := by
  cases f with
  | ldRegReg r q => exact withIndex_ldRegReg im s r q
  | ldRegImm r => exact withIndex_ldRegImm im s r
  | ldRegAtHl r => exact withIndex_ldRegAtHl im s r
  | ldAtHlReg r => exact withIndex_ldAtHlReg im s r
  | ldAtHlImm => exact withIndex_ldAtHlImm im s
  | ldAAtBc => exact withIndex_ldAAtBc im s
  | ldAAtDe => exact withIndex_ldAAtDe im s
  | ldAAtNn => exact withIndex_ldAAtNn im s
  | ldAtBcA => exact withIndex_ldAtBcA im s
  | ldAtDeA => exact withIndex_ldAtDeA im s
  | ldAtNnA => exact withIndex_ldAtNnA im s
  | ldPairImm p => exact withIndex_ldPairImm im s p
  | ldHlAtNn => exact withIndex_ldHlAtNn im s
  | ldAtNnHl => exact withIndex_ldAtNnHl im s
  | ldSpHl => exact withIndex_ldSpHl im s
  | push p => exact withIndex_push im s p
  | pop p => exact withIndex_pop im s p
  | exDeHl => exact withIndex_exDeHl im s
  | exAf => exact withIndex_exAf im s
  | exx => exact withIndex_exx im s
  | exSpHl => exact withIndex_exSpHl im s
  | aluReg op r => exact withIndex_aluReg im s op r
  | aluAtHl op => exact withIndex_aluAtHl im s op
  | aluImm op => exact withIndex_aluImm im s op
  | incReg r => exact withIndex_incReg im s r
  | incAtHl => exact withIndex_incAtHl im s
  | decReg r => exact withIndex_decReg im s r
  | decAtHl => exact withIndex_decAtHl im s
  | daa => exact withIndex_daa im s
  | cpl => exact withIndex_cpl im s
  | scf => exact withIndex_scf im s
  | ccf => exact withIndex_ccf im s
  | rlca => exact withIndex_rlca im s
  | rrca => exact withIndex_rrca im s
  | rla => exact withIndex_rla im s
  | rra => exact withIndex_rra im s
  | addHl p => exact withIndex_addHl im s p
  | incPair p => exact withIndex_incPair im s p
  | decPair p => exact withIndex_decPair im s p
  | jp => exact withIndex_jp im s
  | jpCc cc => exact withIndex_jpCc im s cc
  | jpHl => exact withIndex_jpHl im s
  | jr => exact withIndex_jr im s
  | jrCc cc => exact withIndex_jrCc im s cc
  | djnz => exact withIndex_djnz im s
  | call => exact withIndex_call im s
  | callCc cc => exact withIndex_callCc im s cc
  | ret => exact withIndex_ret im s
  | retCc cc => exact withIndex_retCc im s cc
  | rst y => exact withIndex_rst im s y
  | nop => exact withIndex_nop im s
  | halt => exact withIndex_halt im s
  | di => exact withIndex_di im s
  | ei => exact withIndex_ei im s
  | inA => exact withIndex_inA im s
  | outA => exact withIndex_outA im s
  | prefixCb => exact Bool.noConfusion hf
  | prefixDd => exact Bool.noConfusion hf
  | prefixEd => exact Bool.noConfusion hf
  | prefixFd => exact Bool.noConfusion hf
  | ldXyImm x => exact withIndex_ldXyImm im s x
  | ldAtNnXy x => exact withIndex_ldAtNnXy im s x
  | ldXyAtNn x => exact withIndex_ldXyAtNn im s x
  | ldSpXy x => exact withIndex_ldSpXy im s x
  | pushXy x => exact withIndex_pushXy im s x
  | popXy x => exact withIndex_popXy im s x
  | exSpXy x => exact withIndex_exSpXy im s x
  | jpXy x => exact withIndex_jpXy im s x
  | addXy x p => exact withIndex_addXy im s x p
  | incXy x => exact withIndex_incXy im s x
  | decXy x => exact withIndex_decXy im s x
  | ldRegXyd x r => exact withIndex_ldRegXyd im s x r
  | ldXydReg x r => exact withIndex_ldXydReg im s x r
  | ldXydImm x => exact withIndex_ldXydImm im s x
  | incXyd x => exact withIndex_incXyd im s x
  | decXyd x => exact withIndex_decXyd im s x
  | aluXyd x op => exact withIndex_aluXyd im s x op
  | ldHalfImm x h => exact withIndex_ldHalfImm im s x h
  | ldRegHalf x r h => exact withIndex_ldRegHalf im s x r h
  | ldHalfReg x h r => exact withIndex_ldHalfReg im s x h r
  | ldHalfHalf x h k => exact withIndex_ldHalfHalf im s x h k
  | incHalf x h => exact withIndex_incHalf im s x h
  | decHalf x h => exact withIndex_decHalf im s x h
  | aluHalf x op h => exact withIndex_aluHalf im s x op h
  | rotReg k r => exact withIndex_rotReg im s k r
  | rotAtHl k => exact withIndex_rotAtHl im s k
  | bitReg b r => exact withIndex_bitReg im s b r
  | bitAtHl b => exact withIndex_bitAtHl im s b
  | resReg b r => exact withIndex_resReg im s b r
  | resAtHl b => exact withIndex_resAtHl im s b
  | setReg b r => exact withIndex_setBitReg im s b r
  | setAtHl b => exact withIndex_setAtHl im s b
  | rotXyd x k => exact withIndex_rotXyd im s x k
  | rotXydCopy x k r => exact withIndex_rotXydCopy im s x k r
  | bitXyd x b z => exact withIndex_bitXyd im s x b
  | resXyd x b => exact withIndex_resXyd im s x b
  | resXydCopy x b r => exact withIndex_resXydCopy im s x b r
  | setXyd x b => exact withIndex_setXyd im s x b
  | setXydCopy x b r => exact withIndex_setXydCopy im s x b r
  | inReg r => exact withIndex_inReg im s r
  | inFlags => exact withIndex_inFlags im s
  | outReg r => exact withIndex_outReg im s r
  | outZero => exact withIndex_outZero im s
  | sbcHl p => exact withIndex_sbcHl im s p
  | adcHl p => exact withIndex_adcHl im s p
  | ldAtNnPair p => exact withIndex_ldAtNnPair im s p
  | ldPairAtNn p => exact withIndex_ldPairAtNn im s p
  | neg y => exact withIndex_neg im s
  | retn y => exact withIndex_retn im s
  | reti => exact withIndex_reti im s
  | im m y => exact withIndex_im im s m
  | ldIA => exact withIndex_ldIA im s
  | ldRA => exact withIndex_ldRA im s
  | ldAI => exact withIndex_ldAI im s
  | ldAR => exact withIndex_ldAR im s
  | rrd => exact withIndex_rrd im s
  | rld => exact withIndex_rld im s
  | ldi => exact withIndex_ldi im s
  | ldd => exact withIndex_ldd im s
  | ldir => exact withIndex_ldir im s
  | lddr => exact withIndex_lddr im s
  | cpi => exact withIndex_cpi im s
  | cpd => exact withIndex_cpd im s
  | cpir => exact withIndex_cpir im s
  | cpdr => exact withIndex_cpdr im s
  | ini => exact withIndex_ini im s
  | ind => exact withIndex_ind im s
  | inir => exact withIndex_inir im s
  | indr => exact withIndex_indr im s
  | outi => exact withIndex_outi im s
  | outd => exact withIndex_outd im s
  | otir => exact withIndex_otir im s
  | otdr => exact withIndex_otdr im s
  | nopEd op => exact withIndex_nopEd im s

end Sys2Proof.Machine
end

