-- ==== Sys2Proof/Laws/Stored.lean ====
section
/-! SUPPORT. From the memory field an operation leaves to what a reader of single bytes sees, and the
taken-branch delay with its calls. -/

namespace Sys2Proof.Machine

theorem ne_add_one (a : Word) : a ≠ a + 1#16 := by
  intro h
  have := congrArg BitVec.toNat h
  have ha := a.isLt
  simp [BitVec.toNat_add] at this
  omega

theorem sub_two_ne_sub_one (a : Word) : a - 2#16 ≠ a - 1#16 := by
  intro h
  have := congrArg BitVec.toNat h
  have ha := a.isLt
  simp [BitVec.toNat_sub] at this
  omega

/-- One write call, from the fields a result state has. -/
theorem stored_of_mem {s t : State} {a : Word} {v : Byte} (h : t.mem = s.cfg.bus.store s.mem a v ∧ t.cfg = s.cfg) :
    Stored s t a v :=
  fun x hx => State.byteAt_of_store h.1 h.2 x hx

/-- Two write calls to different addresses, `b` last. -/
theorem stored_two {s t : State} {a b : Word} {v w : Byte} (hab : a ≠ b)
    (h : t.mem = s.cfg.bus.store (s.cfg.bus.store s.mem a v) b w ∧ t.cfg = s.cfg) : StoredTwo s t a b v w := by
  intro x hx
  rw [State.byteAt_of_store (s := s.wr a v) (by simpa using h.1) (by simpa using h.2) x (by simpa using hx),
    s.byteAt_wr a x v hx]
  by_cases ha : x = a
  · simp [ha, hab]
  · simp [ha]

/-- The order of two writes to different addresses does not show. -/
theorem StoredTwo.swap {s t : State} {a b : Word} {v w : Byte} (hab : a ≠ b) (h : StoredTwo s t a b v w) :
    StoredTwo s t b a w v := by
  intro x hx
  rw [h x hx]
  by_cases ha : x = a
  · simp [ha, hab]
  · simp [ha]

theorem storedWord_of_mem {s t : State} {a v : Word}
    (h : t.mem = s.cfg.bus.store (s.cfg.bus.store s.mem a (lowByte v)) (a + 1#16) (highByte v) ∧ t.cfg = s.cfg) :
    StoredWord s t a v :=
  stored_two (ne_add_one a) h

theorem storedWord_of_mem_high_first {s t : State} {a v : Word}
    (h : t.mem = s.cfg.bus.store (s.cfg.bus.store s.mem (a + 1#16) (highByte v)) a (lowByte v) ∧ t.cfg = s.cfg) :
    StoredWord s t a v :=
  (stored_two (ne_add_one a).symm h).swap (ne_add_one a).symm

theorem pushed_of_mem {s t : State} {v : Word}
    (h : t.mem = s.cfg.bus.store (s.cfg.bus.store s.mem (s.sp - 1#16) (highByte v)) (s.sp - 2#16) (lowByte v) ∧
      t.cfg = s.cfg) : Pushed s t v :=
  stored_two (sub_two_ne_sub_one s.sp).symm h

/-- `TakenDelay(da)` in both modes, at the tacts R322 writes. -/
theorem State.takenDelay_spec {s : State} (hw : s.cfg.tact = TactConstants.written) (da : Word) :
    s.takenDelay da = { s with tacts := s.tacts + 5, log := delayCalls s 0 da s.tacts ++ s.log } := by
  unfold State.takenDelay delayCalls
  split
  · apply State.eq_of_fields <;> simp [hw, TactConstants.written]
  · apply State.eq_of_fields <;> simp [State.extraReads, Nat.add_assoc, hw, TactConstants.written]

end Sys2Proof.Machine
end

