-- ==== Sys2Proof/Laws/Step.lean ====
section
/-! SUPPORT. Everything a step can do, said once: the signal step's four actions, or one form's operation between the read of
its opcode and the end of the cycle. Invariants are proved from these, not by unfolding `step`. -/

namespace Sys2Proof.Machine

variable {s t : State}

/-! ## The signal step (R521) -/

/-- What the signal step can answer. -/
theorem signalStep_cases (h : s.signalStep = some t) :
    (s.takesInt = true ∧ t = s.interruptAck) ∨
    (s.takesInt = false ∧ s.sig.halted = true ∧ t = s.haltedCycle) ∨
    (s.takesInt = false ∧ s.sig.halted = false ∧ s.sig.reset = true ∧ t = s.resetOp) ∨
    (s.takesInt = false ∧ s.sig.halted = false ∧ s.sig.reset = false ∧ s.sig.nmi = true ∧ t = s.nmiEntry) := by
  unfold State.signalStep at h
  split at h
  · exact .inl ⟨‹_›, (Option.some.inj h).symm⟩
  · split at h
    · exact .inr (.inl ⟨by simp_all, ‹_›, (Option.some.inj h).symm⟩)
    · split at h
      · exact .inr (.inr (.inl ⟨by simp_all, by simp_all, ‹_›, (Option.some.inj h).symm⟩))
      · split at h
        · exact .inr (.inr (.inr ⟨by simp_all, by simp_all, by simp_all, ‹_›, (Option.some.inj h).symm⟩))
        · cases h

/-- When no signal consumes the cycle. -/
theorem signalStep_none : s.signalStep = none ↔
    s.takesInt = false ∧ s.sig.halted = false ∧ s.sig.reset = false ∧ s.sig.nmi = false := by
  unfold State.signalStep
  constructor
  · intro h
    split at h
    · cases h
    · split at h
      · cases h
      · split at h
        · cases h
        · split at h
          · cases h
          · simp_all
  · rintro ⟨h1, h2, h3, h4⟩
    simp [h1, h2, h3, h4]

/-! ## Taking an interrupt (R527, R530) -/

/-- `PC` stepped past a halt, and no longer halted. -/
theorem leaveHalt_eq (s : State) :
    s.leaveHalt = { s with pc := if s.sig.halted then s.pc + 1#16 else s.pc, sig.halted := false } := by
  unfold State.leaveHalt
  cases h : s.sig.halted
  · apply State.eq_of_fields <;> simp
    rw [← h]
  · rfl

/-- The acknowledge up to its jump: two writes (13 tacts at the constants R527 writes). -/
theorem interruptAck_of_not_im2 (h : s.im ≠ .im2) :
    s.interruptAck = { s.leaveHalt.push16 s.leaveHalt.pc with
      iff1 := false, iff2 := false, pc := s.cfg.vecInt, wz := s.cfg.vecInt
      tacts := s.tacts + s.cfg.tact.intPush + s.cfg.tact.access + s.cfg.tact.access + s.cfg.tact.intJump
      log := pushCalls s s.leaveHalt.pc (s.tacts + s.cfg.tact.intPush) ++ s.log } := by
  have e : s.interruptAck =
      let s2 := (({ s.leaveHalt with iff1 := false, iff2 := false }.tick s.cfg.tact.intPush).push16
        s.leaveHalt.pc).tick s.cfg.tact.intJump
      (s2.setWz s2.cfg.vecInt).setPc s2.cfg.vecInt := by
    unfold State.interruptAck
    cases hm : s.im
    · rfl
    · rfl
    · exact absurd hm h
  rw [e, leaveHalt_eq]
  apply State.eq_of_fields <;> simp

/-- The acknowledge of mode 2: the table word is read after the pushes (19 tacts at the constants written). -/
theorem interruptAck_of_im2 (h : s.im = .im2) :
    s.interruptAck =
      let u := { s.leaveHalt.push16 s.leaveHalt.pc with
        iff1 := false, iff2 := false
        tacts := s.tacts + s.cfg.tact.intPush + s.cfg.tact.access + s.cfg.tact.access + s.cfg.tact.intJump
        log := pushCalls s s.leaveHalt.pc (s.tacts + s.cfg.tact.intPush) ++ s.log }
      { u with
        pc := u.wordAt s.vectorAddress, wz := u.wordAt s.vectorAddress
        tacts := u.tacts + s.cfg.tact.access + s.cfg.tact.access
        log := readCalls u s.vectorAddress u.tacts ++ u.log } := by
  unfold State.interruptAck
  rw [h, leaveHalt_eq]
  apply State.eq_of_fields <;>
    simp [State.vectorAddress, State.wordAt, State.wordAfter, State.byteAt, State.byteAfter]

/-- Entering the non-maskable interrupt (11 tacts at the constants R530 writes). -/
theorem nmiEntry_eq (s : State) :
    s.nmiEntry = { s.leaveHalt.push16 s.leaveHalt.pc with
      iff2 := s.iff1, iff1 := false, pc := s.cfg.vecNmi, wz := s.cfg.vecNmi
      tacts := s.tacts + s.cfg.tact.nmiPush + s.cfg.tact.access + s.cfg.tact.access + s.cfg.tact.nmiJump
      sig := { s.sig with halted := false, nmi := false }
      log := pushCalls s s.leaveHalt.pc (s.tacts + s.cfg.tact.nmiPush) ++ s.log } := by
  unfold State.nmiEntry
  rw [leaveHalt_eq]
  apply State.eq_of_fields <;> simp

/-! ## The cycle (R160 to R169) -/

/-- The form the next cycle runs. -/
def State.nextForm (s : State) : Form := decodeForm s.prefixMode s.indexMode s.nextOpcode

theorem nextInstr_eq (s : State) : s.nextInstr = s.nextForm.instr := rfl

/-- The cycle of the dispatcher, where the opcode space exists. -/
theorem runCycle_eq (h : s.missingTable = none) :
    runCycle s = .next (((formRun s.nextForm s.enter).close s.atPrefix).settle s.log.length) := by
  unfold runCycle
  rw [h, nextInstr_eq, exec_instr]

/-- A cycle that answers a next state. -/
theorem runCycle_next (h : runCycle s = .next t) :
    s.missingTable = none ∧ t = ((formRun s.nextForm s.enter).close s.atPrefix).settle s.log.length := by
  cases hm : s.missingTable with
  | some space => unfold runCycle at h; rw [hm] at h; cases h
  | none => rw [runCycle_eq hm] at h; exact ⟨rfl, (Host.Outcome.next.inj h).symm⟩

theorem missingTable_of_reference (h : s.cfg.extTables = .z80Reference) : s.missingTable = none := by
  unfold State.missingTable; rw [h]

theorem missingTable_of_plain (h : s.prefixMode = .none) : s.missingTable = none := by
  unfold State.missingTable; rw [h]; cases s.cfg.extTables <;> rfl

/-- Every step that answers a next state: a signal's action, or one form's operation, and the end of the cycle. -/
theorem step_next (h : step s = .next t) :
    ∃ u, t = u.settle s.log.length ∧
      (s.signalStep = some u ∨
        (s.signalStep = none ∧ s.missingTable = none ∧ u = (formRun s.nextForm s.enter).close s.atPrefix)) := by
  unfold step at h
  cases hs : s.signalStep with
  | some u => rw [hs] at h; exact ⟨u, (Host.Outcome.next.inj h).symm, .inl rfl⟩
  | none => rw [hs] at h; exact ⟨_, (runCycle_next h).2, .inr ⟨rfl, (runCycle_next h).1, rfl⟩⟩

/-- A signal consumes the cycle. -/
theorem step_of_some {u : State} (h : s.signalStep = some u) : step s = .next (u.settle s.log.length) := by
  unfold step; rw [h]

theorem step_of_none (h : s.signalStep = none) : step s = runCycle s := by
  unfold step; rw [h]

/-- A run takes its first step and goes on from there. -/
theorem run_succ {s t : State} (n : Nat) (h : step s = .next t) : core.run (n + 1) s = core.run n t := by
  have h' : core.step s = .next t := h
  simp only [Host.Core.run, h']

/-! ## Reading the opcode -/

/-- A prefix cycle reads one opcode byte and keeps the hold-off (R160, R162). -/
theorem enter_prefix (h : s.atPrefix = true) : s.enter = s.fetchOpcode := by
  have hp : s.prefixMode = .none := by unfold State.atPrefix at h; simp_all
  unfold State.enter
  rw [h, show indexedBit s.prefixMode s.indexMode = false by rw [hp]; rfl]
  rfl

/-- A terminal opcode of every table but the indexed bit table (R160, R164). -/
theorem enter_terminal (h : s.atPrefix = false) (hb : indexedBit s.prefixMode s.indexMode = false) :
    s.enter = { s.fetchOpcode with blocked := false } := by
  unfold State.enter
  rw [h, hb]
  rfl

/-- The indexed bit cycle (R166). -/
theorem enter_indexedBit (hb : indexedBit s.prefixMode s.indexMode = true) : s.enter = s.openIndexedBit := by
  unfold State.enter
  rw [hb]
  rfl

/-- Entering a terminal opcode clears `blocked`. -/
theorem enter_blocked (h : s.atPrefix = false) : s.enter.blocked = false := by
  cases hb : indexedBit s.prefixMode s.indexMode
  · rw [enter_terminal h hb]
  · rw [enter_indexedBit hb]; rfl

/-- What reading the opcode leaves alone in every table, and the tacts it takes. -/
theorem enter_keeps (s : State) :
    s.enter.regs = s.regs ∧ s.enter.mem = s.mem ∧ s.enter.cfg = s.cfg ∧ s.enter.sig = s.sig ∧ s.enter.iff1 = s.iff1 ∧
    s.enter.iff2 = s.iff2 ∧ s.enter.im = s.im ∧ s.enter.inOp = s.inOp ∧ s.enter.prefixMode = s.prefixMode ∧
    s.enter.indexMode = s.indexMode ∧ s.enter.iReg = s.iReg ∧
    s.enter.tacts = s.tacts + (if indexedBit s.prefixMode s.indexMode then
      s.cfg.tact.access + s.cfg.tact.access + s.cfg.tact.indexedBit else s.cfg.tact.fetch) ∧
    (∃ c, s.enter.log = c ++ s.log) ∧ s.enter.rReg.getLsbD 7 = s.rReg.getLsbD 7 := by
  have hr : ∀ r : Byte, (refresh r).getLsbD 7 = r.getLsbD 7 := by decide
  cases hb : indexedBit s.prefixMode s.indexMode
  · cases ha : s.atPrefix
    · rw [enter_terminal ha hb]
      exact ⟨rfl, rfl, rfl, rfl, rfl, rfl, rfl, rfl, rfl, rfl, rfl, rfl, ⟨[_], rfl⟩, hr _⟩
    · rw [enter_prefix ha]
      exact ⟨rfl, rfl, rfl, rfl, rfl, rfl, rfl, rfl, rfl, rfl, rfl, rfl, ⟨[_], rfl⟩, hr _⟩
  · rw [enter_indexedBit hb]
    simp only [State.openIndexedBit, State.tick, State.imm8]
    exact ⟨trivial, trivial, trivial, trivial, trivial, trivial, trivial, trivial, trivial, trivial, trivial,
      by simp [Nat.add_assoc], ⟨[_, _], rfl⟩, trivial⟩

/-- Reading the opcode takes at least 4 tacts at the constants written. -/
theorem enter_tacts_le (hw : s.cfg.tact = TactConstants.written) : s.tacts + 4 ≤ s.enter.tacts := by
  obtain ⟨-, -, -, -, -, -, -, -, -, -, -, h, -⟩ := enter_keeps s
  rw [h, hw]
  cases indexedBit s.prefixMode s.indexMode <;> simp [TactConstants.written]

/-! ## Prefix bytes (R161) -/

/-- A byte's form is a prefix's exactly where the byte acts as one. -/
theorem prefixForm_decode : ∀ (pm : PrefixMode) (im : IndexMode) (op : Byte),
    prefixForm (decodeForm pm im op) = (pm == .none && isPrefixByte op) := by
  intro pm im
  cases pm <;> cases im <;> decide

/-- The prefix cycles are those whose form is a prefix's. -/
theorem prefixForm_nextForm (s : State) : prefixForm s.nextForm = s.atPrefix := by
  unfold State.nextForm
  rw [prefixForm_decode]
  unfold State.atPrefix State.nextOpcode
  cases hp : s.prefixMode <;> rfl

/-- The four prefix cycles. -/
theorem prefix_cases (h : s.atPrefix = true) : s.prefixMode = .none ∧
    ((s.byteAt s.pc = 0xCB#8 ∧ s.nextForm = .prefixCb) ∨ (s.byteAt s.pc = 0xDD#8 ∧ s.nextForm = .prefixDd) ∨
      (s.byteAt s.pc = 0xED#8 ∧ s.nextForm = .prefixEd) ∨ (s.byteAt s.pc = 0xFD#8 ∧ s.nextForm = .prefixFd)) := by
  unfold State.atPrefix isPrefixByte at h
  simp at h
  obtain ⟨hp, h⟩ := h
  refine ⟨hp, ?_⟩
  unfold State.nextForm State.nextOpcode
  rw [hp, show indexedBit .none s.indexMode = false from rfl]
  cases him : s.indexMode <;> rcases h with ((h | h) | h) | h <;> rw [h] <;> simp <;> rfl

end Sys2Proof.Machine
end

