-- ==== Sys2Proof/Laws/Values.lean ====
section
/-! SUPPORT. The laws of flag terms, of nibbles, and of what the port interface answers under updates it does not read. -/

namespace Sys2Proof.Machine

/-! ## Flags -/

@[simp] theorem flagIf_true (m : Byte) : flagIf true m = m := rfl

@[simp] theorem flagIf_false (m : Byte) : flagIf false m = 0#8 := rfl

theorem flagIf_decide (p : Prop) [Decidable p] (m : Byte) : flagIf (decide p) m = if p then m else 0#8 := by
  by_cases h : p <;> simp [h]

theorem flagIf_not (c : Bool) (m : Byte) : flagIf (!c) m = if c then 0#8 else m := by
  cases c <;> rfl

theorem flagIf_bne (a b : Word) (m : Byte) : flagIf (a != b) m = if a = b then 0#8 else m := by
  unfold flagIf; by_cases h : a = b <;> simp [h]

theorem flagIf_beq (a b : Byte) (m : Byte) : flagIf (a == b) m = if a = b then m else 0#8 := by
  unfold flagIf; by_cases h : a = b <;> simp [h]

/-- A bit is clear when the mask leaves nothing (R429). -/
theorem and_bitMask_beq_zero (b : BitNo) : ∀ v : Byte, (v &&& bitMask b == 0#8) = !v.getLsbD b.val := by
  cases b <;> decide

theorem flagIf_bit7 : ∀ v : Byte, flagIf (v.getLsbD 7) 0x01#8 = v >>> 7 := by decide

theorem flagIf_bit0_high : ∀ v : Byte, flagIf (v.getLsbD 0) 0x80#8 = v <<< 7 := by decide

theorem flagIf_bit0 : ∀ v : Byte, flagIf (v.getLsbD 0) 0x01#8 = v &&& 0x01#8 := by decide

/-! ## Nibbles (R467, R468) -/

theorem toNat_swap_low (a m : Byte) : ((a <<< 4) ||| (m >>> 4)).toNat = 16 * (a.toNat % 16) + m.toNat / 16 := by
  have h : (a <<< 4) ||| (m >>> 4) = (a <<< 4) + (m >>> 4) := by
    refine (BitVec.add_eq_or_of_and_eq_zero _ _ ?_).symm
    apply BitVec.eq_of_getLsbD_eq; intro i hi
    simp only [BitVec.getLsbD_and, BitVec.getLsbD_shiftLeft, BitVec.getLsbD_ushiftRight, BitVec.getLsbD_zero]
    by_cases h4 : i < 4
    · simp [h4]
    · simp [BitVec.getLsbD_of_ge m (4 + i) (by omega)]
  rw [h]
  bv_omega

theorem toNat_join (a m : Byte) :
    ((a &&& 0xF0#8) ||| (m &&& 0x0F#8)).toNat = 16 * (a.toNat / 16) + m.toNat % 16 := by
  have h : (a &&& 0xF0#8) = (a >>> 4) <<< 4 := by revert a; decide
  have h2 : (m &&& 0x0F#8) = ((m <<< 4) >>> 4) := by revert m; decide
  rw [h, h2, show (m <<< 4) >>> 4 = (m <<< 4) >>> 4 from rfl]
  have := toNat_swap_low (a >>> 4) (m <<< 4)
  rw [this]
  bv_omega

theorem toNat_join_high (a m : Byte) :
    ((a &&& 0xF0#8) ||| (m >>> 4)).toNat = 16 * (a.toNat / 16) + m.toNat / 16 := by
  have h : (a &&& 0xF0#8) = (a >>> 4) <<< 4 := by revert a; decide
  rw [h, toNat_swap_low]
  bv_omega

theorem toNat_swap_high (a m : Byte) :
    ((m <<< 4) ||| (a &&& 0x0F#8)).toNat = 16 * (m.toNat % 16) + a.toNat % 16 := by
  have h2 : (a &&& 0x0F#8) = ((a <<< 4) >>> 4) := by revert a; decide
  rw [h2, toNat_swap_low]
  bv_omega

/-- `C + dlt` of R478, where the block operation adds the low byte of the word −1. -/
theorem add_lowByte_down : ∀ c : Byte, c + lowByte down = c - 1#8 := by decide

theorem add_lowByte_up : ∀ c : Byte, c + lowByte up = c + 1#8 := by decide

/-! ## The port interface reads the inputs and its own delay only (R63 to R66) -/

variable (s : State)

@[simp] theorem State.portAnswer_tick (n : Nat) (a : Word) : (s.tick n).portAnswer a = s.portAnswer a := rfl
@[simp] theorem State.portAnswer_setWz (v a : Word) : (s.setWz v).portAnswer a = s.portAnswer a := rfl
@[simp] theorem State.portAnswer_imm8 (a : Word) : s.imm8.portAnswer a = s.portAnswer a := rfl
@[simp] theorem State.portDelay_tick (n : Nat) : (s.tick n).portDelay = s.portDelay := rfl
@[simp] theorem State.portDelay_setWz (v : Word) : (s.setWz v).portDelay = s.portDelay := rfl
@[simp] theorem State.portDelay_imm8 : s.imm8.portDelay = s.portDelay := rfl
@[simp] theorem State.portDelay_setB (v : Byte) : (s.setB v).portDelay = s.portDelay := rfl
@[simp] theorem State.portDelay_rd (x : Word) : (s.rd x).portDelay = s.portDelay := rfl
@[simp] theorem State.tick_tick (m n : Nat) : (s.tick m).tick n = s.tick (m + n) := by
  simp [State.tick, Nat.add_assoc]

end Sys2Proof.Machine
end

