-- ==== Sys2Proof/Tests/Slice0.lean ====
section
/-! SUPPORT. Tests: expected results come from the spec's encodings (30_encoding.md and the rules' own tables) and from the
vectors of 95_test_vectors.md; then one witness for each hypothesis of the obligations. -/

namespace Sys2Proof.Tests

open Sys2Proof Sys2Proof.Machine

set_option maxRecDepth 20000

/-- The launch state of 95_test_vectors.md: after reset, ports reading FF. -/
def start : State := { State.reset with portInputs := [0xFF#8, 0xFF#8] }

/-- The state after the step that runs the instruction of some bytes, put at `PC`; its prefix cycles have run. -/
def ran (s : State) (bytes : List Byte) : State :=
  match step ((s.pokeBytes s.pc bytes).prefixCycles (prefixCount bytes)) with
  | .next t => t
  | .fault _ => State.reset
  | .refused _ => State.reset

/-- The last `n` bus calls, oldest first, without their tacts. -/
def lastCalls (n : Nat) (s : State) : List (BusKind × Word × Byte) :=
  (s.log.take n).reverse.map fun c => (c.kind, c.address, c.value)

/-! ## WellFormed refuses an ill-formed term for each check -/

theorem test_wf_retn_field : (Instr.retn .b1).wf = false ∧ (Instr.retn .b0).wf = true := by decide
theorem test_wf_im_0_field : (Instr.im_0 .b2).wf = false ∧ (Instr.im_0 .b5).wf = true := by decide
theorem test_wf_im_1_field : (Instr.im_1 .b3).wf = false ∧ (Instr.im_1 .b6).wf = true := by decide
theorem test_wf_im_2_field : (Instr.im_2 .b0).wf = false ∧ (Instr.im_2 .b7).wf = true := by decide
theorem test_wf_nop_ed_value : (Instr.nop_ed 0x44#8).wf = false ∧ (Instr.nop_ed 0x00#8).wf = true := by decide
theorem test_wf_operand_count :
    Decoded.wf ⟨.ld_b_n, []⟩ = false ∧ Decoded.wf ⟨.nop, [0x00#8]⟩ = false ∧ Decoded.wf ⟨.ld_b_n, [0x5A#8]⟩ = true := by decide

/-! ## Decoding: words written out bit by bit from the encodings of the rules -/

theorem test_decode_loads :
    decodeTableWord 8 0b01000001 = some .ld_b_c ∧ decodeTableWord 8 0b00110110 = some .ld_at_hl_n ∧
    decodeTableWord 8 0b01111110 = some .ld_a_at_hl ∧ decodeTableWord 8 0b00001010 = some .ld_a_at_bc ∧
    decodeTableWord 8 0b00100001 = some .ld_hl_nn ∧ decodeTableWord 8 0b11111001 = some .ld_sp_hl ∧
    decodeTableWord 8 0b11010101 = some .push_de ∧ decodeTableWord 8 0b11110001 = some .pop_af ∧
    decodeTableWord 8 0b11101011 = some .ex_de_hl ∧ decodeTableWord 8 0b11100011 = some .ex_at_sp_hl := by decide

theorem test_decode_arithmetic :
    decodeTableWord 8 0b10000000 = some .add_a_b ∧ decodeTableWord 8 0b10011110 = some .sbc_a_at_hl ∧
    decodeTableWord 8 0b11101110 = some .xor_n ∧ decodeTableWord 8 0b00101100 = some .inc_l ∧
    decodeTableWord 8 0b00110101 = some .dec_at_hl ∧ decodeTableWord 8 0b00011001 = some .add_hl_de ∧
    decodeTableWord 8 0b00101111 = some .cpl ∧ decodeTableWord 8 0b00011111 = some .rra := by decide

theorem test_decode_control :
    decodeTableWord 8 0b11000011 = some .jp_nn ∧ decodeTableWord 8 0b11111010 = some .jp_m_nn ∧
    decodeTableWord 8 0b00110000 = some .jr_nc_e ∧ decodeTableWord 8 0b00010000 = some .djnz_e ∧
    decodeTableWord 8 0b11001101 = some .call_nn ∧ decodeTableWord 8 0b11011000 = some .ret_c ∧
    decodeTableWord 8 0b01110110 = some .halt ∧ decodeTableWord 8 0b11110011 = some .di ∧
    decodeTableWord 8 0b11011011 = some .in_a_at_n := by decide

/-- Prefix bytes first (R100 to R103). -/
theorem test_decode_prefixed :
    decodeTableWord 16 0xDD21 = some .ld_ix_nn ∧ decodeTableWord 16 0xFD70 = some .ld_at_iyd_b ∧
    decodeTableWord 16 0xDD84 = some .add_a_ixh ∧ decodeTableWord 16 0xCB07 = some .rlc_a ∧
    decodeTableWord 16 0xCB7E = some .bit_7_at_hl ∧ decodeTableWord 16 0xED42 = some .sbc_hl_bc ∧
    decodeTableWord 16 0xED7E = some (.im_2 .b7) ∧ decodeTableWord 16 0xEDB9 = some .cpdr ∧
    decodeTableWord 16 0xED77 = some (.nop_ed 0x77#8) := by decide

/-- The displacement stands before the opcode (R166). -/
theorem test_decode_indexed_bit :
    decode [0xFD#8, 0xCB#8, 0xFF#8, 0x7E#8] = .ok (⟨.bit_7_at_iyd .b6, [0xFF#8]⟩, []) ∧
    decode [0xDD#8, 0xCB#8, 0x02#8, 0xC1#8] = .ok (⟨.set_0_at_ixd_c, [0x02#8]⟩, []) := by decide

/-- The later index prefix wins, and ED drops an index prefix (R162). -/
theorem test_decode_stacked_prefixes :
    decode [0xDD#8, 0xFD#8, 0x21#8, 0x34#8, 0x12#8] = .ok (⟨.ld_iy_nn, [0x34#8, 0x12#8]⟩, []) ∧
    decode [0xDD#8, 0xED#8, 0x4A#8] = .ok (⟨.adc_hl_bc, []⟩, []) := by decide

/-- Inherited entries under an index prefix (R382): the standard entry, beside an override of the same row of registers. -/
theorem test_decode_inherited :
    decodeTableWord 16 0xDDEB = some .ex_de_hl ∧ decodeTableWord 16 0xFDD9 = some .exx ∧
    decodeTableWord 16 0xDD76 = some .halt ∧ decodeTableWord 16 0xFD41 = some .ld_b_c ∧
    decodeTableWord 16 0xDD44 = some .ld_b_ixh ∧ decodeTableWord 16 0xFD66 = some .ld_h_at_iyd ∧
    decodeTableWord 16 0xDDE1 = some .pop_ix ∧ decodeTableWord 16 0xDDC1 = some .pop_bc := by decide

/-- After CB the byte CB is no prefix (R163), and with x = 3 it is `SET 1,E` (R101, R432, the opcode table; log 18). -/
theorem test_decode_cb_cb : decode [0xCB#8, 0xCB#8] = .ok (⟨.set_1_e, []⟩, []) := by decide

/-- A list that ends early is refused by name; nothing else is (R104). -/
theorem test_decode_refuses :
    decode [] = .error .truncated ∧ decode [0x01#8, 0x34#8] = .error .truncated ∧
    decode [0xDD#8, 0xCB#8, 0x01#8] = .error .truncated := by decide

/-! ## The interface of the host on single words -/

theorem test_fetch_word_steps :
    (∃ t, step (State.reset.withFetchWord 8 0x3C) = .next t ∧ t.regs.a = 0x01#8) ∧
    (∃ t, step (State.reset.withFetchWord 16 0xED57) = .next t ∧ t.regs.f = 0x40#8) ∧
    (∃ t, step (State.reset.withFetchWord 16 0xED00) = .next t ∧ t.tacts = 8) :=
  ⟨⟨_, rfl, by decide⟩, ⟨_, rfl, by decide⟩, ⟨_, rfl, by decide⟩⟩

/-! ## Every row of opcode_table.json: the opcode byte of its `match`, and its constructor -/

/-- The standard table, from 0x00. -/
theorem test_rows_main_00 :
    ((List.range' 0x00 64).map fun n => decodeInstr .none .none (BitVec.ofNat 8 n)) =
     [.nop, .ld_bc_nn, .ld_at_bc_a, .inc_bc, .inc_b, .dec_b, .ld_b_n, .rlca, .ex_af_af, .add_hl_bc, .ld_a_at_bc,
      .dec_bc, .inc_c, .dec_c, .ld_c_n, .rrca, .djnz_e, .ld_de_nn, .ld_at_de_a, .inc_de, .inc_d, .dec_d, .ld_d_n,
      .rla, .jr_e, .add_hl_de, .ld_a_at_de, .dec_de, .inc_e, .dec_e, .ld_e_n, .rra, .jr_nz_e, .ld_hl_nn,
      .ld_at_nn_hl, .inc_hl, .inc_h, .dec_h, .ld_h_n, .daa, .jr_z_e, .add_hl_hl, .ld_hl_at_nn, .dec_hl, .inc_l,
      .dec_l, .ld_l_n, .cpl, .jr_nc_e, .ld_sp_nn, .ld_at_nn_a, .inc_sp, .inc_at_hl, .dec_at_hl, .ld_at_hl_n, .scf,
      .jr_c_e, .add_hl_sp, .ld_a_at_nn, .dec_sp, .inc_a, .dec_a, .ld_a_n, .ccf] := rfl

/-- The standard table, from 0x40. -/
theorem test_rows_main_40 :
    ((List.range' 0x40 64).map fun n => decodeInstr .none .none (BitVec.ofNat 8 n)) =
     [.ld_b_b, .ld_b_c, .ld_b_d, .ld_b_e, .ld_b_h, .ld_b_l, .ld_b_at_hl, .ld_b_a, .ld_c_b, .ld_c_c, .ld_c_d, .ld_c_e,
      .ld_c_h, .ld_c_l, .ld_c_at_hl, .ld_c_a, .ld_d_b, .ld_d_c, .ld_d_d, .ld_d_e, .ld_d_h, .ld_d_l, .ld_d_at_hl,
      .ld_d_a, .ld_e_b, .ld_e_c, .ld_e_d, .ld_e_e, .ld_e_h, .ld_e_l, .ld_e_at_hl, .ld_e_a, .ld_h_b, .ld_h_c, .ld_h_d,
      .ld_h_e, .ld_h_h, .ld_h_l, .ld_h_at_hl, .ld_h_a, .ld_l_b, .ld_l_c, .ld_l_d, .ld_l_e, .ld_l_h, .ld_l_l,
      .ld_l_at_hl, .ld_l_a, .ld_at_hl_b, .ld_at_hl_c, .ld_at_hl_d, .ld_at_hl_e, .ld_at_hl_h, .ld_at_hl_l, .halt,
      .ld_at_hl_a, .ld_a_b, .ld_a_c, .ld_a_d, .ld_a_e, .ld_a_h, .ld_a_l, .ld_a_at_hl, .ld_a_a] := rfl

/-- The standard table, from 0x80. -/
theorem test_rows_main_80 :
    ((List.range' 0x80 64).map fun n => decodeInstr .none .none (BitVec.ofNat 8 n)) =
     [.add_a_b, .add_a_c, .add_a_d, .add_a_e, .add_a_h, .add_a_l, .add_a_at_hl, .add_a_a, .adc_a_b, .adc_a_c,
      .adc_a_d, .adc_a_e, .adc_a_h, .adc_a_l, .adc_a_at_hl, .adc_a_a, .sub_b, .sub_c, .sub_d, .sub_e, .sub_h, .sub_l,
      .sub_at_hl, .sub_a, .sbc_a_b, .sbc_a_c, .sbc_a_d, .sbc_a_e, .sbc_a_h, .sbc_a_l, .sbc_a_at_hl, .sbc_a_a, .and_b,
      .and_c, .and_d, .and_e, .and_h, .and_l, .and_at_hl, .and_a, .xor_b, .xor_c, .xor_d, .xor_e, .xor_h, .xor_l,
      .xor_at_hl, .xor_a, .or_b, .or_c, .or_d, .or_e, .or_h, .or_l, .or_at_hl, .or_a, .cp_b, .cp_c, .cp_d, .cp_e,
      .cp_h, .cp_l, .cp_at_hl, .cp_a] := rfl

/-- The standard table, from 0xC0. -/
theorem test_rows_main_c0 :
    ((List.range' 0xC0 64).map fun n => decodeInstr .none .none (BitVec.ofNat 8 n)) =
     [.ret_nz, .pop_bc, .jp_nz_nn, .jp_nn, .call_nz_nn, .push_bc, .add_a_n, .rst_00h, .ret_z, .ret, .jp_z_nn,
      .prefix_cb, .call_z_nn, .call_nn, .adc_a_n, .rst_08h, .ret_nc, .pop_de, .jp_nc_nn, .out_at_n_a, .call_nc_nn,
      .push_de, .sub_n, .rst_10h, .ret_c, .exx, .jp_c_nn, .in_a_at_n, .call_c_nn, .prefix_dd, .sbc_a_n, .rst_18h,
      .ret_po, .pop_hl, .jp_po_nn, .ex_at_sp_hl, .call_po_nn, .push_hl, .and_n, .rst_20h, .ret_pe, .jp_at_hl,
      .jp_pe_nn, .ex_de_hl, .call_pe_nn, .prefix_ed, .xor_n, .rst_28h, .ret_p, .pop_af, .jp_p_nn, .di, .call_p_nn,
      .push_af, .or_n, .rst_30h, .ret_m, .ld_sp_hl, .jp_m_nn, .ei, .call_m_nn, .prefix_fd, .cp_n, .rst_38h] := rfl

/-- The override entries after `DD`, from 0x09. -/
theorem test_rows_ix_09 :
    ([0x09#8, 0x19#8, 0x21#8, 0x22#8, 0x23#8, 0x24#8, 0x25#8, 0x26#8, 0x29#8, 0x2A#8, 0x2B#8, 0x2C#8, 0x2D#8, 0x2E#8,
      0x34#8, 0x35#8, 0x36#8, 0x39#8, 0x44#8, 0x45#8, 0x46#8, 0x4C#8, 0x4D#8, 0x4E#8, 0x54#8, 0x55#8, 0x56#8, 0x5C#8,
      0x5D#8, 0x5E#8, 0x60#8, 0x61#8, 0x62#8, 0x63#8, 0x64#8, 0x65#8, 0x66#8, 0x67#8, 0x68#8, 0x69#8, 0x6A#8, 0x6B#8,
      0x6C#8, 0x6D#8, 0x6E#8, 0x6F#8, 0x70#8, 0x71#8, 0x72#8, 0x73#8, 0x74#8, 0x75#8, 0x77#8, 0x7C#8, 0x7D#8, 0x7E#8,
      0x84#8, 0x85#8, 0x86#8, 0x8C#8, 0x8D#8, 0x8E#8, 0x94#8, 0x95#8].map (decodeInstr .none .ix)) =
     [.add_ix_bc, .add_ix_de, .ld_ix_nn, .ld_at_nn_ix, .inc_ix, .inc_ixh, .dec_ixh, .ld_ixh_n, .add_ix_ix,
      .ld_ix_at_nn, .dec_ix, .inc_ixl, .dec_ixl, .ld_ixl_n, .inc_at_ixd, .dec_at_ixd, .ld_at_ixd_n, .add_ix_sp,
      .ld_b_ixh, .ld_b_ixl, .ld_b_at_ixd, .ld_c_ixh, .ld_c_ixl, .ld_c_at_ixd, .ld_d_ixh, .ld_d_ixl, .ld_d_at_ixd,
      .ld_e_ixh, .ld_e_ixl, .ld_e_at_ixd, .ld_ixh_b, .ld_ixh_c, .ld_ixh_d, .ld_ixh_e, .ld_ixh_ixh, .ld_ixh_ixl,
      .ld_h_at_ixd, .ld_ixh_a, .ld_ixl_b, .ld_ixl_c, .ld_ixl_d, .ld_ixl_e, .ld_ixl_ixh, .ld_ixl_ixl, .ld_l_at_ixd,
      .ld_ixl_a, .ld_at_ixd_b, .ld_at_ixd_c, .ld_at_ixd_d, .ld_at_ixd_e, .ld_at_ixd_h, .ld_at_ixd_l, .ld_at_ixd_a,
      .ld_a_ixh, .ld_a_ixl, .ld_a_at_ixd, .add_a_ixh, .add_a_ixl, .add_a_at_ixd, .adc_a_ixh, .adc_a_ixl,
      .adc_a_at_ixd, .sub_ixh, .sub_ixl] := rfl

/-- The override entries after `DD`, from 0x96. -/
theorem test_rows_ix_96 :
    ([0x96#8, 0x9C#8, 0x9D#8, 0x9E#8, 0xA4#8, 0xA5#8, 0xA6#8, 0xAC#8, 0xAD#8, 0xAE#8, 0xB4#8, 0xB5#8, 0xB6#8, 0xBC#8,
      0xBD#8, 0xBE#8, 0xE1#8, 0xE3#8, 0xE5#8, 0xE9#8, 0xF9#8].map (decodeInstr .none .ix)) =
     [.sub_at_ixd, .sbc_a_ixh, .sbc_a_ixl, .sbc_a_at_ixd, .and_ixh, .and_ixl, .and_at_ixd, .xor_ixh, .xor_ixl,
      .xor_at_ixd, .or_ixh, .or_ixl, .or_at_ixd, .cp_ixh, .cp_ixl, .cp_at_ixd, .pop_ix, .ex_at_sp_ix, .push_ix,
      .jp_at_ix, .ld_sp_ix] := rfl

/-- The override entries after `FD`, from 0x09. -/
theorem test_rows_iy_09 :
    ([0x09#8, 0x19#8, 0x21#8, 0x22#8, 0x23#8, 0x24#8, 0x25#8, 0x26#8, 0x29#8, 0x2A#8, 0x2B#8, 0x2C#8, 0x2D#8, 0x2E#8,
      0x34#8, 0x35#8, 0x36#8, 0x39#8, 0x44#8, 0x45#8, 0x46#8, 0x4C#8, 0x4D#8, 0x4E#8, 0x54#8, 0x55#8, 0x56#8, 0x5C#8,
      0x5D#8, 0x5E#8, 0x60#8, 0x61#8, 0x62#8, 0x63#8, 0x64#8, 0x65#8, 0x66#8, 0x67#8, 0x68#8, 0x69#8, 0x6A#8, 0x6B#8,
      0x6C#8, 0x6D#8, 0x6E#8, 0x6F#8, 0x70#8, 0x71#8, 0x72#8, 0x73#8, 0x74#8, 0x75#8, 0x77#8, 0x7C#8, 0x7D#8, 0x7E#8,
      0x84#8, 0x85#8, 0x86#8, 0x8C#8, 0x8D#8, 0x8E#8, 0x94#8, 0x95#8].map (decodeInstr .none .iy)) =
     [.add_iy_bc, .add_iy_de, .ld_iy_nn, .ld_at_nn_iy, .inc_iy, .inc_iyh, .dec_iyh, .ld_iyh_n, .add_iy_iy,
      .ld_iy_at_nn, .dec_iy, .inc_iyl, .dec_iyl, .ld_iyl_n, .inc_at_iyd, .dec_at_iyd, .ld_at_iyd_n, .add_iy_sp,
      .ld_b_iyh, .ld_b_iyl, .ld_b_at_iyd, .ld_c_iyh, .ld_c_iyl, .ld_c_at_iyd, .ld_d_iyh, .ld_d_iyl, .ld_d_at_iyd,
      .ld_e_iyh, .ld_e_iyl, .ld_e_at_iyd, .ld_iyh_b, .ld_iyh_c, .ld_iyh_d, .ld_iyh_e, .ld_iyh_iyh, .ld_iyh_iyl,
      .ld_h_at_iyd, .ld_iyh_a, .ld_iyl_b, .ld_iyl_c, .ld_iyl_d, .ld_iyl_e, .ld_iyl_iyh, .ld_iyl_iyl, .ld_l_at_iyd,
      .ld_iyl_a, .ld_at_iyd_b, .ld_at_iyd_c, .ld_at_iyd_d, .ld_at_iyd_e, .ld_at_iyd_h, .ld_at_iyd_l, .ld_at_iyd_a,
      .ld_a_iyh, .ld_a_iyl, .ld_a_at_iyd, .add_a_iyh, .add_a_iyl, .add_a_at_iyd, .adc_a_iyh, .adc_a_iyl,
      .adc_a_at_iyd, .sub_iyh, .sub_iyl] := rfl

/-- The override entries after `FD`, from 0x96. -/
theorem test_rows_iy_96 :
    ([0x96#8, 0x9C#8, 0x9D#8, 0x9E#8, 0xA4#8, 0xA5#8, 0xA6#8, 0xAC#8, 0xAD#8, 0xAE#8, 0xB4#8, 0xB5#8, 0xB6#8, 0xBC#8,
      0xBD#8, 0xBE#8, 0xE1#8, 0xE3#8, 0xE5#8, 0xE9#8, 0xF9#8].map (decodeInstr .none .iy)) =
     [.sub_at_iyd, .sbc_a_iyh, .sbc_a_iyl, .sbc_a_at_iyd, .and_iyh, .and_iyl, .and_at_iyd, .xor_iyh, .xor_iyl,
      .xor_at_iyd, .or_iyh, .or_iyl, .or_at_iyd, .cp_iyh, .cp_iyl, .cp_at_iyd, .pop_iy, .ex_at_sp_iy, .push_iy,
      .jp_at_iy, .ld_sp_iy] := rfl

/-- The table after `CB`, from 0x00. -/
theorem test_rows_bit_00 :
    ((List.range' 0x00 64).map fun n => decodeInstr .bit .none (BitVec.ofNat 8 n)) =
     [.rlc_b, .rlc_c, .rlc_d, .rlc_e, .rlc_h, .rlc_l, .rlc_at_hl, .rlc_a, .rrc_b, .rrc_c, .rrc_d, .rrc_e, .rrc_h,
      .rrc_l, .rrc_at_hl, .rrc_a, .rl_b, .rl_c, .rl_d, .rl_e, .rl_h, .rl_l, .rl_at_hl, .rl_a, .rr_b, .rr_c, .rr_d,
      .rr_e, .rr_h, .rr_l, .rr_at_hl, .rr_a, .sla_b, .sla_c, .sla_d, .sla_e, .sla_h, .sla_l, .sla_at_hl, .sla_a,
      .sra_b, .sra_c, .sra_d, .sra_e, .sra_h, .sra_l, .sra_at_hl, .sra_a, .sll_b, .sll_c, .sll_d, .sll_e, .sll_h,
      .sll_l, .sll_at_hl, .sll_a, .srl_b, .srl_c, .srl_d, .srl_e, .srl_h, .srl_l, .srl_at_hl, .srl_a] := rfl

/-- The table after `CB`, from 0x40. -/
theorem test_rows_bit_40 :
    ((List.range' 0x40 64).map fun n => decodeInstr .bit .none (BitVec.ofNat 8 n)) =
     [.bit_0_b, .bit_0_c, .bit_0_d, .bit_0_e, .bit_0_h, .bit_0_l, .bit_0_at_hl, .bit_0_a, .bit_1_b, .bit_1_c,
      .bit_1_d, .bit_1_e, .bit_1_h, .bit_1_l, .bit_1_at_hl, .bit_1_a, .bit_2_b, .bit_2_c, .bit_2_d, .bit_2_e,
      .bit_2_h, .bit_2_l, .bit_2_at_hl, .bit_2_a, .bit_3_b, .bit_3_c, .bit_3_d, .bit_3_e, .bit_3_h, .bit_3_l,
      .bit_3_at_hl, .bit_3_a, .bit_4_b, .bit_4_c, .bit_4_d, .bit_4_e, .bit_4_h, .bit_4_l, .bit_4_at_hl, .bit_4_a,
      .bit_5_b, .bit_5_c, .bit_5_d, .bit_5_e, .bit_5_h, .bit_5_l, .bit_5_at_hl, .bit_5_a, .bit_6_b, .bit_6_c,
      .bit_6_d, .bit_6_e, .bit_6_h, .bit_6_l, .bit_6_at_hl, .bit_6_a, .bit_7_b, .bit_7_c, .bit_7_d, .bit_7_e,
      .bit_7_h, .bit_7_l, .bit_7_at_hl, .bit_7_a] := rfl

/-- The table after `CB`, from 0x80. -/
theorem test_rows_bit_80 :
    ((List.range' 0x80 64).map fun n => decodeInstr .bit .none (BitVec.ofNat 8 n)) =
     [.res_0_b, .res_0_c, .res_0_d, .res_0_e, .res_0_h, .res_0_l, .res_0_at_hl, .res_0_a, .res_1_b, .res_1_c,
      .res_1_d, .res_1_e, .res_1_h, .res_1_l, .res_1_at_hl, .res_1_a, .res_2_b, .res_2_c, .res_2_d, .res_2_e,
      .res_2_h, .res_2_l, .res_2_at_hl, .res_2_a, .res_3_b, .res_3_c, .res_3_d, .res_3_e, .res_3_h, .res_3_l,
      .res_3_at_hl, .res_3_a, .res_4_b, .res_4_c, .res_4_d, .res_4_e, .res_4_h, .res_4_l, .res_4_at_hl, .res_4_a,
      .res_5_b, .res_5_c, .res_5_d, .res_5_e, .res_5_h, .res_5_l, .res_5_at_hl, .res_5_a, .res_6_b, .res_6_c,
      .res_6_d, .res_6_e, .res_6_h, .res_6_l, .res_6_at_hl, .res_6_a, .res_7_b, .res_7_c, .res_7_d, .res_7_e,
      .res_7_h, .res_7_l, .res_7_at_hl, .res_7_a] := rfl

/-- The table after `CB`, from 0xC0. -/
theorem test_rows_bit_c0 :
    ((List.range' 0xC0 64).map fun n => decodeInstr .bit .none (BitVec.ofNat 8 n)) =
     [.set_0_b, .set_0_c, .set_0_d, .set_0_e, .set_0_h, .set_0_l, .set_0_at_hl, .set_0_a, .set_1_b, .set_1_c,
      .set_1_d, .set_1_e, .set_1_h, .set_1_l, .set_1_at_hl, .set_1_a, .set_2_b, .set_2_c, .set_2_d, .set_2_e,
      .set_2_h, .set_2_l, .set_2_at_hl, .set_2_a, .set_3_b, .set_3_c, .set_3_d, .set_3_e, .set_3_h, .set_3_l,
      .set_3_at_hl, .set_3_a, .set_4_b, .set_4_c, .set_4_d, .set_4_e, .set_4_h, .set_4_l, .set_4_at_hl, .set_4_a,
      .set_5_b, .set_5_c, .set_5_d, .set_5_e, .set_5_h, .set_5_l, .set_5_at_hl, .set_5_a, .set_6_b, .set_6_c,
      .set_6_d, .set_6_e, .set_6_h, .set_6_l, .set_6_at_hl, .set_6_a, .set_7_b, .set_7_c, .set_7_d, .set_7_e,
      .set_7_h, .set_7_l, .set_7_at_hl, .set_7_a] := rfl

/-- The table after `DD CB d`, from 0x00. -/
theorem test_rows_ix_bit_00 :
    ((List.range' 0x00 64).map fun n => decodeInstr .bit .ix (BitVec.ofNat 8 n)) =
     [.rlc_at_ixd_b, .rlc_at_ixd_c, .rlc_at_ixd_d, .rlc_at_ixd_e, .rlc_at_ixd_h, .rlc_at_ixd_l, .rlc_at_ixd,
      .rlc_at_ixd_a, .rrc_at_ixd_b, .rrc_at_ixd_c, .rrc_at_ixd_d, .rrc_at_ixd_e, .rrc_at_ixd_h, .rrc_at_ixd_l,
      .rrc_at_ixd, .rrc_at_ixd_a, .rl_at_ixd_b, .rl_at_ixd_c, .rl_at_ixd_d, .rl_at_ixd_e, .rl_at_ixd_h, .rl_at_ixd_l,
      .rl_at_ixd, .rl_at_ixd_a, .rr_at_ixd_b, .rr_at_ixd_c, .rr_at_ixd_d, .rr_at_ixd_e, .rr_at_ixd_h, .rr_at_ixd_l,
      .rr_at_ixd, .rr_at_ixd_a, .sla_at_ixd_b, .sla_at_ixd_c, .sla_at_ixd_d, .sla_at_ixd_e, .sla_at_ixd_h,
      .sla_at_ixd_l, .sla_at_ixd, .sla_at_ixd_a, .sra_at_ixd_b, .sra_at_ixd_c, .sra_at_ixd_d, .sra_at_ixd_e,
      .sra_at_ixd_h, .sra_at_ixd_l, .sra_at_ixd, .sra_at_ixd_a, .sll_at_ixd_b, .sll_at_ixd_c, .sll_at_ixd_d,
      .sll_at_ixd_e, .sll_at_ixd_h, .sll_at_ixd_l, .sll_at_ixd, .sll_at_ixd_a, .srl_at_ixd_b, .srl_at_ixd_c,
      .srl_at_ixd_d, .srl_at_ixd_e, .srl_at_ixd_h, .srl_at_ixd_l, .srl_at_ixd, .srl_at_ixd_a] := rfl

/-- The table after `DD CB d`, from 0x40. -/
theorem test_rows_ix_bit_40 :
    ((List.range' 0x40 64).map fun n => decodeInstr .bit .ix (BitVec.ofNat 8 n)) =
     [(.bit_0_at_ixd .b0), (.bit_0_at_ixd .b1), (.bit_0_at_ixd .b2), (.bit_0_at_ixd .b3), (.bit_0_at_ixd .b4),
      (.bit_0_at_ixd .b5), (.bit_0_at_ixd .b6), (.bit_0_at_ixd .b7), (.bit_1_at_ixd .b0), (.bit_1_at_ixd .b1),
      (.bit_1_at_ixd .b2), (.bit_1_at_ixd .b3), (.bit_1_at_ixd .b4), (.bit_1_at_ixd .b5), (.bit_1_at_ixd .b6),
      (.bit_1_at_ixd .b7), (.bit_2_at_ixd .b0), (.bit_2_at_ixd .b1), (.bit_2_at_ixd .b2), (.bit_2_at_ixd .b3),
      (.bit_2_at_ixd .b4), (.bit_2_at_ixd .b5), (.bit_2_at_ixd .b6), (.bit_2_at_ixd .b7), (.bit_3_at_ixd .b0),
      (.bit_3_at_ixd .b1), (.bit_3_at_ixd .b2), (.bit_3_at_ixd .b3), (.bit_3_at_ixd .b4), (.bit_3_at_ixd .b5),
      (.bit_3_at_ixd .b6), (.bit_3_at_ixd .b7), (.bit_4_at_ixd .b0), (.bit_4_at_ixd .b1), (.bit_4_at_ixd .b2),
      (.bit_4_at_ixd .b3), (.bit_4_at_ixd .b4), (.bit_4_at_ixd .b5), (.bit_4_at_ixd .b6), (.bit_4_at_ixd .b7),
      (.bit_5_at_ixd .b0), (.bit_5_at_ixd .b1), (.bit_5_at_ixd .b2), (.bit_5_at_ixd .b3), (.bit_5_at_ixd .b4),
      (.bit_5_at_ixd .b5), (.bit_5_at_ixd .b6), (.bit_5_at_ixd .b7), (.bit_6_at_ixd .b0), (.bit_6_at_ixd .b1),
      (.bit_6_at_ixd .b2), (.bit_6_at_ixd .b3), (.bit_6_at_ixd .b4), (.bit_6_at_ixd .b5), (.bit_6_at_ixd .b6),
      (.bit_6_at_ixd .b7), (.bit_7_at_ixd .b0), (.bit_7_at_ixd .b1), (.bit_7_at_ixd .b2), (.bit_7_at_ixd .b3),
      (.bit_7_at_ixd .b4), (.bit_7_at_ixd .b5), (.bit_7_at_ixd .b6), (.bit_7_at_ixd .b7)] := rfl

/-- The table after `DD CB d`, from 0x80. -/
theorem test_rows_ix_bit_80 :
    ((List.range' 0x80 64).map fun n => decodeInstr .bit .ix (BitVec.ofNat 8 n)) =
     [.res_0_at_ixd_b, .res_0_at_ixd_c, .res_0_at_ixd_d, .res_0_at_ixd_e, .res_0_at_ixd_h, .res_0_at_ixd_l,
      .res_0_at_ixd, .res_0_at_ixd_a, .res_1_at_ixd_b, .res_1_at_ixd_c, .res_1_at_ixd_d, .res_1_at_ixd_e,
      .res_1_at_ixd_h, .res_1_at_ixd_l, .res_1_at_ixd, .res_1_at_ixd_a, .res_2_at_ixd_b, .res_2_at_ixd_c,
      .res_2_at_ixd_d, .res_2_at_ixd_e, .res_2_at_ixd_h, .res_2_at_ixd_l, .res_2_at_ixd, .res_2_at_ixd_a,
      .res_3_at_ixd_b, .res_3_at_ixd_c, .res_3_at_ixd_d, .res_3_at_ixd_e, .res_3_at_ixd_h, .res_3_at_ixd_l,
      .res_3_at_ixd, .res_3_at_ixd_a, .res_4_at_ixd_b, .res_4_at_ixd_c, .res_4_at_ixd_d, .res_4_at_ixd_e,
      .res_4_at_ixd_h, .res_4_at_ixd_l, .res_4_at_ixd, .res_4_at_ixd_a, .res_5_at_ixd_b, .res_5_at_ixd_c,
      .res_5_at_ixd_d, .res_5_at_ixd_e, .res_5_at_ixd_h, .res_5_at_ixd_l, .res_5_at_ixd, .res_5_at_ixd_a,
      .res_6_at_ixd_b, .res_6_at_ixd_c, .res_6_at_ixd_d, .res_6_at_ixd_e, .res_6_at_ixd_h, .res_6_at_ixd_l,
      .res_6_at_ixd, .res_6_at_ixd_a, .res_7_at_ixd_b, .res_7_at_ixd_c, .res_7_at_ixd_d, .res_7_at_ixd_e,
      .res_7_at_ixd_h, .res_7_at_ixd_l, .res_7_at_ixd, .res_7_at_ixd_a] := rfl

/-- The table after `DD CB d`, from 0xC0. -/
theorem test_rows_ix_bit_c0 :
    ((List.range' 0xC0 64).map fun n => decodeInstr .bit .ix (BitVec.ofNat 8 n)) =
     [.set_0_at_ixd_b, .set_0_at_ixd_c, .set_0_at_ixd_d, .set_0_at_ixd_e, .set_0_at_ixd_h, .set_0_at_ixd_l,
      .set_0_at_ixd, .set_0_at_ixd_a, .set_1_at_ixd_b, .set_1_at_ixd_c, .set_1_at_ixd_d, .set_1_at_ixd_e,
      .set_1_at_ixd_h, .set_1_at_ixd_l, .set_1_at_ixd, .set_1_at_ixd_a, .set_2_at_ixd_b, .set_2_at_ixd_c,
      .set_2_at_ixd_d, .set_2_at_ixd_e, .set_2_at_ixd_h, .set_2_at_ixd_l, .set_2_at_ixd, .set_2_at_ixd_a,
      .set_3_at_ixd_b, .set_3_at_ixd_c, .set_3_at_ixd_d, .set_3_at_ixd_e, .set_3_at_ixd_h, .set_3_at_ixd_l,
      .set_3_at_ixd, .set_3_at_ixd_a, .set_4_at_ixd_b, .set_4_at_ixd_c, .set_4_at_ixd_d, .set_4_at_ixd_e,
      .set_4_at_ixd_h, .set_4_at_ixd_l, .set_4_at_ixd, .set_4_at_ixd_a, .set_5_at_ixd_b, .set_5_at_ixd_c,
      .set_5_at_ixd_d, .set_5_at_ixd_e, .set_5_at_ixd_h, .set_5_at_ixd_l, .set_5_at_ixd, .set_5_at_ixd_a,
      .set_6_at_ixd_b, .set_6_at_ixd_c, .set_6_at_ixd_d, .set_6_at_ixd_e, .set_6_at_ixd_h, .set_6_at_ixd_l,
      .set_6_at_ixd, .set_6_at_ixd_a, .set_7_at_ixd_b, .set_7_at_ixd_c, .set_7_at_ixd_d, .set_7_at_ixd_e,
      .set_7_at_ixd_h, .set_7_at_ixd_l, .set_7_at_ixd, .set_7_at_ixd_a] := rfl

/-- The table after `FD CB d`, from 0x00. -/
theorem test_rows_iy_bit_00 :
    ((List.range' 0x00 64).map fun n => decodeInstr .bit .iy (BitVec.ofNat 8 n)) =
     [.rlc_at_iyd_b, .rlc_at_iyd_c, .rlc_at_iyd_d, .rlc_at_iyd_e, .rlc_at_iyd_h, .rlc_at_iyd_l, .rlc_at_iyd,
      .rlc_at_iyd_a, .rrc_at_iyd_b, .rrc_at_iyd_c, .rrc_at_iyd_d, .rrc_at_iyd_e, .rrc_at_iyd_h, .rrc_at_iyd_l,
      .rrc_at_iyd, .rrc_at_iyd_a, .rl_at_iyd_b, .rl_at_iyd_c, .rl_at_iyd_d, .rl_at_iyd_e, .rl_at_iyd_h, .rl_at_iyd_l,
      .rl_at_iyd, .rl_at_iyd_a, .rr_at_iyd_b, .rr_at_iyd_c, .rr_at_iyd_d, .rr_at_iyd_e, .rr_at_iyd_h, .rr_at_iyd_l,
      .rr_at_iyd, .rr_at_iyd_a, .sla_at_iyd_b, .sla_at_iyd_c, .sla_at_iyd_d, .sla_at_iyd_e, .sla_at_iyd_h,
      .sla_at_iyd_l, .sla_at_iyd, .sla_at_iyd_a, .sra_at_iyd_b, .sra_at_iyd_c, .sra_at_iyd_d, .sra_at_iyd_e,
      .sra_at_iyd_h, .sra_at_iyd_l, .sra_at_iyd, .sra_at_iyd_a, .sll_at_iyd_b, .sll_at_iyd_c, .sll_at_iyd_d,
      .sll_at_iyd_e, .sll_at_iyd_h, .sll_at_iyd_l, .sll_at_iyd, .sll_at_iyd_a, .srl_at_iyd_b, .srl_at_iyd_c,
      .srl_at_iyd_d, .srl_at_iyd_e, .srl_at_iyd_h, .srl_at_iyd_l, .srl_at_iyd, .srl_at_iyd_a] := rfl

/-- The table after `FD CB d`, from 0x40. -/
theorem test_rows_iy_bit_40 :
    ((List.range' 0x40 64).map fun n => decodeInstr .bit .iy (BitVec.ofNat 8 n)) =
     [(.bit_0_at_iyd .b0), (.bit_0_at_iyd .b1), (.bit_0_at_iyd .b2), (.bit_0_at_iyd .b3), (.bit_0_at_iyd .b4),
      (.bit_0_at_iyd .b5), (.bit_0_at_iyd .b6), (.bit_0_at_iyd .b7), (.bit_1_at_iyd .b0), (.bit_1_at_iyd .b1),
      (.bit_1_at_iyd .b2), (.bit_1_at_iyd .b3), (.bit_1_at_iyd .b4), (.bit_1_at_iyd .b5), (.bit_1_at_iyd .b6),
      (.bit_1_at_iyd .b7), (.bit_2_at_iyd .b0), (.bit_2_at_iyd .b1), (.bit_2_at_iyd .b2), (.bit_2_at_iyd .b3),
      (.bit_2_at_iyd .b4), (.bit_2_at_iyd .b5), (.bit_2_at_iyd .b6), (.bit_2_at_iyd .b7), (.bit_3_at_iyd .b0),
      (.bit_3_at_iyd .b1), (.bit_3_at_iyd .b2), (.bit_3_at_iyd .b3), (.bit_3_at_iyd .b4), (.bit_3_at_iyd .b5),
      (.bit_3_at_iyd .b6), (.bit_3_at_iyd .b7), (.bit_4_at_iyd .b0), (.bit_4_at_iyd .b1), (.bit_4_at_iyd .b2),
      (.bit_4_at_iyd .b3), (.bit_4_at_iyd .b4), (.bit_4_at_iyd .b5), (.bit_4_at_iyd .b6), (.bit_4_at_iyd .b7),
      (.bit_5_at_iyd .b0), (.bit_5_at_iyd .b1), (.bit_5_at_iyd .b2), (.bit_5_at_iyd .b3), (.bit_5_at_iyd .b4),
      (.bit_5_at_iyd .b5), (.bit_5_at_iyd .b6), (.bit_5_at_iyd .b7), (.bit_6_at_iyd .b0), (.bit_6_at_iyd .b1),
      (.bit_6_at_iyd .b2), (.bit_6_at_iyd .b3), (.bit_6_at_iyd .b4), (.bit_6_at_iyd .b5), (.bit_6_at_iyd .b6),
      (.bit_6_at_iyd .b7), (.bit_7_at_iyd .b0), (.bit_7_at_iyd .b1), (.bit_7_at_iyd .b2), (.bit_7_at_iyd .b3),
      (.bit_7_at_iyd .b4), (.bit_7_at_iyd .b5), (.bit_7_at_iyd .b6), (.bit_7_at_iyd .b7)] := rfl

/-- The table after `FD CB d`, from 0x80. -/
theorem test_rows_iy_bit_80 :
    ((List.range' 0x80 64).map fun n => decodeInstr .bit .iy (BitVec.ofNat 8 n)) =
     [.res_0_at_iyd_b, .res_0_at_iyd_c, .res_0_at_iyd_d, .res_0_at_iyd_e, .res_0_at_iyd_h, .res_0_at_iyd_l,
      .res_0_at_iyd, .res_0_at_iyd_a, .res_1_at_iyd_b, .res_1_at_iyd_c, .res_1_at_iyd_d, .res_1_at_iyd_e,
      .res_1_at_iyd_h, .res_1_at_iyd_l, .res_1_at_iyd, .res_1_at_iyd_a, .res_2_at_iyd_b, .res_2_at_iyd_c,
      .res_2_at_iyd_d, .res_2_at_iyd_e, .res_2_at_iyd_h, .res_2_at_iyd_l, .res_2_at_iyd, .res_2_at_iyd_a,
      .res_3_at_iyd_b, .res_3_at_iyd_c, .res_3_at_iyd_d, .res_3_at_iyd_e, .res_3_at_iyd_h, .res_3_at_iyd_l,
      .res_3_at_iyd, .res_3_at_iyd_a, .res_4_at_iyd_b, .res_4_at_iyd_c, .res_4_at_iyd_d, .res_4_at_iyd_e,
      .res_4_at_iyd_h, .res_4_at_iyd_l, .res_4_at_iyd, .res_4_at_iyd_a, .res_5_at_iyd_b, .res_5_at_iyd_c,
      .res_5_at_iyd_d, .res_5_at_iyd_e, .res_5_at_iyd_h, .res_5_at_iyd_l, .res_5_at_iyd, .res_5_at_iyd_a,
      .res_6_at_iyd_b, .res_6_at_iyd_c, .res_6_at_iyd_d, .res_6_at_iyd_e, .res_6_at_iyd_h, .res_6_at_iyd_l,
      .res_6_at_iyd, .res_6_at_iyd_a, .res_7_at_iyd_b, .res_7_at_iyd_c, .res_7_at_iyd_d, .res_7_at_iyd_e,
      .res_7_at_iyd_h, .res_7_at_iyd_l, .res_7_at_iyd, .res_7_at_iyd_a] := rfl

/-- The table after `FD CB d`, from 0xC0. -/
theorem test_rows_iy_bit_c0 :
    ((List.range' 0xC0 64).map fun n => decodeInstr .bit .iy (BitVec.ofNat 8 n)) =
     [.set_0_at_iyd_b, .set_0_at_iyd_c, .set_0_at_iyd_d, .set_0_at_iyd_e, .set_0_at_iyd_h, .set_0_at_iyd_l,
      .set_0_at_iyd, .set_0_at_iyd_a, .set_1_at_iyd_b, .set_1_at_iyd_c, .set_1_at_iyd_d, .set_1_at_iyd_e,
      .set_1_at_iyd_h, .set_1_at_iyd_l, .set_1_at_iyd, .set_1_at_iyd_a, .set_2_at_iyd_b, .set_2_at_iyd_c,
      .set_2_at_iyd_d, .set_2_at_iyd_e, .set_2_at_iyd_h, .set_2_at_iyd_l, .set_2_at_iyd, .set_2_at_iyd_a,
      .set_3_at_iyd_b, .set_3_at_iyd_c, .set_3_at_iyd_d, .set_3_at_iyd_e, .set_3_at_iyd_h, .set_3_at_iyd_l,
      .set_3_at_iyd, .set_3_at_iyd_a, .set_4_at_iyd_b, .set_4_at_iyd_c, .set_4_at_iyd_d, .set_4_at_iyd_e,
      .set_4_at_iyd_h, .set_4_at_iyd_l, .set_4_at_iyd, .set_4_at_iyd_a, .set_5_at_iyd_b, .set_5_at_iyd_c,
      .set_5_at_iyd_d, .set_5_at_iyd_e, .set_5_at_iyd_h, .set_5_at_iyd_l, .set_5_at_iyd, .set_5_at_iyd_a,
      .set_6_at_iyd_b, .set_6_at_iyd_c, .set_6_at_iyd_d, .set_6_at_iyd_e, .set_6_at_iyd_h, .set_6_at_iyd_l,
      .set_6_at_iyd, .set_6_at_iyd_a, .set_7_at_iyd_b, .set_7_at_iyd_c, .set_7_at_iyd_d, .set_7_at_iyd_e,
      .set_7_at_iyd_h, .set_7_at_iyd_l, .set_7_at_iyd, .set_7_at_iyd_a] := rfl

/-- The table after `ED`, from 0x00. -/
theorem test_rows_extended_00 :
    ((List.range' 0x00 64).map fun n => decodeInstr .extended .none (BitVec.ofNat 8 n)) =
     [(.nop_ed 0x00#8), (.nop_ed 0x01#8), (.nop_ed 0x02#8), (.nop_ed 0x03#8), (.nop_ed 0x04#8), (.nop_ed 0x05#8),
      (.nop_ed 0x06#8), (.nop_ed 0x07#8), (.nop_ed 0x08#8), (.nop_ed 0x09#8), (.nop_ed 0x0A#8), (.nop_ed 0x0B#8),
      (.nop_ed 0x0C#8), (.nop_ed 0x0D#8), (.nop_ed 0x0E#8), (.nop_ed 0x0F#8), (.nop_ed 0x10#8), (.nop_ed 0x11#8),
      (.nop_ed 0x12#8), (.nop_ed 0x13#8), (.nop_ed 0x14#8), (.nop_ed 0x15#8), (.nop_ed 0x16#8), (.nop_ed 0x17#8),
      (.nop_ed 0x18#8), (.nop_ed 0x19#8), (.nop_ed 0x1A#8), (.nop_ed 0x1B#8), (.nop_ed 0x1C#8), (.nop_ed 0x1D#8),
      (.nop_ed 0x1E#8), (.nop_ed 0x1F#8), (.nop_ed 0x20#8), (.nop_ed 0x21#8), (.nop_ed 0x22#8), (.nop_ed 0x23#8),
      (.nop_ed 0x24#8), (.nop_ed 0x25#8), (.nop_ed 0x26#8), (.nop_ed 0x27#8), (.nop_ed 0x28#8), (.nop_ed 0x29#8),
      (.nop_ed 0x2A#8), (.nop_ed 0x2B#8), (.nop_ed 0x2C#8), (.nop_ed 0x2D#8), (.nop_ed 0x2E#8), (.nop_ed 0x2F#8),
      (.nop_ed 0x30#8), (.nop_ed 0x31#8), (.nop_ed 0x32#8), (.nop_ed 0x33#8), (.nop_ed 0x34#8), (.nop_ed 0x35#8),
      (.nop_ed 0x36#8), (.nop_ed 0x37#8), (.nop_ed 0x38#8), (.nop_ed 0x39#8), (.nop_ed 0x3A#8), (.nop_ed 0x3B#8),
      (.nop_ed 0x3C#8), (.nop_ed 0x3D#8), (.nop_ed 0x3E#8), (.nop_ed 0x3F#8)] := rfl

/-- The table after `ED`, from 0x40. -/
theorem test_rows_extended_40 :
    ((List.range' 0x40 64).map fun n => decodeInstr .extended .none (BitVec.ofNat 8 n)) =
     [.in_b_at_c, .out_at_c_b, .sbc_hl_bc, .ld_at_nn_bc, (.neg .b0), (.retn .b0), (.im_0 .b0), .ld_i_a, .in_c_at_c,
      .out_at_c_c, .adc_hl_bc, .ld_bc_at_nn, (.neg .b1), .reti, (.im_0 .b1), .ld_r_a, .in_d_at_c, .out_at_c_d,
      .sbc_hl_de, .ld_at_nn_de, (.neg .b2), (.retn .b2), (.im_1 .b2), .ld_a_i, .in_e_at_c, .out_at_c_e, .adc_hl_de,
      .ld_de_at_nn, (.neg .b3), (.retn .b3), (.im_2 .b3), .ld_a_r, .in_h_at_c, .out_at_c_h, .sbc_hl_hl,
      .ld_at_nn_hl_ed, (.neg .b4), (.retn .b4), (.im_0 .b4), .rrd, .in_l_at_c, .out_at_c_l, .adc_hl_hl,
      .ld_hl_at_nn_ed, (.neg .b5), (.retn .b5), (.im_0 .b5), .rld, .in_at_c, .out_at_c_0, .sbc_hl_sp, .ld_at_nn_sp,
      (.neg .b6), (.retn .b6), (.im_1 .b6), (.nop_ed 0x77#8), .in_a_at_c, .out_at_c_a, .adc_hl_sp, .ld_sp_at_nn,
      (.neg .b7), (.retn .b7), (.im_2 .b7), (.nop_ed 0x7F#8)] := rfl

/-- The table after `ED`, from 0x80. -/
theorem test_rows_extended_80 :
    ((List.range' 0x80 64).map fun n => decodeInstr .extended .none (BitVec.ofNat 8 n)) =
     [(.nop_ed 0x80#8), (.nop_ed 0x81#8), (.nop_ed 0x82#8), (.nop_ed 0x83#8), (.nop_ed 0x84#8), (.nop_ed 0x85#8),
      (.nop_ed 0x86#8), (.nop_ed 0x87#8), (.nop_ed 0x88#8), (.nop_ed 0x89#8), (.nop_ed 0x8A#8), (.nop_ed 0x8B#8),
      (.nop_ed 0x8C#8), (.nop_ed 0x8D#8), (.nop_ed 0x8E#8), (.nop_ed 0x8F#8), (.nop_ed 0x90#8), (.nop_ed 0x91#8),
      (.nop_ed 0x92#8), (.nop_ed 0x93#8), (.nop_ed 0x94#8), (.nop_ed 0x95#8), (.nop_ed 0x96#8), (.nop_ed 0x97#8),
      (.nop_ed 0x98#8), (.nop_ed 0x99#8), (.nop_ed 0x9A#8), (.nop_ed 0x9B#8), (.nop_ed 0x9C#8), (.nop_ed 0x9D#8),
      (.nop_ed 0x9E#8), (.nop_ed 0x9F#8), .ldi, .cpi, .ini, .outi, (.nop_ed 0xA4#8), (.nop_ed 0xA5#8),
      (.nop_ed 0xA6#8), (.nop_ed 0xA7#8), .ldd, .cpd, .ind, .outd, (.nop_ed 0xAC#8), (.nop_ed 0xAD#8),
      (.nop_ed 0xAE#8), (.nop_ed 0xAF#8), .ldir, .cpir, .inir, .otir, (.nop_ed 0xB4#8), (.nop_ed 0xB5#8),
      (.nop_ed 0xB6#8), (.nop_ed 0xB7#8), .lddr, .cpdr, .indr, .otdr, (.nop_ed 0xBC#8), (.nop_ed 0xBD#8),
      (.nop_ed 0xBE#8), (.nop_ed 0xBF#8)] := rfl

/-- The table after `ED`, from 0xC0. -/
theorem test_rows_extended_c0 :
    ((List.range' 0xC0 64).map fun n => decodeInstr .extended .none (BitVec.ofNat 8 n)) =
     [(.nop_ed 0xC0#8), (.nop_ed 0xC1#8), (.nop_ed 0xC2#8), (.nop_ed 0xC3#8), (.nop_ed 0xC4#8), (.nop_ed 0xC5#8),
      (.nop_ed 0xC6#8), (.nop_ed 0xC7#8), (.nop_ed 0xC8#8), (.nop_ed 0xC9#8), (.nop_ed 0xCA#8), (.nop_ed 0xCB#8),
      (.nop_ed 0xCC#8), (.nop_ed 0xCD#8), (.nop_ed 0xCE#8), (.nop_ed 0xCF#8), (.nop_ed 0xD0#8), (.nop_ed 0xD1#8),
      (.nop_ed 0xD2#8), (.nop_ed 0xD3#8), (.nop_ed 0xD4#8), (.nop_ed 0xD5#8), (.nop_ed 0xD6#8), (.nop_ed 0xD7#8),
      (.nop_ed 0xD8#8), (.nop_ed 0xD9#8), (.nop_ed 0xDA#8), (.nop_ed 0xDB#8), (.nop_ed 0xDC#8), (.nop_ed 0xDD#8),
      (.nop_ed 0xDE#8), (.nop_ed 0xDF#8), (.nop_ed 0xE0#8), (.nop_ed 0xE1#8), (.nop_ed 0xE2#8), (.nop_ed 0xE3#8),
      (.nop_ed 0xE4#8), (.nop_ed 0xE5#8), (.nop_ed 0xE6#8), (.nop_ed 0xE7#8), (.nop_ed 0xE8#8), (.nop_ed 0xE9#8),
      (.nop_ed 0xEA#8), (.nop_ed 0xEB#8), (.nop_ed 0xEC#8), (.nop_ed 0xED#8), (.nop_ed 0xEE#8), (.nop_ed 0xEF#8),
      (.nop_ed 0xF0#8), (.nop_ed 0xF1#8), (.nop_ed 0xF2#8), (.nop_ed 0xF3#8), (.nop_ed 0xF4#8), (.nop_ed 0xF5#8),
      (.nop_ed 0xF6#8), (.nop_ed 0xF7#8), (.nop_ed 0xF8#8), (.nop_ed 0xF9#8), (.nop_ed 0xFA#8), (.nop_ed 0xFB#8),
      (.nop_ed 0xFC#8), (.nop_ed 0xFD#8), (.nop_ed 0xFE#8), (.nop_ed 0xFF#8)] := rfl

/-! ## Vectors of 95_test_vectors.md section 2.2, one step each (the prefix cycles before it are part of the launch) -/

theorem test_ld_b_n :
    let t := ran start [0x06#8, 0x5A#8]
    t.regs.b = 0x5A#8 ∧ t.pc = 0x0002#16 ∧ t.tacts = 7 := by decide

theorem test_ld_b_ix_plus_5 :
    let t := ran { start with ix := 0x1000#16, mem := [(0x1005, 0x7C#8)] } [0xDD#8, 0x46#8, 0x05#8]
    t.regs.b = 0x7C#8 ∧ t.pc = 0x0003#16 ∧ t.tacts = 19 ∧ t.wz = 0x1005#16 ∧ t.rReg = 0x02#8 := by decide

theorem test_ld_a_bc :
    let t := ran { start with
        regs.b := 0x12#8, regs.c := 0xFF#8, mem := [(0x12FF, 0x77#8)] } [0x0A#8]
    t.regs.a = 0x77#8 ∧ t.wz = 0x1300#16 ∧ t.tacts = 7 := by decide

theorem test_ld_de_a :
    let t := ran { start with
        regs.a := 0xAB#8, regs.d := 0x40#8, regs.e := 0xFF#8 } [0x12#8]
    t.wz = 0xAB00#16 ∧ t.tacts = 7 := by decide

theorem test_ld_nn_a :
    let t := ran { start with regs.a := 0xAB#8 } [0x32#8, 0xFF#8, 0x40#8]
    t.wz = 0xAB00#16 ∧ t.tacts = 13 ∧ t.pc = 0x0003#16 := by decide

theorem test_ld_a_nn :
    let t := ran { start with mem := [(0x8000, 0x33#8)] } [0x3A#8, 0x00#8, 0x80#8]
    t.regs.a = 0x33#8 ∧ t.wz = 0x8001#16 ∧ t.tacts = 13 := by decide

theorem test_ld_nn_hl :
    let t := ran { start with regs.h := 0x12#8, regs.l := 0x34#8 } [0x22#8, 0xFF#8, 0xFF#8]
    t.wz = 0x0000#16 ∧ t.tacts = 16 ∧ t.byteAt 0xFFFF#16 = 0x34#8 ∧ t.byteAt 0x0000#16 = 0x12#8 := by decide

theorem test_ld_hl_nn :
    let t := ran { start with mem := [(0x9000, 0xCD#8), (0x9001, 0xAB#8)] } [0x2A#8, 0x00#8, 0x90#8]
    t.regs.h = 0xAB#8 ∧ t.regs.l = 0xCD#8 ∧ t.wz = 0x9001#16 ∧ t.tacts = 16 := by decide

theorem test_ld_sp_hl :
    let t := ran { start with regs.h := 0x80#8, regs.l := 0x00#8 } [0xF9#8]
    t.sp = 0x8000#16 ∧ t.tacts = 6 := by decide

theorem test_push_bc_sp_0000 :
    let t := ran { start with
        regs.b := 0x12#8, regs.c := 0x34#8, sp := 0x0000#16 } [0xC5#8]
    t.sp = 0xFFFE#16 ∧ t.tacts = 11 ∧ t.byteAt 0xFFFF#16 = 0x12#8 ∧ t.byteAt 0xFFFE#16 = 0x34#8 ∧
      lastCalls 3 t = [(.memRead, 0x0000#16, 0xC5#8), (.memWrite, 0xFFFF#16, 0x12#8), (.memWrite, 0xFFFE#16,
      0x34#8)] := by decide

theorem test_pop_af :
    let t := ran { start with
        sp := 0x8000#16, mem := [(0x8000, 0xD7#8), (0x8001, 0x42#8)] } [0xF1#8]
    t.regs.a = 0x42#8 ∧ t.regs.f = 0xD7#8 ∧ t.sp = 0x8002#16 ∧ t.tacts = 10 := by decide

theorem test_ex_sp_hl :
    let t := ran { start with
        regs.h := 0x12#8, regs.l := 0x34#8, sp := 0x8000#16
        mem := [(0x8000, 0xCD#8), (0x8001, 0xAB#8)] } [0xE3#8]
    t.regs.h = 0xAB#8 ∧ t.regs.l = 0xCD#8 ∧ t.wz = 0xABCD#16 ∧ t.sp = 0x8000#16 ∧ t.tacts = 19 ∧
      t.byteAt 0x8000#16 = 0x34#8 ∧ t.byteAt 0x8001#16 = 0x12#8 ∧
      lastCalls 5 t = [(.memRead, 0x0000#16, 0xE3#8), (.memRead, 0x8000#16, 0xCD#8), (.memRead, 0x8001#16,
      0xAB#8), (.memWrite, 0x8001#16, 0x12#8), (.memWrite, 0x8000#16, 0x34#8)] := by decide

theorem test_ex_de_hl :
    let t := ran { start with
        regs.d := 0x01#8, regs.e := 0x02#8, regs.h := 0x03#8, regs.l := 0x04#8 } [0xEB#8]
    t.regs.d = 0x03#8 ∧ t.regs.e = 0x04#8 ∧ t.regs.h = 0x01#8 ∧ t.regs.l = 0x02#8 ∧ t.tacts = 4 := by decide

theorem test_ex_af_af_alt :
    let t := ran { start with
        regs.a := 0x12#8, regs.f := 0x34#8, afAlt := 0xABCD#16 } [0x08#8]
    t.regs.a = 0xAB#8 ∧ t.regs.f = 0xCD#8 ∧ t.afAlt = 0x1234#16 ∧ t.tacts = 4 := by decide

theorem test_exx :
    let t := ran { start with
        regs.b := 0x01#8, regs.c := 0x02#8, regs.d := 0x03#8, regs.e := 0x04#8, regs.h := 0x05#8
        regs.l := 0x06#8, bcAlt := 0x1111#16, deAlt := 0x2222#16, hlAlt := 0x3333#16 } [0xD9#8]
    t.bc = 0x1111#16 ∧ t.de = 0x2222#16 ∧ t.hl = 0x3333#16 ∧ t.bcAlt = 0x0102#16 ∧ t.deAlt = 0x0304#16 ∧
      t.hlAlt = 0x0506#16 := by decide

theorem test_add_a_b_7f_plus_01 :
    let t := ran { start with regs.a := 0x7F#8, regs.b := 0x01#8 } [0x80#8]
    t.regs.a = 0x80#8 ∧ t.regs.f = 0x94#8 ∧ t.tacts = 4 := by decide

theorem test_adc_a_n_ff_plus_00_plus_1 :
    let t := ran { start with regs.a := 0xFF#8, regs.f := 0x01#8 } [0xCE#8, 0x00#8]
    t.regs.a = 0x00#8 ∧ t.regs.f = 0x51#8 ∧ t.tacts = 7 := by decide

theorem test_sub_hl_00_minus_01 :
    let t := ran { start with
        regs.a := 0x00#8, regs.h := 0x80#8, mem := [(0x8000, 0x01#8)] } [0x96#8]
    t.regs.a = 0xFF#8 ∧ t.regs.f = 0xBB#8 ∧ t.tacts = 7 := by decide

theorem test_sbc_a_c_80_minus_00_minus_1 :
    let t := ran { start with
        regs.a := 0x80#8, regs.c := 0x00#8, regs.f := 0x01#8 } [0x99#8]
    t.regs.a = 0x7F#8 ∧ t.regs.f = 0x3E#8 := by decide

theorem test_and_n_f0_3c :
    let t := ran { start with regs.a := 0xF0#8 } [0xE6#8, 0x3C#8]
    t.regs.a = 0x30#8 ∧ t.regs.f = 0x34#8 := by decide

theorem test_xor_a :
    let t := ran { start with regs.a := 0x5A#8, regs.f := 0xFF#8 } [0xAF#8]
    t.regs.a = 0x00#8 ∧ t.regs.f = 0x44#8 := by decide

theorem test_or_l_00_or_00 :
    let t := ran { start with
        regs.a := 0x00#8, regs.l := 0x00#8, regs.f := 0xFF#8 } [0xB5#8]
    t.regs.a = 0x00#8 ∧ t.regs.f = 0x44#8 := by decide

theorem test_cp_n_42_vs_42 :
    let t := ran { start with regs.a := 0x42#8 } [0xFE#8, 0x42#8]
    t.regs.a = 0x42#8 ∧ t.regs.f = 0x42#8 ∧ t.tacts = 7 := by decide

theorem test_cp_b_3a_vs_12 :
    let t := ran { start with regs.a := 0x3A#8, regs.b := 0x12#8 } [0xB8#8]
    t.regs.a = 0x3A#8 ∧ t.regs.f = 0x2A#8 := by decide

theorem test_inc_b_7f_c_set :
    let t := ran { start with regs.b := 0x7F#8, regs.f := 0x01#8 } [0x04#8]
    t.regs.b = 0x80#8 ∧ t.regs.f = 0x95#8 ∧ t.tacts = 4 := by decide

theorem test_dec_c_80 :
    let t := ran { start with regs.c := 0x80#8 } [0x0D#8]
    t.regs.c = 0x7F#8 ∧ t.regs.f = 0x3E#8 := by decide

theorem test_inc_hl_0f :
    let t := ran { start with regs.h := 0x90#8, mem := [(0x9000, 0x0F#8)] } [0x34#8]
    t.regs.f = 0x10#8 ∧ t.tacts = 11 ∧ t.byteAt 0x9000#16 = 0x10#8 := by decide

theorem test_dec_ix_minus_1_01 :
    let t := ran { start with ix := 0x9001#16, mem := [(0x9000, 0x01#8)] } [0xDD#8, 0x35#8, 0xFF#8]
    t.regs.f = 0x42#8 ∧ t.tacts = 23 ∧ t.wz = 0x9000#16 ∧ t.pc = 0x0003#16 ∧ t.byteAt 0x9000#16 = 0x00#8 := by decide

theorem test_daa_after_15_plus_27 :
    let t := ran { start with regs.a := 0x3C#8, regs.f := 0x28#8 } [0x27#8]
    t.regs.a = 0x42#8 ∧ t.regs.f = 0x14#8 := by decide

theorem test_daa_after_42_minus_15_n_h :
    let t := ran { start with regs.a := 0x2D#8, regs.f := 0x3A#8 } [0x27#8]
    t.regs.a = 0x27#8 ∧ t.regs.f = 0x26#8 := by decide

theorem test_cpl :
    let t := ran { start with regs.a := 0x5A#8, regs.f := 0xC5#8 } [0x2F#8]
    t.regs.a = 0xA5#8 ∧ t.regs.f = 0xF7#8 := by decide

theorem test_scf :
    let t := ran { start with regs.a := 0x28#8, regs.f := 0xD6#8 } [0x37#8]
    t.regs.a = 0x28#8 ∧ t.regs.f = 0xED#8 := by decide

theorem test_ccf_c_1 :
    let t := ran { start with regs.a := 0x00#8, regs.f := 0xFF#8 } [0x3F#8]
    t.regs.a = 0x00#8 ∧ t.regs.f = 0xD4#8 := by decide

theorem test_rlca_81 :
    let t := ran { start with regs.a := 0x81#8, regs.f := 0xFF#8 } [0x07#8]
    t.regs.a = 0x03#8 ∧ t.regs.f = 0xC5#8 := by decide

theorem test_rrca_01 :
    let t := ran { start with regs.a := 0x01#8, regs.f := 0x00#8 } [0x0F#8]
    t.regs.a = 0x80#8 ∧ t.regs.f = 0x01#8 := by decide

theorem test_rla_80_c_1 :
    let t := ran { start with regs.a := 0x80#8, regs.f := 0x01#8 } [0x17#8]
    t.regs.a = 0x01#8 ∧ t.regs.f = 0x01#8 := by decide

theorem test_rra_01_c_0 :
    let t := ran { start with regs.a := 0x01#8, regs.f := 0xC4#8 } [0x1F#8]
    t.regs.a = 0x00#8 ∧ t.regs.f = 0xC5#8 := by decide

theorem test_add_hl_bc_0fff_plus_0001 :
    let t := ran { start with
        regs.h := 0x0F#8, regs.l := 0xFF#8, regs.b := 0x00#8, regs.c := 0x01#8, regs.f := 0xC4#8 } [0x09#8]
    t.regs.h = 0x10#8 ∧ t.regs.l = 0x00#8 ∧ t.regs.f = 0xD4#8 ∧ t.wz = 0x1000#16 ∧ t.tacts = 11 := by decide

theorem test_add_ix_ix_4000_plus_4000 :
    let t := ran { start with
        ix := 0x4000#16, regs.h := 0x11#8, regs.l := 0x11#8 } [0xDD#8, 0x29#8]
    t.ix = 0x8000#16 ∧ t.regs.h = 0x11#8 ∧ t.regs.l = 0x11#8 ∧ t.regs.f = 0x00#8 ∧ t.wz = 0x4001#16 ∧
      t.tacts = 15 := by decide

theorem test_inc_bc_ffff :
    let t := ran { start with
        regs.b := 0xFF#8, regs.c := 0xFF#8, regs.f := 0xFF#8 } [0x03#8]
    t.regs.b = 0x00#8 ∧ t.regs.c = 0x00#8 ∧ t.regs.f = 0xFF#8 ∧ t.tacts = 6 := by decide

theorem test_dec_sp_0000 :
    let t := ran { start with sp := 0x0000#16 } [0x3B#8]
    t.sp = 0xFFFF#16 ∧ t.regs.f = 0x00#8 ∧ t.tacts = 6 := by decide

theorem test_inc_iy :
    let t := ran { start with iy := 0x00FF#16 } [0xFD#8, 0x23#8]
    t.iy = 0x0100#16 ∧ t.tacts = 10 ∧ t.rReg = 0x02#8 := by decide

theorem test_jp_nn :
    let t := ran start [0xC3#8, 0x34#8, 0x12#8]
    t.pc = 0x1234#16 ∧ t.wz = 0x1234#16 ∧ t.tacts = 10 := by decide

theorem test_jp_nz_nn_z_1 :
    let t := ran { start with regs.f := 0x40#8 } [0xC2#8, 0x34#8, 0x12#8]
    t.pc = 0x0003#16 ∧ t.wz = 0x1234#16 ∧ t.tacts = 10 := by decide

theorem test_jp_hl :
    let t := ran { start with
        regs.h := 0x12#8, regs.l := 0x34#8, wz := 0x5555#16 } [0xE9#8]
    t.pc = 0x1234#16 ∧ t.wz = 0x5555#16 ∧ t.tacts = 4 := by decide

theorem test_jp_iy :
    let t := ran { start with iy := 0xBEEF#16 } [0xFD#8, 0xE9#8]
    t.pc = 0xBEEF#16 ∧ t.tacts = 8 := by decide

theorem test_jr_e_plus_5_gate_array_false :
    let t := ran { start with cfg.useGateArrayContention := false } [0x18#8, 0x05#8]
    t.pc = 0x0007#16 ∧ t.wz = 0x0007#16 ∧ t.tacts = 12 ∧
      lastCalls 7 t = [(.memRead, 0x0000#16, 0x18#8), (.memRead, 0x0001#16, 0x05#8), (.memRead, 0x0001#16,
      0x05#8), (.memRead, 0x0001#16, 0x05#8), (.memRead, 0x0001#16, 0x05#8), (.memRead, 0x0001#16, 0x05#8),
      (.memRead, 0x0001#16, 0x05#8)] := by decide

theorem test_jr_nz_z_1_not_taken :
    let t := ran { start with regs.f := 0x40#8, wz := 0x5555#16 } [0x20#8, 0x05#8]
    t.pc = 0x0002#16 ∧ t.wz = 0x5555#16 ∧ t.tacts = 7 := by decide

theorem test_jr_c_e_minus_128_from_0000 :
    let t := ran { start with regs.f := 0x01#8 } [0x38#8, 0x80#8]
    t.pc = 0xFF82#16 ∧ t.wz = 0xFF82#16 ∧ t.tacts = 12 := by decide

theorem test_djnz_b_2_taken :
    let t := ran { start with regs.b := 0x02#8, regs.f := 0xFF#8 } [0x10#8, 0xFE#8]
    t.regs.b = 0x01#8 ∧ t.pc = 0x0000#16 ∧ t.wz = 0x0000#16 ∧ t.tacts = 13 ∧ t.regs.f = 0xFF#8 := by decide

theorem test_djnz_b_1_falls_through :
    let t := ran { start with regs.b := 0x01#8 } [0x10#8, 0xFE#8]
    t.regs.b = 0x00#8 ∧ t.pc = 0x0002#16 ∧ t.tacts = 8 := by decide

theorem test_call_nn :
    let t := ran { start with sp := 0xFFFE#16 } [0xCD#8, 0x00#8, 0x80#8]
    t.pc = 0x8000#16 ∧ t.sp = 0xFFFC#16 ∧ t.wz = 0x8000#16 ∧ t.tacts = 17 ∧ t.byteAt 0xFFFD#16 = 0x00#8 ∧
      t.byteAt 0xFFFC#16 = 0x03#8 := by decide

theorem test_call_z_nn_z_0 :
    let t := ran { start with sp := 0xFFFE#16 } [0xCC#8, 0x00#8, 0x80#8]
    t.pc = 0x0003#16 ∧ t.sp = 0xFFFE#16 ∧ t.wz = 0x8000#16 ∧ t.tacts = 10 := by decide

theorem test_ret :
    let t := ran { start with
        sp := 0x8000#16, mem := [(0x8000, 0x34#8), (0x8001, 0x12#8)] } [0xC9#8]
    t.pc = 0x1234#16 ∧ t.sp = 0x8002#16 ∧ t.wz = 0x1234#16 ∧ t.tacts = 10 := by decide

theorem test_ret_c_c_1 :
    let t := ran { start with
        sp := 0x8000#16, regs.f := 0x01#8, mem := [(0x8000, 0x34#8), (0x8001, 0x12#8)] } [0xD8#8]
    t.pc = 0x1234#16 ∧ t.sp = 0x8002#16 ∧ t.wz = 0x1234#16 ∧ t.tacts = 11 := by decide

theorem test_rst_38h_at_1234 :
    let t := ran { start with sp := 0x0001#16, pc := 0x1234#16 } [0xFF#8]
    t.pc = 0x0038#16 ∧ t.sp = 0xFFFF#16 ∧ t.wz = 0x0038#16 ∧ t.tacts = 11 ∧ t.byteAt 0x0000#16 = 0x12#8 ∧
      t.byteAt 0xFFFF#16 = 0x35#8 := by decide

theorem test_halt :
    let t := ran { start with pc := 0x0100#16 } [0x76#8]
    t.pc = 0x0100#16 ∧ t.sig.halted = true ∧ t.tacts = 4 := by decide

theorem test_di :
    let t := ran { start with iff1 := true, iff2 := true } [0xF3#8]
    t.iff1 = false ∧ t.iff2 = false ∧ t.blocked = false ∧ t.tacts = 4 := by decide

theorem test_ei :
    let t := ran start [0xFB#8]
    t.iff1 = true ∧ t.iff2 = true ∧ t.blocked = true ∧ t.tacts = 4 := by decide

theorem test_in_a_n :
    let t := ran { start with regs.a := 0x7F#8 } [0xDB#8, 0xFE#8]
    t.regs.a = 0xFF#8 ∧ t.wz = 0x7FFF#16 ∧ t.tacts = 11 ∧
      lastCalls 1 t = [(.portRead, 0x7FFE#16, 0xFF#8)] := by decide

theorem test_out_n_a :
    let t := ran { start with regs.a := 0x12#8 } [0xD3#8, 0xFF#8]
    t.regs.a = 0x12#8 ∧ t.wz = 0x1200#16 ∧ t.tacts = 11 ∧
      lastCalls 1 t = [(.portWrite, 0x12FF#16, 0x12#8)] := by decide

theorem test_ld_ix_nn :
    let t := ran start [0xDD#8, 0x21#8, 0x34#8, 0x12#8]
    t.ix = 0x1234#16 ∧ t.pc = 0x0004#16 ∧ t.tacts = 14 ∧ t.rReg = 0x02#8 := by decide

theorem test_ld_nn_iy :
    let t := ran { start with iy := 0xBEEF#16 } [0xFD#8, 0x22#8, 0x00#8, 0x90#8]
    t.wz = 0x9001#16 ∧ t.tacts = 20 ∧ t.byteAt 0x9000#16 = 0xEF#8 ∧ t.byteAt 0x9001#16 = 0xBE#8 := by decide

theorem test_ld_ix_plus_d_n :
    let t := ran { start with ix := 0x9000#16 } [0xDD#8, 0x36#8, 0x02#8, 0x99#8]
    t.wz = 0x9002#16 ∧ t.pc = 0x0004#16 ∧ t.tacts = 19 ∧ t.byteAt 0x9002#16 = 0x99#8 ∧
      lastCalls 5 t = [(.memRead, 0x0000#16, 0xDD#8), (.memRead, 0x0001#16, 0x36#8), (.memRead, 0x0002#16,
      0x02#8), (.memRead, 0x0003#16, 0x99#8), (.memWrite, 0x9002#16, 0x99#8)] := by decide

theorem test_ld_ix_plus_1_h :
    let t := ran { start with ix := 0x9000#16, regs.h := 0x55#8 } [0xDD#8, 0x74#8, 0x01#8]
    t.tacts = 19 ∧ t.wz = 0x9001#16 ∧ t.byteAt 0x9001#16 = 0x55#8 := by decide

theorem test_ld_h_ix_plus_1 :
    let t := ran { start with ix := 0x9000#16, mem := [(0x9001, 0x66#8)] } [0xDD#8, 0x66#8, 0x01#8]
    t.regs.h = 0x66#8 ∧ t.ix = 0x9000#16 ∧ t.tacts = 19 := by decide

theorem test_ld_ixh_n :
    let t := ran { start with ix := 0x1234#16, regs.h := 0x99#8 } [0xDD#8, 0x26#8, 0x77#8]
    t.ix = 0x7734#16 ∧ t.regs.h = 0x99#8 ∧ t.tacts = 11 := by decide

theorem test_ld_iyl_iyh :
    let t := ran { start with iy := 0x12FF#16 } [0xFD#8, 0x6C#8]
    t.iy = 0x1212#16 ∧ t.tacts = 8 := by decide

theorem test_ld_b_ixl :
    let t := ran { start with ix := 0x12CD#16 } [0xDD#8, 0x45#8]
    t.regs.b = 0xCD#8 ∧ t.tacts = 8 := by decide

theorem test_inc_ixl_ff :
    let t := ran { start with ix := 0x12FF#16 } [0xDD#8, 0x2C#8]
    t.ix = 0x1200#16 ∧ t.regs.f = 0x50#8 ∧ t.tacts = 8 := by decide

theorem test_add_a_iyh :
    let t := ran { start with regs.a := 0x10#8, iy := 0x2200#16 } [0xFD#8, 0x84#8]
    t.regs.a = 0x32#8 ∧ t.regs.f = 0x20#8 ∧ t.tacts = 8 := by decide

theorem test_xor_iy_plus_0 :
    let t := ran { start with
        regs.a := 0xFF#8, iy := 0x9000#16, mem := [(0x9000, 0x0F#8)] } [0xFD#8, 0xAE#8, 0x00#8]
    t.regs.a = 0xF0#8 ∧ t.regs.f = 0xA4#8 ∧ t.tacts = 19 := by decide

theorem test_dd_41_inherited_ld_b_c :
    let t := ran { start with regs.c := 0x77#8 } [0xDD#8, 0x41#8]
    t.regs.b = 0x77#8 ∧ t.tacts = 8 := by decide

theorem test_dd_fd_21_iy_wins :
    let t := ran start [0xDD#8, 0xFD#8, 0x21#8, 0x34#8, 0x12#8]
    t.ix = 0x0000#16 ∧ t.iy = 0x1234#16 ∧ t.pc = 0x0005#16 ∧ t.tacts = 18 ∧ t.rReg = 0x03#8 := by decide

theorem test_push_ix_pop :
    let t := ran { start with ix := 0xABCD#16, sp := 0x8002#16 } [0xDD#8, 0xE5#8]
    t.sp = 0x8000#16 ∧ t.tacts = 15 := by decide

theorem test_pop_iy :
    let t := ran { start with
        sp := 0x8000#16, mem := [(0x8000, 0x34#8), (0x8001, 0x12#8)] } [0xFD#8, 0xE1#8]
    t.iy = 0x1234#16 ∧ t.sp = 0x8002#16 ∧ t.tacts = 14 := by decide

theorem test_ex_sp_ix :
    let t := ran { start with
        ix := 0x1234#16, sp := 0x8000#16, mem := [(0x8000, 0xCD#8), (0x8001, 0xAB#8)] } [0xDD#8, 0xE3#8]
    t.ix = 0xABCD#16 ∧ t.wz = 0xABCD#16 ∧ t.tacts = 23 := by decide

theorem test_ld_sp_iy :
    let t := ran { start with iy := 0x4000#16 } [0xFD#8, 0xF9#8]
    t.sp = 0x4000#16 ∧ t.tacts = 10 := by decide

theorem test_rlc_b_81 :
    let t := ran { start with regs.b := 0x81#8 } [0xCB#8, 0x00#8]
    t.regs.b = 0x03#8 ∧ t.regs.f = 0x05#8 ∧ t.tacts = 8 ∧ t.rReg = 0x02#8 := by decide

theorem test_rrc_c_01 :
    let t := ran { start with regs.c := 0x01#8 } [0xCB#8, 0x09#8]
    t.regs.c = 0x80#8 ∧ t.regs.f = 0x81#8 := by decide

theorem test_rl_d_80_c_1 :
    let t := ran { start with regs.d := 0x80#8, regs.f := 0x01#8 } [0xCB#8, 0x12#8]
    t.regs.d = 0x01#8 ∧ t.regs.f = 0x01#8 := by decide

theorem test_rr_e_01_c_0 :
    let t := ran { start with regs.e := 0x01#8 } [0xCB#8, 0x1B#8]
    t.regs.e = 0x00#8 ∧ t.regs.f = 0x45#8 := by decide

theorem test_sla_h_81 :
    let t := ran { start with regs.h := 0x81#8 } [0xCB#8, 0x24#8]
    t.regs.h = 0x02#8 ∧ t.regs.f = 0x01#8 := by decide

theorem test_sra_l_81 :
    let t := ran { start with regs.l := 0x81#8 } [0xCB#8, 0x2D#8]
    t.regs.l = 0xC0#8 ∧ t.regs.f = 0x85#8 := by decide

theorem test_sll_a_80 :
    let t := ran { start with regs.a := 0x80#8 } [0xCB#8, 0x37#8]
    t.regs.a = 0x01#8 ∧ t.regs.f = 0x01#8 := by decide

theorem test_srl_a_01 :
    let t := ran { start with regs.a := 0x01#8 } [0xCB#8, 0x3F#8]
    t.regs.a = 0x00#8 ∧ t.regs.f = 0x45#8 := by decide

theorem test_rlc_hl_80 :
    let t := ran { start with regs.h := 0x90#8, mem := [(0x9000, 0x80#8)] } [0xCB#8, 0x06#8]
    t.regs.f = 0x01#8 ∧ t.tacts = 15 ∧ t.byteAt 0x9000#16 = 0x01#8 := by decide

theorem test_bit_7_a_80 :
    let t := ran { start with regs.a := 0x80#8, regs.f := 0x01#8 } [0xCB#8, 0x7F#8]
    t.regs.f = 0x91#8 ∧ t.tacts = 8 := by decide

theorem test_bit_3_hl_wz_2800 :
    let t := ran { start with
        regs.h := 0x90#8, wz := 0x2800#16, mem := [(0x9000, 0x08#8)] } [0xCB#8, 0x5E#8]
    t.regs.f = 0x38#8 ∧ t.tacts = 12 := by decide

theorem test_res_0_a_ff :
    let t := ran { start with regs.a := 0xFF#8, regs.f := 0xD7#8 } [0xCB#8, 0x87#8]
    t.regs.a = 0xFE#8 ∧ t.regs.f = 0xD7#8 := by decide

theorem test_set_7_hl :
    let t := ran { start with regs.h := 0x90#8 } [0xCB#8, 0xFE#8]
    t.tacts = 15 := by decide

theorem test_rlc_ix_plus_1_b :
    let t := ran { start with ix := 0x9000#16, mem := [(0x9001, 0x81#8)] } [0xDD#8, 0xCB#8, 0x01#8, 0x00#8]
    t.regs.b = 0x03#8 ∧ t.regs.f = 0x05#8 ∧ t.wz = 0x9001#16 ∧ t.pc = 0x0004#16 ∧ t.tacts = 23 ∧ t.rReg = 0x02#8 ∧
      t.byteAt 0x9001#16 = 0x03#8 ∧
      lastCalls 6 t = [(.memRead, 0x0000#16, 0xDD#8), (.memRead, 0x0001#16, 0xCB#8), (.memRead, 0x0002#16,
      0x01#8), (.memRead, 0x0003#16, 0x00#8), (.memRead, 0x9001#16, 0x81#8), (.memWrite, 0x9001#16,
      0x03#8)] := by decide

theorem test_bit_7_iy_minus_1 :
    let t := ran { start with iy := 0x2801#16, mem := [(0x2800, 0x80#8)] } [0xFD#8, 0xCB#8, 0xFF#8, 0x7E#8]
    t.regs.f = 0xB8#8 ∧ t.wz = 0x2800#16 ∧ t.tacts = 20 := by decide

theorem test_set_0_ix_plus_0 :
    let t := ran { start with ix := 0x9000#16 } [0xDD#8, 0xCB#8, 0x00#8, 0xC6#8]
    t.tacts = 23 ∧ t.byteAt 0x9000#16 = 0x01#8 := by decide

theorem test_in_b_c :
    let t := ran { start with
        regs.b := 0x12#8, regs.c := 0x34#8, regs.f := 0x01#8 } [0xED#8, 0x40#8]
    t.regs.b = 0xFF#8 ∧ t.regs.f = 0xAD#8 ∧ t.wz = 0x1235#16 ∧ t.tacts = 12 ∧ t.rReg = 0x02#8 := by decide

theorem test_out_c_a :
    let t := ran { start with
        regs.b := 0x12#8, regs.c := 0x34#8, regs.a := 0x56#8 } [0xED#8, 0x79#8]
    t.wz = 0x1235#16 ∧ t.tacts = 12 := by decide

theorem test_sbc_hl_de_0000_minus_0001 :
    let t := ran { start with regs.e := 0x01#8 } [0xED#8, 0x52#8]
    t.regs.h = 0xFF#8 ∧ t.regs.l = 0xFF#8 ∧ t.regs.f = 0xBB#8 ∧ t.wz = 0x0001#16 ∧ t.tacts = 15 := by decide

theorem test_adc_hl_bc_7fff_plus_0001 :
    let t := ran { start with
        regs.h := 0x7F#8, regs.l := 0xFF#8, regs.c := 0x01#8 } [0xED#8, 0x4A#8]
    t.regs.h = 0x80#8 ∧ t.regs.l = 0x00#8 ∧ t.regs.f = 0x94#8 ∧ t.tacts = 15 := by decide

theorem test_ld_nn_sp :
    let t := ran { start with sp := 0xBEEF#16 } [0xED#8, 0x73#8, 0x00#8, 0x90#8]
    t.wz = 0x9001#16 ∧ t.tacts = 20 ∧ t.byteAt 0x9000#16 = 0xEF#8 ∧ t.byteAt 0x9001#16 = 0xBE#8 := by decide

theorem test_ld_bc_nn :
    let t := ran { start with mem := [(0x9000, 0x34#8), (0x9001, 0x12#8)] } [0xED#8, 0x4B#8, 0x00#8, 0x90#8]
    t.regs.b = 0x12#8 ∧ t.regs.c = 0x34#8 ∧ t.wz = 0x9001#16 ∧ t.tacts = 20 := by decide

theorem test_neg_01 :
    let t := ran { start with regs.a := 0x01#8 } [0xED#8, 0x44#8]
    t.regs.a = 0xFF#8 ∧ t.regs.f = 0xBB#8 ∧ t.tacts = 8 := by decide

theorem test_retn :
    let t := ran { start with
        sp := 0x8000#16, iff2 := true, mem := [(0x8000, 0x34#8), (0x8001, 0x12#8)] } [0xED#8, 0x45#8]
    t.pc = 0x1234#16 ∧ t.sp = 0x8002#16 ∧ t.iff1 = true ∧ t.iff2 = true ∧ t.wz = 0x1234#16 ∧ t.tacts = 14 := by decide

theorem test_reti :
    let t := ran { start with
        sp := 0x8000#16, iff2 := false, iff1 := true
        mem := [(0x8000, 0x34#8), (0x8001, 0x12#8)] } [0xED#8, 0x4D#8]
    t.pc = 0x1234#16 ∧ t.iff1 = false ∧ t.iff2 = false ∧ t.tacts = 14 := by decide

theorem test_im_2 :
    let t := ran start [0xED#8, 0x5E#8]
    t.im = .im2 ∧ t.tacts = 8 := by decide

theorem test_ld_i_a :
    let t := ran { start with regs.a := 0x3F#8, regs.f := 0xFF#8 } [0xED#8, 0x47#8]
    t.iReg = 0x3F#8 ∧ t.regs.f = 0xFF#8 ∧ t.tacts = 9 := by decide

theorem test_ld_r_a :
    let t := ran { start with regs.a := 0xFF#8 } [0xED#8, 0x4F#8]
    t.rReg = 0xFF#8 ∧ t.tacts = 9 := by decide

theorem test_ld_a_i_iff2_1 :
    let t := ran { start with iReg := 0x80#8, iff2 := true, regs.f := 0xFF#8 } [0xED#8, 0x57#8]
    t.regs.a = 0x80#8 ∧ t.regs.f = 0x85#8 ∧ t.tacts = 9 := by decide

theorem test_ld_a_r :
    let t := ran { start with regs.f := 0x00#8 } [0xED#8, 0x5F#8]
    t.regs.a = 0x02#8 ∧ t.regs.f = 0x00#8 := by decide

theorem test_rrd :
    let t := ran { start with
        regs.a := 0x84#8, regs.h := 0x90#8, mem := [(0x9000, 0x20#8)] } [0xED#8, 0x67#8]
    t.regs.a = 0x80#8 ∧ t.regs.f = 0x80#8 ∧ t.wz = 0x9001#16 ∧ t.tacts = 18 ∧ t.byteAt 0x9000#16 = 0x42#8 := by decide

theorem test_rld :
    let t := ran { start with
        regs.a := 0x7A#8, regs.h := 0x90#8, mem := [(0x9000, 0x31#8)] } [0xED#8, 0x6F#8]
    t.regs.a = 0x73#8 ∧ t.regs.f = 0x20#8 ∧ t.wz = 0x9001#16 ∧ t.tacts = 18 ∧ t.byteAt 0x9000#16 = 0x1A#8 := by decide

theorem test_ldi :
    let t := ran { start with
        regs.h := 0x90#8, regs.d := 0xA0#8, regs.c := 0x02#8, regs.a := 0x00#8, regs.f := 0xFF#8
        mem := [(0x9000, 0x0A#8)] } [0xED#8, 0xA0#8]
    t.hl = 0x9001#16 ∧ t.de = 0xA001#16 ∧ t.bc = 0x0001#16 ∧ t.regs.f = 0xED#8 ∧ t.tacts = 16 ∧
      t.byteAt 0xA000#16 = 0x0A#8 := by decide

theorem test_ldd_bc_1 :
    let t := ran { start with
        regs.h := 0x90#8, regs.d := 0xA0#8, regs.c := 0x01#8, mem := [(0x9000, 0x20#8)] } [0xED#8, 0xA8#8]
    t.hl = 0x8FFF#16 ∧ t.de = 0x9FFF#16 ∧ t.bc = 0x0000#16 ∧ t.regs.f = 0x00#8 := by decide

theorem test_ldir_bc_2_1st_iter :
    let t := ran { start with
        regs.h := 0x90#8, regs.d := 0xA0#8, regs.c := 0x02#8 } [0xED#8, 0xB0#8]
    t.hl = 0x9001#16 ∧ t.de = 0xA001#16 ∧ t.bc = 0x0001#16 ∧ t.pc = 0x0000#16 ∧ t.wz = 0x0001#16 ∧
      t.regs.f = 0x04#8 ∧ t.tacts = 21 := by decide

theorem test_ldir_bc_1_last :
    let t := ran { start with
        regs.h := 0x90#8, regs.d := 0xA0#8, regs.c := 0x01#8 } [0xED#8, 0xB0#8]
    t.hl = 0x9001#16 ∧ t.de = 0xA001#16 ∧ t.bc = 0x0000#16 ∧ t.pc = 0x0002#16 ∧ t.regs.f = 0x00#8 ∧
      t.tacts = 16 := by decide

theorem test_cpi_match :
    let t := ran { start with
        regs.a := 0x3B#8, regs.h := 0x90#8, regs.c := 0x01#8, wz := 0x1000#16
        mem := [(0x9000, 0x3B#8)] } [0xED#8, 0xA1#8]
    t.hl = 0x9001#16 ∧ t.bc = 0x0000#16 ∧ t.regs.f = 0x42#8 ∧ t.wz = 0x1001#16 ∧ t.tacts = 16 := by decide

theorem test_cpd :
    let t := ran { start with
        regs.a := 0x00#8, regs.h := 0x90#8, regs.c := 0x02#8, wz := 0x1000#16
        mem := [(0x9000, 0x01#8)] } [0xED#8, 0xA9#8]
    t.hl = 0x8FFF#16 ∧ t.bc = 0x0001#16 ∧ t.regs.f = 0xBE#8 ∧ t.wz = 0x0FFF#16 := by decide

theorem test_cpir_nomatch_bc_2 :
    let t := ran { start with
        regs.a := 0x55#8, regs.h := 0x90#8, regs.c := 0x02#8 } [0xED#8, 0xB1#8]
    t.hl = 0x9001#16 ∧ t.bc = 0x0001#16 ∧ t.pc = 0x0000#16 ∧ t.wz = 0x0001#16 ∧ t.regs.f = 0x06#8 ∧
      t.tacts = 21 := by decide

theorem test_cpir_match_bc_2 :
    let t := ran { start with
        regs.a := 0x00#8, regs.h := 0x90#8, regs.c := 0x02#8 } [0xED#8, 0xB1#8]
    t.hl = 0x9001#16 ∧ t.bc = 0x0001#16 ∧ t.pc = 0x0002#16 ∧ t.regs.f = 0x46#8 ∧ t.tacts = 16 := by decide

theorem test_ini :
    let t := ran { start with
        regs.b := 0x02#8, regs.c := 0xFE#8, regs.h := 0x90#8 } [0xED#8, 0xA2#8]
    t.regs.b = 0x01#8 ∧ t.hl = 0x9001#16 ∧ t.regs.f = 0x13#8 ∧ t.wz = 0x02FF#16 ∧ t.tacts = 16 ∧
      t.byteAt 0x9000#16 = 0xFF#8 ∧
      lastCalls 2 t = [(.portRead, 0x02FE#16, 0xFF#8), (.memWrite, 0x9000#16, 0xFF#8)] := by decide

theorem test_ind_b_1 :
    let t := ran { start with
        regs.b := 0x01#8, regs.c := 0x00#8, regs.h := 0x90#8 } [0xED#8, 0xAA#8]
    t.regs.b = 0x00#8 ∧ t.hl = 0x8FFF#16 ∧ t.regs.f = 0x57#8 ∧ t.wz = 0x00FF#16 := by decide

theorem test_inir_b_2 :
    let t := ran { start with
        regs.b := 0x02#8, regs.c := 0xFE#8, regs.h := 0x90#8 } [0xED#8, 0xB2#8]
    t.regs.b = 0x01#8 ∧ t.hl = 0x9001#16 ∧ t.pc = 0x0000#16 ∧ t.regs.f = 0x13#8 ∧ t.tacts = 21 := by decide

theorem test_outi :
    let t := ran { start with
        regs.b := 0x02#8, regs.c := 0xFE#8, regs.h := 0x90#8, mem := [(0x9000, 0x80#8)] } [0xED#8, 0xA3#8]
    t.regs.b = 0x01#8 ∧ t.hl = 0x9001#16 ∧ t.regs.f = 0x06#8 ∧ t.wz = 0x01FF#16 ∧ t.tacts = 16 ∧
      lastCalls 2 t = [(.memRead, 0x9000#16, 0x80#8), (.portWrite, 0x01FE#16, 0x80#8)] := by decide

theorem test_outd :
    let t := ran { start with
        regs.b := 0x01#8, regs.c := 0xFE#8, regs.h := 0x90#8, regs.l := 0x00#8
        mem := [(0x9000, 0x01#8)] } [0xED#8, 0xAB#8]
    t.regs.b = 0x00#8 ∧ t.hl = 0x8FFF#16 ∧ t.regs.f = 0x55#8 ∧ t.wz = 0x00FD#16 := by decide

theorem test_otir_b_2 :
    let t := ran { start with
        regs.b := 0x02#8, regs.c := 0xFE#8, regs.h := 0x90#8 } [0xED#8, 0xB3#8]
    t.regs.b = 0x01#8 ∧ t.hl = 0x9001#16 ∧ t.pc = 0x0000#16 ∧ t.regs.f = 0x04#8 ∧ t.tacts = 21 := by decide

theorem test_ed_00_undefined :
    let t := ran start [0xED#8, 0x00#8]
    t.pc = 0x0002#16 ∧ t.tacts = 8 ∧ t.rReg = 0x02#8 := by decide

theorem test_dd_ed_4a_index_dropped :
    let t := ran { start with
        ix := 0x1000#16, regs.h := 0x00#8, regs.l := 0x01#8, regs.c := 0x01#8 } [0xDD#8, 0xED#8, 0x4A#8]
    t.hl = 0x0002#16 ∧ t.ix = 0x1000#16 ∧ t.regs.f = 0x00#8 ∧ t.tacts = 19 ∧ t.rReg = 0x03#8 := by decide

/-! ## Signals, interrupts, halt and reset: section 2.3 and 1.6 of 95_test_vectors.md, one step each -/

/-- One step. -/
def next (s : State) : State :=
  match step s with
  | .next t => t
  | .fault _ => State.reset
  | .refused _ => State.reset

/-- The launch of S1. -/
def launch : State := { start with pc := 0x1234#16, iff1 := true, iff2 := true, sp := 0x8000#16, sig.int := true }

theorem test_s1_mode_2 :
    let t := next { launch with im := .im2, iReg := 0x80#8, mem := [(0x80FF, 0x78#8), (0x8100, 0x56#8)] }
    t.pc = 0x5678#16 ∧ t.sp = 0x7FFE#16 ∧ t.wz = 0x5678#16 ∧ t.iff1 = false ∧ t.iff2 = false ∧ t.tacts = 19 ∧
      t.rReg = 0x00#8 ∧ lastCalls 9 t = [(.memWrite, 0x7FFF#16, 0x12#8), (.memWrite, 0x7FFE#16, 0x34#8),
        (.memRead, 0x80FF#16, 0x78#8), (.memRead, 0x8100#16, 0x56#8)] := by decide

theorem test_s2_mode_2_wraps :
    let t := next { launch with im := .im2, iReg := 0xFF#8, mem := [(0x0000, 0x56#8), (0xFFFF, 0x78#8)] }
    t.pc = 0x5678#16 ∧ t.tacts = 19 := by decide

theorem test_s3_interrupt_out_of_halt :
    let t := next { launch with pc := 0x0100#16, sig := { int := true, halted := true, reset := false, nmi := false } }
    t.pc = 0x0038#16 ∧ t.sp = 0x7FFE#16 ∧ t.sig = { int := true, halted := false, reset := false, nmi := false } ∧
      t.tacts = 13 ∧ t.byteAt 0x7FFF#16 = 0x01#8 ∧ t.byteAt 0x7FFE#16 = 0x01#8 := by decide

theorem test_s4_halt_masks_nmi_and_reset :
    let t := next { start with pc := 0x0100#16, sig := { int := false, halted := true, reset := true, nmi := true } }
    t.pc = 0x0100#16 ∧ t.tacts = 4 ∧ t.rReg = 0x01#8 ∧ t.log = [] ∧
      t.sig = { int := false, halted := true, reset := true, nmi := true } := by decide

theorem test_s5_nmi :
    let t := next { start with pc := 0x1234#16, iff1 := true, sp := 0x8000#16, sig.nmi := true }
    t.pc = 0x0066#16 ∧ t.sp = 0x7FFE#16 ∧ t.wz = 0x0066#16 ∧ t.iff1 = false ∧ t.iff2 = true ∧ t.sig.nmi = false ∧
      t.tacts = 11 ∧ t.byteAt 0x7FFF#16 = 0x12#8 ∧ t.byteAt 0x7FFE#16 = 0x34#8 := by decide

theorem test_s6_int_wins_then_reset :
    let s := { launch with sig := { int := true, halted := false, reset := true, nmi := true } }
    (next s).pc = 0x0038#16 ∧ (next s).tacts = 13 ∧ (next s).sig = s.sig ∧ (next s).iff1 = false ∧
      (next { s with iff1 := false }).pc = 0x0000#16 ∧ (next { s with iff1 := false }).tacts = 0 ∧
      (next { s with iff1 := false }).sig = State.reset.sig := by decide

theorem test_s7_nmi_keeps_the_latch :
    let t := next { start with
      pc := 0x0001#16, ix := 0xAAAA#16, sp := 0x8000#16, indexMode := .ix, inOp := true, blocked := true, sig.nmi := true }
    t.pc = 0x0066#16 ∧ t.indexMode = .ix ∧ t.blocked = true ∧ t.byteAt 0x7FFE#16 = 0x01#8 := by decide

/-- 1.6: the interrupt waits for the opcode after `DD`, and is taken after it. -/
theorem test_interrupt_blocked_after_prefix :
    let s := { launch with pc := 0x0001#16, indexMode := .ix, inOp := true, blocked := true }
    (next s).pc = 0x0002#16 ∧ (next s).blocked = false ∧ (next s).iff1 = true ∧ (next s).indexMode = .none ∧
      (next { launch with pc := 0x0002#16 }).pc = 0x0038#16 := by decide

/-- 1.8: the reset signal keeps the registers reset does not name. -/
theorem test_reset_signal :
    let t := next { start with
      regs.a := 0x42#8, pc := 0x0002#16, iReg := 0x12#8, iff1 := true, im := .im2, sp := 0x1111#16, sig.reset := true }
    t.regs.a = 0x42#8 ∧ t.pc = 0x0000#16 ∧ t.tacts = 0 ∧ t.iff1 = false ∧ t.im = .im0 ∧ t.iReg = 0x00#8 ∧
      t.sp = 0x1111#16 ∧ t.sig = State.reset.sig := by decide

/-! ## The Bus as a parameter (R61, R66, R67): totals are the rules' own plus the delay of each call -/

/-- A platform: ROM in the low quarter, a device at C000, and its two delays. -/
def platform (memDelay portDelay : BusDelay) : State :=
  { start with
    pc := 0x4000#16, regs.a := 0x5A#8
    cfg.bus := { windows := [⟨0x0000#16, 0x4000, .rom⟩, ⟨0xC000#16, 1, .device⟩], memDelay := memDelay, portDelay := portDelay } }

/-- `LD (nn),A` (13 tacts, four calls) into ROM: the call is made, nothing is stored, WZ follows R211; into RAM it is. -/
theorem test_bus_rom :
    let t := ran (platform (.constant 0) (.constant 4)) [0x32#8, 0xFF#8, 0x3F#8]
    t.byteAt 0x3FFF#16 = 0x00#8 ∧ lastCalls 1 t = [(.memWrite, 0x3FFF#16, 0x5A#8)] ∧ t.tacts = 13 ∧ t.wz = 0x5A00#16 ∧
      (ran (platform (.constant 0) (.constant 4)) [0x32#8, 0x00#8, 0x50#8]).byteAt 0x5000#16 = 0x5A#8 := by decide

/-- `LD A,(nn)` from a device: A takes whatever the device answers to the fourth call of the run. -/
theorem test_bus_device : ∃ t, step ((platform (.constant 0) (.constant 4)).pokeBytes 0x4000#16 [0x3A#8, 0x00#8, 0xC0#8]) = .next t ∧
    t.regs.a = Config.deviceByte 3 0xC000#16 ∧ t.wz = 0xC001#16 :=
  ⟨_, rfl, rfl, rfl⟩

/-- `JR e` whose displacement a device gives, without contention: six reads of one address in one cycle (R322), each with its
own answer (R60). -/
theorem test_bus_device_answers_each_read :
    let s := { platform (.constant 0) (.constant 4) with cfg.useGateArrayContention := false, pc := 0xBFFF#16, mem := [(0xBFFF, 0x18#8)] }
    ∃ t, step s = .next t ∧ (t.log.take 6).map (fun c => (c.address, c.value)) =
      [6, 5, 4, 3, 2, 1].map (fun n => (0xC000#16, Config.deviceByte n 0xC000#16)) ∧ t.tacts = 12 :=
  ⟨_, rfl, rfl, rfl⟩

/-- The tact constants are parameters (R4): a fetch of 5 and an access of 2 make `LD (nn),A` 5 + 3 * 2. -/
theorem test_tact_constants :
    let t := ran { start with regs.a := 0x5A#8, cfg.tact := { TactConstants.written with fetch := 5, access := 2 } }
      [0x32#8, 0x00#8, 0x50#8]
    t.tacts = 11 ∧ t.log.map BusCall.tacts = [9, 7, 5, 0] ∧ t.byteAt 0x5000#16 = 0x5A#8 := by decide

/-- Contended memory that adds 1 tact a call: 13 + 4, the calls at 0, 5, 9 and 13. -/
theorem test_bus_contended_memory :
    let t := ran (platform (.constant 1) (.constant 4)) [0x32#8, 0xFF#8, 0x3F#8]
    t.tacts = 17 ∧ t.log.map BusCall.tacts = [13, 9, 5, 0] := by decide

/-- `OUT (n),A` (7 tacts and the port's own) where the platform delays port calls: it answers from the port and the tacts. -/
theorem test_bus_platform_port : ∃ t, step ((platform (.constant 0) .platform).pokeBytes 0x4000#16 [0xD3#8, 0xFE#8]) = .next t ∧
    t.tacts = 7 + Config.platformPortDelay 0x5AFE#16 7 := by
  refine ⟨_, rfl, ?_⟩
  show 7 + (0 + Config.platformPortDelay 0x5AFE#16 7) = _
  omega


/-! ## One witness for each hypothesis of the obligations, at the boundary of its range where it has one -/

/-- Operand bytes at `PC`. -/
def operands (bytes : List Byte) : State := State.reset.pokeBytes 0x0000#16 bytes

/-- Every statement that names tacts: the state after reset and the launch have the constants as written. -/
theorem witness_written_tacts : State.reset.WrittenTacts ∧ start.WrittenTacts ∧ (operands [0x00#8]).WrittenTacts :=
  ⟨rfl, rfl, rfl⟩

/-- IncDecMemory: the effective address wraps below zero. -/
theorem witness_inc_dec_memory : ∃ (s : State) (ea : Word), ea = s.effective .ix (s.byteAt s.pc) ∧ ea = 0xFF80#16 ∧
    s.WrittenTacts :=
  ⟨operands [0x80#8], _, rfl, by decide, rfl⟩

/-- AccumulatorOps: the four results at `A = 81`. -/
theorem witness_accumulator_rotates : ∃ (s : State) (a b c d : Byte),
    a = (s.regs.a <<< 1) ||| (s.regs.a >>> 7) ∧ b = (s.regs.a >>> 1) ||| (s.regs.a <<< 7) ∧
    c = (s.regs.a <<< 1) ||| (s.regs.f &&& flagC) ∧ d = (s.regs.a >>> 1) ||| (s.regs.f <<< 7) ∧ a = 0x03#8 :=
  ⟨{ State.reset with regs.a := 0x81#8 }, _, _, _, _, rfl, rfl, rfl, rfl, by decide⟩

/-- RelativeJumps: displacement −128, a condition that holds and one that does not. -/
theorem witness_relative_jumps : ∃ (s : State) (e : Byte) (target : Word),
    e = s.byteAt s.pc ∧ target = s.pc + 1#16 + signExtend16 e ∧ target = 0xFF81#16 ∧
    relHolds s.regs.f .nz = true ∧ relHolds s.regs.f .z = false ∧ s.regs.b ≠ 1#8 ∧
    s.WrittenTacts :=
  ⟨operands [0x80#8], _, _, rfl, rfl, by decide, by decide, by decide, by decide, rfl⟩

theorem witness_djnz_last : ∃ (s : State) (e : Byte) (target : Word),
    e = s.byteAt s.pc ∧ target = s.pc + 1#16 + signExtend16 e ∧ s.regs.b = 1#8 ∧
    s.WrittenTacts :=
  ⟨{ operands [0x7F#8] with regs.b := 1#8 }, _, _, rfl, rfl, rfl, rfl⟩

/-- CallsAndRestarts and Returns: each condition code holds somewhere and fails somewhere. -/
theorem witness_conditions : ∀ cc : Cond, (∃ s : State, condHolds s.regs.f cc = true ∧ s.WrittenTacts) ∧
    (∃ s : State, condHolds s.regs.f cc = false ∧ s.WrittenTacts) := by
  intro cc
  cases cc
  all_goals first
    | exact ⟨⟨State.reset, rfl, rfl⟩, ⟨{ State.reset with regs.f := 0xFF#8 }, rfl, rfl⟩⟩
    | exact ⟨⟨{ State.reset with regs.f := 0xFF#8 }, rfl, rfl⟩, ⟨State.reset, rfl, rfl⟩⟩

/-- PortInputAndOutput: an answer that is held, and one that is the environment's. -/
theorem witness_ports : ∃ (s : State) (n v : Byte) (port : Word) (t : State), n = s.byteAt s.pc ∧ port = pairOf s.regs.a n ∧
    v = s.portAnswer s.bc ∧ v = 0xFF#8 ∧ t = { s with
      regs.f := logicFlags v ||| (s.regs.f &&& flagC), wz := s.bc + 1#16, tacts := s.tacts + (8 - 8) + s.portDelay
      portInputs := s.portInputs.tail, portReads := s.portReads + 1, log := portR s.bc v s.tacts :: s.log } ∧
    s.WrittenTacts :=
  ⟨start, _, _, _, _, rfl, rfl, rfl, by decide, rfl, rfl⟩

/-- IndexedMemoryMoves, RotateAndShiftMemory, BitTests, ResetAndSetMemoryBit: displacement −1 wraps below zero. -/
theorem witness_effective_address : ∃ (s : State) (ea ea' : Word) (v v' : Byte) (c : Bool),
    ea = s.xy .iy + (s.byteAt s.pc).signExtend 16 ∧ ea' = s.xy .iy + s.disp.signExtend 16 ∧ v = s.byteAt s.hl ∧
    v' = s.byteAt ea' ∧ c = carryOf s.regs.f ∧ ea = 0xFFFF#16 ∧ ea' = 0xFFFF#16 ∧
    s.WrittenTacts :=
  ⟨{ operands [0xFF#8] with disp := 0xFF#8 }, _, _, _, _, _, rfl, rfl, rfl, rfl, rfl, by decide, by decide, rfl⟩

/-- NibbleRotates. -/
theorem witness_nibble_rotates : ∃ (s : State) (m a w x w' x' : Byte), m = s.byteAt s.hl ∧ a = s.regs.a ∧
    w.toNat = 16 * (a.toNat % 16) + m.toNat / 16 ∧ x.toNat = 16 * (a.toNat / 16) + m.toNat % 16 ∧
    w'.toNat = 16 * (m.toNat % 16) + a.toNat % 16 ∧ x'.toNat = 16 * (a.toNat / 16) + m.toNat / 16 ∧
    s.WrittenTacts :=
  ⟨{ State.reset with regs.a := 0xF1#8, mem := [(0, 0x2E#8)] }, 0x2E#8, 0xF1#8, 0x12#8, 0xFE#8, 0xE1#8, 0xF2#8,
    by decide, rfl, by decide, by decide, by decide, by decide, rfl⟩

/-- BlockTransfers: both directions; `BC` wraps from 0, and reaches 0 from 1. -/
theorem witness_block_transfers : ∃ (s : State) (dlt bc : Word) (v : Byte) (once rep : Instr),
    v = s.byteAt s.hl ∧ bc = s.bc - 1#16 ∧ bc = 0xFFFF#16 ∧
    (dlt = 1#16 ∧ once = .ldi ∧ rep = .ldir ∨ dlt = 0xFFFF#16 ∧ once = .ldd ∧ rep = .lddr) ∧
    s.WrittenTacts :=
  ⟨State.reset, 0xFFFF#16, _, _, .ldd, .lddr, rfl, rfl, by decide, .inr ⟨rfl, rfl, rfl⟩, rfl⟩

/-- BlockCompares: a match on the last byte. -/
theorem witness_block_compares : ∃ (s : State) (dlt bc : Word) (v r : Byte) (hf : Bool) (once rep : Instr),
    v = s.byteAt s.hl ∧ bc = s.bc - 1#16 ∧ r = s.regs.a - v ∧ hf = decide (s.regs.a.toNat % 16 < v.toNat % 16) ∧
    bc = 0#16 ∧ r = 0#8 ∧ (dlt = 1#16 ∧ once = .cpi ∧ rep = .cpir ∨ dlt = 0xFFFF#16 ∧ once = .cpd ∧ rep = .cpdr) ∧
    s.WrittenTacts :=
  ⟨{ State.reset with regs.c := 1#8 }, 1#16, _, _, _, _, .cpi, .cpir, rfl, rfl, rfl, rfl, by decide, by decide,
    .inl ⟨rfl, rfl, rfl⟩, rfl⟩

/-- BlockInputs: `C − 1` wraps, the last byte. -/
theorem witness_block_inputs : ∃ (s : State) (dlt : Word) (v b c' : Byte) (k dl : Nat) (once rep : Instr),
    v = s.portAnswer s.bc ∧ b = s.regs.b - 1#8 ∧ dl = s.portDelay ∧ k = v.toNat + c'.toNat ∧ b = 0#8 ∧
    (dlt = 1#16 ∧ c' = s.regs.c + 1#8 ∧ once = .ini ∧ rep = .inir ∨
      dlt = 0xFFFF#16 ∧ c' = s.regs.c - 1#8 ∧ once = .ind ∧ rep = .indr) ∧
    s.WrittenTacts :=
  ⟨{ start with regs.b := 1#8 }, 0xFFFF#16, _, _, 0xFF#8, _, _, .ind, .indr, rfl, rfl, rfl, rfl, by decide,
    .inr ⟨rfl, by decide, rfl, rfl⟩, rfl⟩

/-- BlockOutputs: `B` wraps from 0. -/
theorem witness_block_outputs : ∃ (s : State) (dlt bc : Word) (v b : Byte) (k dl : Nat) (once rep : Instr),
    v = s.byteAt s.hl ∧ b = s.regs.b - 1#8 ∧ bc = pairOf b s.regs.c ∧ dl = s.portDelay ∧
    k = v.toNat + (lowByte (s.hl + dlt)).toNat ∧ b = 0xFF#8 ∧
    (dlt = 1#16 ∧ once = .outi ∧ rep = .otir ∨ dlt = 0xFFFF#16 ∧ once = .outd ∧ rep = .otdr) ∧
    s.WrittenTacts :=
  ⟨State.reset, 1#16, _, _, _, _, _, .outi, .otir, rfl, rfl, rfl, rfl, rfl, by decide, .inl ⟨rfl, rfl, rfl⟩, rfl⟩

/-- PairsAreViewsOfHalves, and the results named in FlagTablesAndAluEngine, AddAndSubtractTables and
SixteenBitCarryTables, at the wrap. -/
theorem witness_named_results : XY.ix ≠ XY.iy ∧
    (∃ v r : Byte, r = v + 1#8 ∧ r = 0#8) ∧ (∃ v r : Byte, r = v - 1#8 ∧ v = 0x80#8) ∧
    (∃ (s : State) (a : Byte) (c : Bool), a = s.regs.a ∧ c = s.regs.f.getLsbD 0) ∧
    (∃ r : Byte, r = addResult true 0xFF#8 0x00#8 ∧ r = 0#8) ∧ (∃ r : Byte, r = subResult true 0x00#8 0xFF#8 ∧ r = 0#8) ∧
    (∃ r : Word, r = adc16Result 0x7FFF#16 0x0001#16 false ∧ r = 0x8000#16) ∧
    (∃ r : Word, r = sbc16Result 0x0000#16 0x0001#16 false ∧ r = 0xFFFF#16) :=
  ⟨by decide, ⟨0xFF#8, _, rfl, by decide⟩, ⟨0x80#8, _, rfl, rfl⟩, ⟨State.reset, _, _, rfl, rfl⟩, ⟨_, rfl, by decide⟩,
    ⟨_, rfl, by decide⟩, ⟨_, rfl, by decide⟩, ⟨_, rfl, by decide⟩⟩

/-- DecimalAdjust: the largest correction at the boundary 9A, and 99 and 99 in both directions. -/
theorem witness_decimal_adjust : (∃ (a r f : Byte) (corr : Nat), r = daaResult a false false false ∧
      f = daaFlags a false false false ∧ a = 0x9A#8 ∧
      corr = (if false = true ∨ 9 < a.toNat % 16 then 0x06 else 0) + (if false = true ∨ 0x99 < a.toNat then 0x60 else 0) ∧
      corr = 0x66) ∧
    ∃ (m n : Fin 100) (a b r f r' f' : Byte),
      a = BitVec.ofNat 8 (m.val / 10 * 16 + m.val % 10) ∧ b = BitVec.ofNat 8 (n.val / 10 * 16 + n.val % 10) ∧
      r = addResult false a b ∧ f = addFlags false a b ∧ r' = subResult false a b ∧ f' = subFlags false a b ∧ a = 0x99#8 :=
  ⟨⟨_, _, _, _, rfl, rfl, rfl, rfl, by decide⟩, 99, 99, _, _, _, _, _, _, rfl, rfl, rfl, rfl, rfl, rfl, by decide⟩

/-- MemoryReadAfterWrite: RAM, both ends of a ROM, a device, an address of no window, the default Bus. -/
theorem witness_memory : Memory.wf (platform (.constant 1) (.constant 4)).mem = true ∧ (0xFFFF#16 : Word) ≠ 0x0000#16 ∧
    ([0x0000#16, 0x3FFF#16, 0x4000#16, 0x7FFF#16, 0xC000#16, 0xC001#16].map
        (kindAt (platform (.constant 1) (.constant 4)).cfg.bus.windows) = [.rom, .rom, .ram, .ram, .device, .ram]) ∧
    (∃ n : Nat, n < 0x4000 ∧ n < 65536 ∧ 0x3FFF#16 = 0x0000#16 + BitVec.ofNat 16 n) ∧
    (∀ n : Nat, n < 1 → (0xC001#16 : Word) ≠ 0xC000#16 + BitVec.ofNat 16 n) ∧ start.cfg.bus = Bus.default :=
  ⟨by decide, by decide, by decide, ⟨0x3FFF, by decide⟩,
    fun n h => by obtain rfl : n = 0 := by omega
                  decide, rfl⟩

/-- BusPrimitives: a constant port delay and a platform's; a stack in RAM. -/
theorem witness_bus_delays : start.cfg.bus.portDelay = .constant 4 ∧ start.cfg.bus.portDelay ≠ .platform ∧
    start.cfg.bus.memDelay = .constant 0 ∧ (platform (.constant 1) (.constant 4)).cfg.bus.memDelay = .constant 1 ∧
    (platform (.constant 0) .platform).cfg.bus.portDelay = .platform ∧
    (platform (.constant 0) .platform).cfg.bus.memDelay = .constant 0 ∧
    (platform .platform .platform).cfg.bus.memDelay = .platform ∧
    kindAt start.cfg.bus.windows (start.sp - 1#16) = .ram ∧ kindAt start.cfg.bus.windows (start.sp - 2#16) = .ram := by decide

/-- BusPrimitives: a cycle that began with one call in the log and has made the calls of each clause. -/
theorem witness_bus_calls : ∀ (c : List BusCall),
    c ∈ [[portR 0xFFFF#16 0xFF#8 7], [portW 0xFFFF#16 0xFF#8 7], [portW 0x0000#16 0xFF#8 11, portR 0xFFFF#16 0xFF#8 7],
      [memR 0xFFFF#16 0xFF#8 7], [memW 0xFFFF#16 0xFF#8 7]] →
    ∃ (s : State) (old : List BusCall), s.log = c ++ old ∧ old.length = 1 :=
  fun c _ => ⟨{ platform .platform .platform with log := c ++ [memR 0x0000#16 0xDB#8 0] }, _, rfl, rfl⟩

/-- DecodeOfEncodeIsIdentity: well-formed, and no prefix byte. -/
theorem witness_decode_of_encode : Decoded.wf ⟨.ld_at_ixd_n, [0xFF#8, 0xCB#8]⟩ = true ∧
    Decoded.wf ⟨.prefix_dd, []⟩ = true ∧ Instr.ld_at_ixd_n ≠ .prefix_cb ∧ Instr.ld_at_ixd_n ≠ .prefix_dd ∧
    Instr.ld_at_ixd_n ≠ .prefix_ed ∧ Instr.ld_at_ixd_n ≠ .prefix_fd := by decide

/-- DecodedInstructionsAreWellFormed: the only byte that decodes to `NOP`. -/
theorem witness_same_row : decodeInstr .none .ix 0x00#8 = decodeInstr .none .ix 0x00#8 := rfl

/-- DecodedInstructionsAreWellFormed: inherited bytes at both ends of the range, the two exceptions of R100, `HALT` and a prefix
byte, an empty and a stacked list of redundant prefixes, each latch, and a run. -/
theorem witness_inherited : (∀ op ∈ [0x00#8, 0xFF#8, 0xEB#8, 0xD9#8, 0x76#8, 0xDD#8], op ∉ indexOverrides) ∧
    (∀ op ∈ [0x00#8, 0xFF#8, 0xEB#8, 0xD9#8, 0x76#8], isPrefixByte op = false) ∧
    (∀ pre ∈ [[], [0xDD#8], [0xFD#8, 0xDD#8]], ∀ b ∈ pre, b = 0xDD#8 ∨ b = 0xFD#8) ∧
    (∀ x : XY, ∃ im : IndexMode, x = .ix ∧ im = .ix ∨ x = .iy ∧ im = .iy) ∧
    ∃ t, exec (decodeInstr .none .none 0xEB#8) State.reset = .next t :=
  ⟨by decide, by decide, by decide, fun x => by cases x <;> first | exact ⟨.ix, .inl ⟨rfl, rfl⟩⟩ | exact ⟨.iy, .inr ⟨rfl, rfl⟩⟩,
    ⟨_, rfl⟩⟩

/-- ControlAndPrefixBytes: the two latches after which no byte is a prefix. -/
theorem witness_no_prefix : PrefixMode.bit ≠ .none ∧ PrefixMode.extended ≠ .none := ⟨nofun, nofun⟩

/-- A state between two cycles, with the latches of a prefix sequence. -/
def latched (pm : PrefixMode) (im : IndexMode) (bytes : List Byte) : State :=
  { operands bytes with prefixMode := pm, indexMode := im, inOp := true, blocked := true }

/-- StepRunsDecodedInstruction: a plain cycle, and the indexed bit cycle. -/
theorem witness_step_plain : ∃ (s : State) (d : Decoded) (rest : List Byte), s.signalStep = none ∧ s.missingTable = none ∧
    decodeCycle s.prefixMode s.indexMode
      [s.byteAt s.pc, s.byteAfter 1 (s.pc + 1#16), s.byteAfter 2 (s.pc + 2#16), s.byteAfter 3 (s.pc + 3#16)] = .ok (d, rest) ∧
    d.instr.wf = true ∧ ¬ (s.prefixMode = .bit ∧ s.indexMode ≠ .none) ∧
    s.WrittenTacts :=
  ⟨operands [0x06#8, 0x5A#8], ⟨.ld_b_n, [0x5A#8]⟩, [0x00#8, 0x00#8], rfl, rfl, rfl, rfl, by decide, rfl⟩

theorem witness_step_indexed_bit : ∃ (s : State) (d : Decoded) (rest : List Byte), s.signalStep = none ∧
    s.missingTable = none ∧ decodeCycle s.prefixMode s.indexMode
      [s.byteAt s.pc, s.byteAfter 1 (s.pc + 1#16), s.byteAfter 2 (s.pc + 2#16), s.byteAfter 3 (s.pc + 3#16)] = .ok (d, rest) ∧
    d.instr.wf = true ∧ (s.prefixMode = .bit ∧ s.indexMode ≠ .none) ∧
    s.WrittenTacts :=
  ⟨latched .bit .ix [0x01#8, 0xC6#8], ⟨.set_0_at_ixd, [0x01#8]⟩, [0x00#8, 0x00#8], rfl, rfl, rfl, rfl, by decide, rfl⟩

/-- TransitionTable: the four prefix bytes, a terminal opcode, and one after a latch. -/
theorem witness_transitions : (∀ b ∈ [0xDD#8, 0xFD#8, 0xCB#8, 0xED#8, 0x00#8],
      (operands [b]).signalStep = none ∧ (operands [b]).missingTable = none ∧ (operands [b]).prefixMode = .none ∧
      (operands [b]).byteAt (operands [b]).pc = b ∧ (operands [b]).nextInstr ≠ .ld_r_a) ∧
    ((latched .extended .none [0xDD#8]).signalStep = none ∧ (latched .extended .none [0xDD#8]).missingTable = none ∧
      (latched .extended .none [0xDD#8]).prefixMode ≠ .none) := by decide

/-- The same launch without the two tables. -/
def bare (pm : PrefixMode) : State := { latched pm .none [0xCB#8] with cfg.extTables := .unimplemented }

/-- EveryStepCompletes and UnimplementedSpaceFaults: each kind of latch. -/
theorem witness_tables : start.cfg.extTables = .z80Reference ∧
    (∀ pm ∈ [PrefixMode.none, .bit, .extended], (bare pm).cfg.extTables = .unimplemented ∧ (bare pm).signalStep = none ∧
      (bare pm).prefixMode = pm) := by decide

/-- StepKeepsInvariant and HostActionsKeepInvariant: a state in the middle of a prefixed instruction, and its step. -/
theorem witness_invariant_latched : Inv (latched .bit .iy [0x01#8, 0xC6#8]) ∧
    ∃ t, step (latched .bit .iy [0x01#8, 0xC6#8]) = .next t :=
  ⟨⟨by decide, by decide, by decide, by decide, by decide⟩, ⟨_, rfl⟩⟩

/-- A halted state. -/
def halted : State := { State.reset with sig.halted := true }

theorem witness_invariant_halted : Inv halted ∧ (∃ t, step halted = .next t) ∧ Memory.wf halted.mem = true :=
  ⟨⟨by decide, by decide, by decide, by decide, by decide⟩, ⟨_, rfl⟩, by decide⟩

/-- A state with every signal of the table of R522 set but the ones named. -/
def requested (int halted reset nmi : Bool) : State :=
  { State.reset with iff1 := true, sig := { int := int, halted := halted, reset := reset, nmi := nmi } }

/-- SignalPriority: one state for each of its five clauses. -/
theorem witness_signal_priority :
    ((requested true true true true).sig.int = true ∧ (requested true true true true).blocked = false ∧
      (requested true true true true).iff1 = true) ∧
    (∀ s ∈ [requested false true true true, requested false false true true, requested false false false true,
        requested false false false false], ¬ (s.sig.int = true ∧ s.blocked = false ∧ s.iff1 = true)) ∧
    (requested false true true true).sig.halted = true ∧
    ((requested false false true true).sig.halted = false ∧ (requested false false true true).sig.reset = true) ∧
    ((requested false false false true).sig.halted = false ∧ (requested false false false true).sig.reset = false ∧
      (requested false false false true).sig.nmi = true) ∧
    ((requested false false false false).sig.halted = false ∧ (requested false false false false).sig.reset = false ∧
      (requested false false false false).sig.nmi = false) := by decide

/-- InterruptAcknowledge: mode 2 with the vector byte FF, whose second address carries into the next page, and mode 1. -/
theorem witness_interrupt_acknowledge : ∃ (s t u v : State) (ret ret' a target : Word), t = s.interruptAck ∧
    ret = (if s.sig.halted then s.pc + 1#16 else s.pc) ∧ s.im = .im2 ∧ a = pairOf s.iReg s.cfg.intVectorByte ∧
    target = (s.push16 ret).wordAt a ∧ a = 0xFFFF#16 ∧
    v = u.interruptAck ∧ ret' = (if u.sig.halted then u.pc + 1#16 else u.pc) ∧ u.im ≠ .im2 ∧
    s.WrittenTacts ∧ u.WrittenTacts :=
  ⟨{ requested true true false false with im := .im2, iReg := 0xFF#8 }, _, { requested true false false false with im := .im1 },
    _, _, _, _, _, rfl, rfl, rfl, rfl, rfl, by decide, rfl, rfl, by decide, rfl, rfl⟩

/-- NmiEntrySequence. -/
theorem witness_nmi : ∃ (s t : State) (ret : Word), t = s.nmiEntry ∧ ret = (if s.sig.halted then s.pc + 1#16 else s.pc) ∧
    s.WrittenTacts :=
  ⟨requested false false false true, _, _, rfl, rfl, rfl⟩

/-- HaltedCore: halted, with a reset and an NMI pending. -/
theorem witness_halted_core : (requested false true true true).sig.halted = true ∧
    (requested false true true true).takesInt = false := by decide

/-- InterruptHoldOff: an ordinary step, a held-off state with a request, and each kind of signal step. -/
theorem witness_hold_off : (∃ t, step (operands [0xFB#8]) = .next t ∧ (operands [0xFB#8]).signalStep = none) ∧
    (∃ t, step { requested true false false false with blocked := true } = .next t) ∧
    (∀ s ∈ [requested true false false false, requested false true true true, requested false false false true],
      s.signalStep ≠ none ∧ (s.takesInt = true ∨ s.sig.halted = true ∨ s.sig.reset = false)) :=
  ⟨⟨_, rfl, rfl⟩, ⟨_, rfl⟩, by decide⟩

/-- ResetAndHostActions: memory of each kind, and held inputs or none. -/
theorem witness_host_actions : kindAt start.cfg.bus.windows 0xFFFF#16 ≠ .device ∧ (0xFFFF#16 : Word) ≠ 0x0000#16 ∧
    Memory.wf start.mem = true ∧ State.reset.portInputs = [] ∧ start.portInputs = 0xFF#8 :: [0xFF#8] := by decide

/-- ResetAndHostActions: the reset signal wins over the NMI. -/
theorem witness_reset_signal : (requested false false true true).sig.reset = true ∧
    (requested false false true true).sig.halted = false ∧ (requested false false true true).takesInt = false := by decide

/-- SystemRegisterWriters: a step of another instruction. -/
theorem witness_system_registers : ∃ s t : State, step s = .next t ∧ s.signalStep = none ∧ s.nextInstr ≠ .ld_i_a ∧
    (∀ m y, s.nextInstr ≠ Instr.im m y) ∧ s.nextInstr ≠ .ld_r_a ∧ s.nextInstr ≠ .di ∧ s.nextInstr ≠ .ei ∧
    (∀ y, s.nextInstr ≠ .retn y) ∧ s.nextInstr ≠ .reti := by
  have e : (operands [0x76#8]).nextInstr = .halt := rfl
  refine ⟨operands [0x76#8], _, rfl, rfl, ?_⟩
  rw [e]
  exact ⟨nofun, fun m y => by cases m <;> exact nofun, nofun, nofun, nofun, nofun, nofun⟩

/-- ShadowsReachedByExchangesOnly. -/
theorem witness_shadows : Instr.ex_de_hl ≠ .ex_af_af ∧ Instr.ex_de_hl ≠ .exx := ⟨nofun, nofun⟩

/-- TactsAreNeverRead, ContentionModeChangesOnlyTheCalls, TactsAndCallsOnlyGrow: a step that answers a next state, one that is the
reset, and one that faults. -/
theorem witness_step_outcomes : (∃ t, step (operands [0x18#8, 0x05#8]) = .next t) ∧
    (∃ t, step (requested false false true false) = .next t) ∧
    step (bare .bit) = .fault (.unimplemented .cb 0x0000#16) ∧
    (operands [0x18#8, 0x05#8]).cfg.bus.memDelay ≠ .platform ∧ (operands [0x18#8, 0x05#8]).cfg.bus.portDelay ≠ .platform ∧
    (operands [0x18#8, 0x05#8]).cfg.bus.memDelay = .constant 0 ∧
    (operands [0x18#8, 0x05#8]).WrittenTacts :=
  ⟨⟨_, rfl⟩, ⟨_, rfl⟩, rfl, by decide, by decide, by decide, rfl⟩

/-- ContentionModeChangesOnlyTheCalls: a step that is no taken relative jump, a `JR Z` not taken, and one that is taken. -/
theorem witness_relative_jump_taken :
    ¬ ((operands [0x00#8]).signalStep = none ∧ TakenRelativeJump (operands [0x00#8]) (operands [0x00#8]).nextInstr) ∧
    ¬ ((operands [0x28#8]).signalStep = none ∧ TakenRelativeJump (operands [0x28#8]) (operands [0x28#8]).nextInstr) ∧
    (operands [0x20#8]).signalStep = none ∧ TakenRelativeJump (operands [0x20#8]) (operands [0x20#8]).nextInstr := by
  have e : (operands [0x00#8]).nextInstr = .nop := rfl
  have e' : (operands [0x28#8]).nextInstr = .jr_z_e := rfl
  refine ⟨?_, ?_, rfl, .inr (.inl ⟨.nz, rfl, by decide⟩)⟩
  · rw [e]
    rintro ⟨-, h | ⟨cc, h, -⟩ | ⟨h, -⟩⟩
    · cases h
    · cases cc <;> cases h
    · cases h
  · rw [e']
    rintro ⟨-, h | ⟨cc, h, hz⟩ | ⟨h, -⟩⟩
    · cases h
    · cases cc <;> first | cases h; done | exact absurd hz (by decide)
    · cases h

end Sys2Proof.Tests
end

section
/-! PROOFS. Memory behind the Bus: which window holds an address, what a device answers, and what a second write leaves.
Settles O37. -/

namespace Sys2Proof

/-! ## What stands at an address (R61, R67) -/

/-- The distance of an address from the base of a window that holds it at offset `n`. -/
theorem sub_base_toNat {a base : Word} {n : Nat} (hn : n < 65536) (h : a = base + BitVec.ofNat 16 n) :
    (a - base).toNat = n := by
  subst h
  rw [BitVec.add_comm, BitVec.add_sub_cancel, BitVec.toNat_ofNat, Nat.mod_eq_of_lt hn]

theorem kindAt_first {w : Window} (rest : List Window) {a : Word} {n : Nat} (hs : n < w.size) (hn : n < 65536)
    (h : a = w.base + BitVec.ofNat 16 n) : kindAt (w :: rest) a = w.kind := by
  rw [kindAt, if_pos (sub_base_toNat hn h ▸ hs)]

theorem kindAt_rest {w : Window} (rest : List Window) {a : Word}
    (h : ∀ n : Nat, n < w.size → a ≠ w.base + BitVec.ofNat 16 n) : kindAt (w :: rest) a = kindAt rest a := by
  have hout : ¬ (a - w.base).toNat < w.size := fun hlt => h _ hlt (by
    rw [BitVec.ofNat_toNat, BitVec.setWidth_eq, BitVec.add_comm, BitVec.sub_add_cancel])
  rw [kindAt, if_neg hout]

theorem Bus.writable_iff (b : Bus) (a : Word) : b.writable a = true ↔ kindAt b.windows a = .ram := by
  simp [Bus.writable]

end Sys2Proof

namespace Sys2Proof.Machine

variable (s : State)

/-- A device answers by the number of the call (R60). -/
theorem State.byteAfter_of_device {a : Word} (h : kindAt s.cfg.bus.windows a = .device) (n : Nat) :
    s.byteAfter n a = Config.deviceByte (s.log.length + n) a := by
  unfold State.byteAfter
  rw [h]

theorem State.byteAfter_eq_read {a : Word} (h : kindAt s.cfg.bus.windows a ≠ .device) (n : Nat) :
    s.byteAfter n a = Memory.read s.mem a.toNat := by
  unfold State.byteAfter
  cases hk : kindAt s.cfg.bus.windows a with
  | ram => rfl
  | rom => rfl
  | device => exact absurd hk h

/-- A write call moves a device on to its next answer, as a read call does. -/
theorem State.byteAfter_wr_of_device {a : Word} (h : kindAt s.cfg.bus.windows a = .device) (x : Word) (v : Byte) (n : Nat) :
    (s.wr x v).byteAfter n a = s.byteAfter (n + 1) a := by
  rw [State.byteAfter_of_device (s.wr x v) h, s.byteAfter_of_device h]
  exact congrArg (Config.deviceByte · a) (Nat.succ_add_eq_add_succ s.log.length n)

/-- The last of two changes of one byte is the one that every reader sees. -/
theorem State.byteAt_poke_poke (a x : Word) (v w : Byte) :
    ((s.poke a w).poke a v).byteAt x = (s.poke a v).byteAt x := by
  by_cases hx : x = a
  · subst hx
    by_cases hk : kindAt s.cfg.bus.windows x = .device
    · exact (State.byteAfter_of_device ((s.poke x w).poke x v) hk 0).trans
        (State.byteAfter_of_device (s.poke x v) hk 0).symm
    · rw [(s.poke x w).byteAt_poke_same x v hk, s.byteAt_poke_same x v hk]
  · exact (State.byteAfter_poke_other (s.poke a w) 0 v hx).trans
      ((State.byteAfter_poke_other s 0 w hx).trans (State.byteAfter_poke_other s 0 v hx).symm)

/-- The last of two writes to one address is the one that a reader of RAM or ROM sees. -/
theorem State.byteAt_wr_wr (a x : Word) (v w : Byte) (hx : kindAt s.cfg.bus.windows x ≠ .device) :
    ((s.wr a w).wr a v).byteAt x = (s.wr a v).byteAt x := by
  rw [(s.wr a w).byteAt_wr a x v hx, s.byteAt_wr a x w hx, s.byteAt_wr a x v hx]
  exact ite_congr rfl (fun _ => rfl) fun h => if_neg h

end Sys2Proof.Machine

open Sys2Proof Sys2Proof.Machine

/-- Settles O37, clause by clause from the laws of memory (Laws/Memory.lean) and of the windows above. -/
theorem memoryReadAfterWrite : Obligations.MemoryReadAfterWrite := by
  unfold Obligations.MemoryReadAfterWrite
  intro s a v n
  refine ⟨fun x hx => ?_, fun h => s.byteAfter_of_device h n,
    fun h => ⟨s.byteAfter_eq_read h n, s.byteAt_poke_same a v h⟩, rfl,
    fun x => ⟨s.rd_byteAfter x n a, fun h => s.byteAfter_wr_of_device h x v n⟩,
    fun x hx => s.byteAfter_poke_other n v hx, fun w x => ⟨s.byteAt_poke_poke a x v w, s.byteAt_wr_wr a x v w⟩,
    fun h => ⟨Memory.wf_write s.mem a v h, Bus.wf_store s.cfg.bus s.mem a v h⟩, rfl,
    fun w rest => ⟨fun ⟨i, hs, hi, ha⟩ => kindAt_first rest hs hi ha, kindAt_rest rest⟩, fun h => by rw [h]; rfl⟩
  · rw [s.byteAt_wr a x v hx]
    simp only [Bus.writable_iff]
end

section
/-! PROOFS. The bus primitives, the stack, and what the end of a cycle charges. Settles O38. -/

namespace Sys2Proof.Machine

/-! ## What the end of a cycle charges (R66, R67) -/

/-- What the memory and port interfaces see of a call: all but the stamp. -/
def BusCall.content (x : BusCall) : BusKind × Word × Byte := (x.kind, x.address, x.value)

/-- How many calls of the memory interface a list holds. -/
def memCalls (l : List BusCall) : Nat := (l.filter fun x => x.kind == .memRead || x.kind == .memWrite).length

theorem memCalls_of_contents {l m : List BusCall} (h : l.map BusCall.content = m.map BusCall.content) :
    memCalls l = memCalls m := by
  have hf : ∀ x : List BusCall, memCalls x =
      ((x.map BusCall.content).filter fun t => t.1 == .memRead || t.1 == .memWrite).length := by
    intro x
    rw [List.filter_map, List.length_map]
    rfl
  rw [hf, hf, h]

/-- A constant memory delay is charged once for each memory call, and a port delay that is no platform's not at all. -/
theorem Bus.retime_tacts {b : Bus} {d : Nat} (hm : b.memDelay = .constant d) (hp : b.portDelay ≠ .platform)
    (l : List BusCall) : (b.retime l).2 = d * memCalls l := by
  induction l with
  | nil => rfl
  | cons x rest ih =>
    simp only [Bus.retime, ih, Bus.callTacts, Bus.memTacts, Bus.lateTacts, hm]
    cases hk : b.portDelay with
    | constant p => cases hx : x.kind <;> simp [memCalls, hx, Nat.mul_add]
    | platform => exact absurd hk hp

/-- The end of a cycle moves stamps only. -/
theorem State.settle_contents (s : State) (b : Nat) :
    (s.settle b).log.map BusCall.content = s.log.map BusCall.content := by
  have hr : ∀ l, (s.cfg.bus.retime l).1.map BusCall.content = l.map BusCall.content := Bus.retime_calls s.cfg.bus
  simp only [State.settle, List.map_append, hr]
  rw [← List.map_append, List.take_append_drop]

/-- The only call of a cycle keeps its stamp, and its own tacts are the sum. -/
theorem Bus.retime_one (b : Bus) (x : BusCall) : b.retime [x] = ([x], b.callTacts x) := by
  simp [Bus.retime]

/-- The second call of a cycle is stamped later by what the first one added. -/
theorem Bus.retime_two (b : Bus) (x first : BusCall) :
    b.retime [x, first] = ([{ x with tacts := x.tacts + b.callTacts first }, first],
      b.callTacts first + b.callTacts { x with tacts := x.tacts + b.callTacts first }) := by
  rw [Bus.retime, Bus.retime_one]

variable {b : Bus} (a : Word) (v : Byte) (t : Nat)

theorem Bus.callTacts_portR (h : b.portDelay = .platform) :
    b.callTacts (portR a v t) = Config.platformPortDelay a t := by
  simp [Bus.callTacts, Bus.lateTacts, h]

theorem Bus.callTacts_portW (h : b.portDelay = .platform) :
    b.callTacts (portW a v t) = Config.platformPortDelay a t := by
  simp [Bus.callTacts, Bus.lateTacts, h]

theorem Bus.callTacts_memR (h : b.memDelay = .platform) :
    b.callTacts (memR a v t) = Config.platformMemDelay a t := by
  simp [Bus.callTacts, Bus.memTacts, h]

theorem Bus.callTacts_memW (h : b.memDelay = .platform) :
    b.callTacts (memW a v t) = Config.platformMemDelay a t := by
  simp [Bus.callTacts, Bus.memTacts, h]

/-! ## The stack (R11) -/

variable (s : State)

theorem State.push16_pushed (v : Word) : Pushed s (s.push16 v) v :=
  pushed_of_mem ⟨s.push16_mem v, s.push16_cfg v⟩

theorem State.push16_frame (v : Word) : { s.push16 v with mem := s.mem } = { s with
    sp := s.sp - 2#16, tacts := s.tacts + s.cfg.tact.access + s.cfg.tact.access
    log := pushCalls s v s.tacts ++ s.log } := by
  apply State.eq_of_fields <;> simp

theorem State.pop16_eq : s.pop16 = { s with
    sp := s.sp + 2#16, tacts := s.tacts + s.cfg.tact.access + s.cfg.tact.access
    log := readCalls s s.sp s.tacts ++ s.log } := by
  apply State.eq_of_fields <;> simp

/-- A word pushed to RAM is the word on top of the stack. -/
theorem State.wordAt_push16 (v : Word) (h1 : kindAt s.cfg.bus.windows (s.sp - 1#16) = .ram)
    (h2 : kindAt s.cfg.bus.windows (s.sp - 2#16) = .ram) : (s.push16 v).wordAt (s.push16 v).sp = v := by
  have hp := s.push16_pushed v
  have hlow : (s.push16 v).byteAt (s.sp - 2#16) = lowByte v := by
    rw [hp _ (by simp [h2])]
    simp [Bus.writable, h2]
  have hhigh : (s.push16 v).byteAt (s.sp - 1#16) = highByte v := by
    rw [hp _ (by simp [h1])]
    simp [Bus.writable, h1]
  have hnext : s.sp - 2#16 + 1#16 = s.sp - 1#16 := by bv_omega
  rw [State.push16_sp, State.wordAt, State.wordAfter, hnext,
    State.byteAfter_of_not_device (s := s.push16 v) (by simp [h1]), hhigh, State.byteAfter_zero, hlow, pairOf_high_low]

end Sys2Proof.Machine

open Sys2Proof Sys2Proof.Machine

/-- Settles O38: the primitives by computation, the stack by its frame, and the end of a cycle by the calls it made. -/
theorem busPrimitives : Obligations.BusPrimitives := by
  unfold Obligations.BusPrimitives
  intro s a v b n
  have htact : s.WrittenTacts → s.cfg.tact.access = 3 ∧ s.cfg.tact.fetch = 4 := fun h => by rw [h]; exact ⟨rfl, rfl⟩
  have hdelay : (∀ k, s.cfg.bus.portDelay = .constant k → s.portDelay = k) ∧
      (s.cfg.bus.portDelay = .platform → s.portDelay = 0) :=
    ⟨fun k h => by rw [State.portDelay, h], fun h => by rw [State.portDelay, h]⟩
  refine ⟨rfl, rfl, ⟨stored_of_mem ⟨rfl, rfl⟩, rfl⟩, rfl, rfl, rfl, rfl, rfl, htact, rfl, rfl, hdelay.1, hdelay.2,
    ⟨s.push16_pushed v, s.push16_frame v⟩, s.pop16_eq, s.wordAt_push16 v, fun c old h => ?_⟩
  obtain ⟨hlog, htacts⟩ := State.settle_log h
  refine ⟨rfl, s.settle_tacts_le _, ⟨_, hlog, Bus.retime_calls s.cfg.bus c⟩, fun hp => ⟨fun hm => ?_, fun hm => ?_⟩,
    fun k d e hp hm hd he => ⟨?_, ?_⟩, fun k hm => ?_⟩
  · exact State.settle_plain hm hp _
  · exact htacts.trans (congrArg (s.tacts + ·) (Bus.retime_tacts hm hp c))
  · subst hd
    rintro (rfl | rfl)
    · rw [htacts, Bus.retime_one, Bus.callTacts_portR a b k hp]
    · rw [htacts, Bus.retime_one, Bus.callTacts_portW a b k hp]
  · subst hd he
    rintro rfl
    rw [htacts, hlog, Bus.retime_two, Bus.callTacts_portR a b k hp, Bus.callTacts_portW v b _ hp]
    exact ⟨(Nat.add_assoc _ _ _).symm, rfl⟩
  · rintro (rfl | rfl)
    · rw [htacts, Bus.retime_one, Bus.callTacts_memR a b k hm]
    · rw [htacts, Bus.retime_one, Bus.callTacts_memW a b k hm]
end

section
/-! PROOFS. No rule reads `tacts` or a tact constant (R4, R32). `Alike` relates two states that differ in those and in the
stamps of the calls only; every primitive takes related states to related states, so every form, every cycle and every
step does. Settles O57.

A lemma of a primitive asks that the two sides agree on its arguments: `rfl` where they come from registers, `Alike.byteAt`
where they were read from memory, since a device's answer depends on the number of calls in the log. -/

namespace Sys2Proof.Machine

/-- The state at other tact constants, with another tact count and another call log. -/
def State.retimed (s : State) (k : TactConstants) (tacts : Nat) (log : List BusCall) : State :=
  { s with cfg.tact := k, tacts := tacts, log := log }

/-- `s` runs at the parameters `c`; `u` is `s` but for the tact constants, which are `k`, for `tacts` and for the stamps
of the calls. At the same constants, on a Bus without platform delays, `u` is `n` tacts ahead. -/
structure Alike (c : Params) (k : TactConstants) (n : Nat) (s u : State) : Prop where
  cfg : s.cfg = c
  fields : u = s.retimed k u.tacts u.log
  calls : u.log.map BusCall.content = s.log.map BusCall.content
  tacts : c.tact = k → c.bus.memDelay ≠ .platform → c.bus.portDelay ≠ .platform → u.tacts = s.tacts + n

variable {c : Params} {k : TactConstants} {n : Nat} {s u s' u' : State}

theorem Alike.eq_retimed (h : Alike c k n s u) : ∃ T L, u = s.retimed k T L := ⟨_, _, h.fields⟩

theorem Alike.log_length (h : Alike c k n s u) : u.log.length = s.log.length := by
  simpa using congrArg List.length h.calls

theorem Alike.byteAfter (h : Alike c k n s u) (m : Nat) (a : Word) : u.byteAfter m a = s.byteAfter m a := by
  have hl := h.log_length
  obtain ⟨T, L, rfl⟩ := h.eq_retimed
  exact State.byteAfter_congr (s := s) (t := s.retimed k T L) rfl rfl (congrArg (· + m) hl) a

theorem Alike.byteAt (h : Alike c k n s u) (a : Word) : u.byteAt a = s.byteAt a := h.byteAfter 0 a

theorem Alike.wordAt (h : Alike c k n s u) (a : Word) : u.wordAt a = s.wordAt a := by
  unfold State.wordAt State.wordAfter
  rw [h.byteAfter, h.byteAfter]

/-- An update that neither reads nor writes the parameters, `tacts` or the log. -/
def Untimed (g : State → State) : Prop :=
  ∀ s k T L, g (s.retimed k T L) = (g s).retimed k T L ∧ (g s).cfg = s.cfg

/-- Alike states stay alike under an untimed update. -/
theorem Alike.write (h : Alike c k n s u) (g : State → State) (hg : Untimed g) : Alike c k n (g s) (g u) := by
  have hs : g s = (g s).retimed s.cfg.tact s.tacts s.log := (hg s s.cfg.tact s.tacts s.log).1
  have htacts : (g s).tacts = s.tacts := by rw [hs]; rfl
  have hlog : (g s).log = s.log := by rw [hs]; rfl
  obtain ⟨T, L, rfl⟩ := h.eq_retimed
  rw [(hg s k T L).1]
  refine ⟨(hg s k T L).2.trans h.cfg, rfl, ?_, fun e hm hp => ?_⟩
  · rw [hlog]; exact h.calls
  · rw [htacts]; exact h.tacts e hm hp

/-- The same for an update to a value that both sides agree on. -/
theorem Alike.update {α : Type} (h : Alike c k n s u) {v v' : α} (g : α → State → State) (hg : ∀ v, Untimed (g v))
    (e : v' = v) : Alike c k n (g v s) (g v' u) := by
  subst e
  exact h.write (g v') (hg v')

/-- `Tick` keeps states alike: the counts are the same where the constants are. -/
theorem Alike.tick (h : Alike c k n s u) {m m' : Nat} (e : c.tact = k → m = m') : Alike c k n (s.tick m) (u.tick m') := by
  refine ⟨h.cfg, congrArg (·.tick m') h.fields, h.calls, fun hk hm hp => ?_⟩
  have ht := h.tacts hk hm hp
  simp only [State.tick_tacts, e hk]
  omega

theorem Alike.note (h : Alike c k n s u) (b : BusKind) {a a' : Word} {v v' : Byte} (ea : a' = a) (ev : v' = v) :
    Alike c k n (s.note b a v) (u.note b a' v') := by
  subst ea ev
  refine ⟨h.cfg, ?_, congrArg ((b, a', v') :: ·) h.calls, h.tacts⟩
  obtain ⟨T, L, rfl⟩ := h.eq_retimed
  rfl

/-- A tact constant reads the same on both sides when the constants are the same. -/
theorem Alike.constant (h : Alike c k n s u) (f : TactConstants → Nat) (e : c.tact = k) : f s.cfg.tact = f u.cfg.tact := by
  rw [h.fields, h.cfg, e]; rfl

/-! ### Updates of one item -/

theorem Alike.setPc (h : Alike c k n s u) {v v' : Word} (e : v' = v) : Alike c k n (s.setPc v) (u.setPc v') :=
  h.update (fun v t => t.setPc v) (fun _ _ _ _ _ => ⟨rfl, rfl⟩) e
theorem Alike.setWz (h : Alike c k n s u) {v v' : Word} (e : v' = v) : Alike c k n (s.setWz v) (u.setWz v') :=
  h.update (fun v t => t.setWz v) (fun _ _ _ _ _ => ⟨rfl, rfl⟩) e
theorem Alike.setSp (h : Alike c k n s u) {v v' : Word} (e : v' = v) : Alike c k n (s.setSp v) (u.setSp v') :=
  h.update (fun v t => t.setSp v) (fun _ _ _ _ _ => ⟨rfl, rfl⟩) e
theorem Alike.setA (h : Alike c k n s u) {v v' : Byte} (e : v' = v) : Alike c k n (s.setA v) (u.setA v') :=
  h.update (fun v t => t.setA v) (fun _ _ _ _ _ => ⟨rfl, rfl⟩) e
theorem Alike.setF (h : Alike c k n s u) {v v' : Byte} (e : v' = v) : Alike c k n (s.setF v) (u.setF v') :=
  h.update (fun v t => t.setF v) (fun _ _ _ _ _ => ⟨rfl, rfl⟩) e
theorem Alike.setB (h : Alike c k n s u) {v v' : Byte} (e : v' = v) : Alike c k n (s.setB v) (u.setB v') :=
  h.update (fun v t => t.setB v) (fun _ _ _ _ _ => ⟨rfl, rfl⟩) e
theorem Alike.setBc (h : Alike c k n s u) {v v' : Word} (e : v' = v) : Alike c k n (s.setBc v) (u.setBc v') :=
  h.update (fun v t => t.setBc v) (fun _ _ _ _ _ => ⟨rfl, rfl⟩) e
theorem Alike.setDe (h : Alike c k n s u) {v v' : Word} (e : v' = v) : Alike c k n (s.setDe v) (u.setDe v') :=
  h.update (fun v t => t.setDe v) (fun _ _ _ _ _ => ⟨rfl, rfl⟩) e
theorem Alike.setHl (h : Alike c k n s u) {v v' : Word} (e : v' = v) : Alike c k n (s.setHl v) (u.setHl v') :=
  h.update (fun v t => t.setHl v) (fun _ _ _ _ _ => ⟨rfl, rfl⟩) e
theorem Alike.incF (h : Alike c k n s u) {v v' : Byte} (e : v' = v) : Alike c k n (s.incF v) (u.incF v') :=
  h.update (fun v t => t.incF v) (fun _ _ _ _ _ => ⟨rfl, rfl⟩) e
theorem Alike.decF (h : Alike c k n s u) {v v' : Byte} (e : v' = v) : Alike c k n (s.decF v) (u.decF v') :=
  h.update (fun v t => t.decF v) (fun _ _ _ _ _ => ⟨rfl, rfl⟩) e
theorem Alike.setReg (h : Alike c k n s u) (r : Reg8) {v v' : Byte} (e : v' = v) :
    Alike c k n (s.setReg r v) (u.setReg r v') :=
  h.update (fun v t => t.setReg r v) (fun _ _ _ _ _ => ⟨rfl, rfl⟩) e
theorem Alike.alu (h : Alike c k n s u) (op : AluOp) {v v' : Byte} (e : v' = v) :
    Alike c k n (s.alu op v) (u.alu op v') :=
  h.update (fun v t => t.alu op v) (fun _ _ _ _ _ => ⟨rfl, rfl⟩) e
theorem Alike.setPair (h : Alike c k n s u) (p : Pair) {v v' : Word} (e : v' = v) :
    Alike c k n (s.setPair p v) (u.setPair p v') :=
  h.update (fun v t => t.setPair p v) (fun _ _ _ _ _ => by cases p <;> exact ⟨rfl, rfl⟩) e
theorem Alike.setQPair (h : Alike c k n s u) (p : QPair) {v v' : Word} (e : v' = v) :
    Alike c k n (s.setQPair p v) (u.setQPair p v') :=
  h.update (fun v t => t.setQPair p v) (fun _ _ _ _ _ => by cases p <;> exact ⟨rfl, rfl⟩) e
theorem Alike.setXy (h : Alike c k n s u) (x : XY) {v v' : Word} (e : v' = v) :
    Alike c k n (s.setXy x v) (u.setXy x v') :=
  h.update (fun v t => t.setXy x v) (fun _ _ _ _ _ => by cases x <;> exact ⟨rfl, rfl⟩) e
theorem Alike.setHalf (h : Alike c k n s u) (x : XY) (i : Half) {v v' : Byte} (e : v' = v) :
    Alike c k n (s.setHalf x i v) (u.setHalf x i v') :=
  h.update (fun v t => t.setHalf x i v) (fun _ _ _ _ _ => by cases x <;> cases i <;> exact ⟨rfl, rfl⟩) e

/-! ### Bus calls -/

/-- A memory access takes the access constant of each side. -/
theorem Alike.access (h : Alike c k n s u) (b : BusKind) {a a' : Word} {v v' : Byte} (ea : a' = a) (ev : v' = v) :
    Alike c k n ((s.note b a v).tick s.cfg.tact.access) ((u.note b a' v').tick u.cfg.tact.access) :=
  (h.note b ea ev).tick (h.constant TactConstants.access)

theorem Alike.rd (h : Alike c k n s u) {a a' : Word} (e : a' = a) : Alike c k n (s.rd a) (u.rd a') :=
  h.access .memRead e (e ▸ h.byteAt _)

theorem Alike.wr (h : Alike c k n s u) {a a' : Word} {v v' : Byte} (ea : a' = a) (ev : v' = v) :
    Alike c k n (s.wr a v) (u.wr a' v') := by
  subst ea ev
  exact (h.access .memWrite rfl rfl).write (fun t => { t with mem := t.cfg.bus.store t.mem a' v' })
    fun _ _ _ _ => ⟨rfl, rfl⟩

theorem Alike.imm8 (h : Alike c k n s u) : Alike c k n s.imm8 u.imm8 := by
  obtain ⟨T, L, rfl⟩ := h.eq_retimed
  exact (h.access .memRead rfl (h.byteAt s.pc)).setPc (v := s.pc + 1#16) rfl

theorem Alike.imm16 (h : Alike c k n s u) : Alike c k n s.imm16 u.imm16 := h.imm8.imm8

theorem Alike.push16 (h : Alike c k n s u) {v v' : Word} (e : v' = v) :
    Alike c k n (s.push16 v) (u.push16 v') := by
  subst e
  obtain ⟨T, L, rfl⟩ := h.eq_retimed
  exact h.setSp rfl |>.wr rfl rfl |>.setSp rfl |>.wr rfl rfl

theorem Alike.pop16 (h : Alike c k n s u) : Alike c k n s.pop16 u.pop16 := by
  obtain ⟨T, L, rfl⟩ := h.eq_retimed
  exact h.rd rfl |>.setSp rfl |>.rd rfl |>.setSp rfl

theorem Alike.fetch (h : Alike c k n s u) : Alike c k n s.fetch u.fetch := by
  obtain ⟨T, L, rfl⟩ := h.eq_retimed
  have hf := (h.note .memRead (a := s.pc) rfl (h.byteAt s.pc)).tick (h.constant TactConstants.fetch)
  exact hf.write (fun t => { t with pc := t.pc + 1#16, rReg := refresh t.rReg }) fun _ _ _ _ => ⟨rfl, rfl⟩

/-- A port access takes the constant delay of the interface, whatever the tact constants. -/
theorem Alike.port (h : Alike c k n s u) (b : BusKind) {a a' : Word} {v v' : Byte} (ea : a' = a) (ev : v' = v) :
    Alike c k n ((s.note b a v).tick s.portDelay) ((u.note b a' v').tick u.portDelay) :=
  (h.note b ea ev).tick fun _ => by rw [h.fields]; rfl

theorem Alike.portAnswer (h : Alike c k n s u) (a : Word) : u.portAnswer a = s.portAnswer a := by
  rw [h.fields]; rfl

theorem Alike.portRd (h : Alike c k n s u) {a a' : Word} (e : a' = a) :
    Alike c k n (s.portRd a) (u.portRd a') :=
  (h.port .portRead e (e ▸ h.portAnswer _)).write
    (fun t => { t with portInputs := t.portInputs.tail, portReads := t.portReads + 1 })
    fun _ _ _ _ => ⟨rfl, rfl⟩

theorem Alike.portWr (h : Alike c k n s u) {a a' : Word} {v v' : Byte} (ea : a' = a) (ev : v' = v) :
    Alike c k n (s.portWr a v) (u.portWr a' v') := h.port .portWrite ea ev

/-! ### Branches -/

/-- A choice that both sides make alike. -/
theorem Alike.ite {p : Prop} [Decidable p] (ht : Alike c k n s u) (he : Alike c k n s' u') :
    Alike c k n (if p then s else s') (if p then u else u') := by
  split
  · exact ht
  · exact he

theorem Alike.extraReads (h : Alike c k n s u) (da : Word) (m : Nat) :
    Alike c k n (s.extraReads da m) (u.extraReads da m) := by
  induction m generalizing s u with
  | zero => exact h
  | succ m ih =>
    obtain ⟨T, L, rfl⟩ := h.eq_retimed
    exact ih ((h.note .memRead rfl (h.byteAt da)).tick (h.constant TactConstants.extraRead))

theorem Alike.takenDelay (h : Alike c k n s u) {da da' : Word} (e : da' = da) :
    Alike c k n (s.takenDelay da) (u.takenDelay da') := by
  subst e
  obtain ⟨T, L, rfl⟩ := h.eq_retimed
  exact .ite (h.tick (h.constant TactConstants.takenDelay)) (h.extraReads da' 5)

/-! ## Shared operations -/

theorem Alike.loadA (h : Alike c k n s u) {a a' : Word} (e : a' = a) : Alike c k n (s.loadA a) (u.loadA a') := by
  subst e; exact h.rd rfl |>.setA (h.byteAt _) |>.setWz rfl

theorem Alike.storeA (h : Alike c k n s u) {a a' : Word} (e : a' = a) :
    Alike c k n (s.storeA a) (u.storeA a') := by
  subst e; obtain ⟨T, L, rfl⟩ := h.eq_retimed
  exact (h.wr rfl rfl).setWz rfl

theorem Alike.readWord (h : Alike c k n s u) {a a' : Word} (e : a' = a) :
    Alike c k n (s.readWord a) (u.readWord a') := by
  subst e; exact ((h.rd rfl).rd rfl).setWz rfl

theorem Alike.writeWord (h : Alike c k n s u) {a a' v v' : Word} (ea : a' = a) (ev : v' = v) :
    Alike c k n (s.writeWord a v) (u.writeWord a' v') := by
  subst ea ev; exact ((h.wr rfl rfl).wr rfl rfl).setWz rfl

theorem Alike.exchangeTop (h : Alike c k n s u) {v v' : Word} {m m' d d' : Nat} (hm : c.tact = k → m = m')
    (hd : c.tact = k → d = d') (e : v' = v) : Alike c k n (s.exchangeTop v m d) (u.exchangeTop v' m' d') := by
  subst e; obtain ⟨T, L, rfl⟩ := h.eq_retimed
  have ht := (h.rd (a := s.sp) rfl).rd (a := s.sp + 1#16) rfl |>.tick hm
  exact ((ht.wr rfl rfl).wr rfl rfl).tick hd |>.setWz (h.wordAt s.sp)

theorem Alike.incMem (h : Alike c k n s u) {a a' : Word} {m m' : Nat} (hm : c.tact = k → m = m') (e : a' = a) :
    Alike c k n (s.incMem a m) (u.incMem a' m') := by
  subst e; exact (((h.rd rfl).tick hm).incF (h.byteAt _)).wr rfl (by rw [h.byteAt])

theorem Alike.decMem (h : Alike c k n s u) {a a' : Word} {m m' : Nat} (hm : c.tact = k → m = m') (e : a' = a) :
    Alike c k n (s.decMem a m) (u.decMem a' m') := by
  subst e; exact (((h.rd rfl).tick hm).decF (h.byteAt _)).wr rfl (by rw [h.byteAt])

theorem Alike.jumpRelative (h : Alike c k n s u) {da da' : Word} {d d' : Byte} (ea : da' = da)
    (ed : d' = d) : Alike c k n (s.jumpRelative da d) (u.jumpRelative da' d') := by
  subst ea ed; obtain ⟨T, L, rfl⟩ := h.eq_retimed
  exact ((h.takenDelay rfl).setPc rfl).setWz rfl

theorem Alike.callTo (h : Alike c k n s u) {v v' : Word} {m m' : Nat} (hm : c.tact = k → m = m') (e : v' = v) :
    Alike c k n (s.callTo v m) (u.callTo v' m') := by
  subst e; obtain ⟨T, L, rfl⟩ := h.eq_retimed
  exact ((h.tick hm).push16 rfl).setPc rfl

theorem Alike.returnTo (h : Alike c k n s u) : Alike c k n s.returnTo u.returnTo := by
  obtain ⟨T, L, rfl⟩ := h.eq_retimed
  exact (h.pop16.setPc (h.wordAt s.sp)).setWz (h.wordAt s.sp)

theorem Alike.returnFromInterrupt (h : Alike c k n s u) : Alike c k n s.returnFromInterrupt u.returnFromInterrupt := by
  have hr := h.returnTo
  obtain ⟨T, L, rfl⟩ := h.eq_retimed
  exact hr.update (fun v t => { t with iff1 := v }) (fun _ _ _ _ _ => ⟨rfl, rfl⟩) (v := s.iff2) rfl

theorem Alike.xy (h : Alike c k n s u) (x : XY) : u.xy x = s.xy x := by
  rw [h.fields]; cases x <;> rfl

theorem Alike.half (h : Alike c k n s u) (x : XY) (i : Half) : u.half x i = s.half x i := by
  cases i with
  | high => exact congrArg highByte (h.xy x)
  | low => exact congrArg lowByte (h.xy x)

theorem Alike.indexedAddress (h : Alike c k n s u) (x : XY) : u.indexedAddress x = s.indexedAddress x := by
  unfold State.indexedAddress State.effective
  rw [h.xy, h.byteAt, h.fields]
  rfl

theorem Alike.bitAddress (h : Alike c k n s u) (x : XY) : u.bitAddress x = s.bitAddress x := by
  unfold State.bitAddress State.effective
  rw [h.xy, h.fields]
  rfl

/-- The byte that an entry of the indexed bit table works on. -/
theorem Alike.bitByte (h : Alike c k n s u) (x : XY) : u.byteAt (u.bitAddress x) = s.byteAt (s.bitAddress x) := by
  rw [h.bitAddress, h.byteAt]

theorem Alike.readDisplacement (h : Alike c k n s u) (x : XY) :
    Alike c k n (s.readDisplacement x) (u.readDisplacement x) := by
  have he := h.indexedAddress x
  obtain ⟨T, L, rfl⟩ := h.eq_retimed
  exact (h.imm8.tick (h.constant TactConstants.penalty)).setWz he

theorem Alike.rotMem (h : Alike c k n s u) (r : RotOp) {a a' : Word} {m m' : Nat} (hm : c.tact = k → m = m')
    (e : a' = a) : Alike c k n (s.rotMem r a m) (u.rotMem r a' m') := by
  subst e; obtain ⟨T, L, rfl⟩ := h.eq_retimed
  exact (((h.rd rfl).tick hm).setF (by rw [h.byteAt]; rfl)).wr rfl (by rw [h.byteAt]; rfl)

theorem Alike.inputC (h : Alike c k n s u) : Alike c k n s.inputC u.inputC := by
  obtain ⟨T, L, rfl⟩ := h.eq_retimed
  exact ((h.setWz rfl).portRd rfl).setF (by rw [h.portAnswer]; rfl)

theorem Alike.loadIR (h : Alike c k n s u) {v v' : Byte} {m m' : Nat} (hm : c.tact = k → m = m') (e : v' = v) :
    Alike c k n (s.loadIR v m) (u.loadIR v' m') := by
  subst e; obtain ⟨T, L, rfl⟩ := h.eq_retimed
  exact ((h.tick hm).setA rfl).setF rfl

theorem Alike.nibbleRotate (h : Alike c k n s u) {w w' a a' : Byte} {m m' : Nat} (hm : c.tact = k → m = m')
    (ew : w' = w) (ea : a' = a) : Alike c k n (s.nibbleRotate w a m) (u.nibbleRotate w' a' m') := by
  subst ew ea; obtain ⟨T, L, rfl⟩ := h.eq_retimed
  exact ((h.rd rfl).tick hm).wr rfl rfl |>.setA rfl |>.setF rfl |>.setWz rfl

theorem Alike.repeatWz (h : Alike c k n s u) {m m' : Nat} (hm : c.tact = k → m = m') :
    Alike c k n (s.repeatWz m) (u.repeatWz m') := by
  obtain ⟨T, L, rfl⟩ := h.eq_retimed
  exact ((h.tick hm).setPc rfl).setWz rfl

theorem Alike.repeatPc (h : Alike c k n s u) {m m' : Nat} (hm : c.tact = k → m = m') :
    Alike c k n (s.repeatPc m) (u.repeatPc m') := by
  obtain ⟨T, L, rfl⟩ := h.eq_retimed
  exact (h.tick hm).setPc rfl

/-! ### The block instructions -/

theorem Alike.blockLoad (h : Alike c k n s u) (dlt : Word) : Alike c k n (s.blockLoad dlt) (u.blockLoad dlt) := by
  obtain ⟨T, L, rfl⟩ := h.eq_retimed
  have ht := (h.rd (a := s.hl) rfl).wr (a := s.de) rfl (h.byteAt s.hl) |>.tick (h.constant TactConstants.blockLoad)
  exact ((ht.setHl rfl).setDe rfl).setBc rfl |>.setF (by rw [h.byteAt]; rfl)

theorem Alike.blockLoadRepeat (h : Alike c k n s u) (dlt : Word) :
    Alike c k n (s.blockLoadRepeat dlt) (u.blockLoadRepeat dlt) := by
  have hb := h.blockLoad dlt
  obtain ⟨T, L, rfl⟩ := h.eq_retimed
  exact hb.ite (hb.repeatWz (h.constant TactConstants.blockLoadRepeat))

theorem Alike.blockCompare (h : Alike c k n s u) (dlt : Word) : Alike c k n (s.blockCompare dlt) (u.blockCompare dlt) := by
  obtain ⟨T, L, rfl⟩ := h.eq_retimed
  have ht := (h.rd (a := s.hl) rfl).tick (h.constant TactConstants.blockCompare)
  exact ((ht.setWz rfl).setHl rfl).setBc rfl |>.setF (by rw [h.byteAt]; rfl)

theorem Alike.blockCompareRepeat (h : Alike c k n s u) (dlt : Word) :
    Alike c k n (s.blockCompareRepeat dlt) (u.blockCompareRepeat dlt) := by
  have hb := h.blockCompare dlt
  obtain ⟨T, L, rfl⟩ := h.eq_retimed
  unfold State.blockCompareRepeat
  rw [h.byteAt]
  exact hb.ite (hb.repeatWz (h.constant TactConstants.blockCompareRepeat))

theorem Alike.blockIn (h : Alike c k n s u) (dlt : Word) : Alike c k n (s.blockIn dlt) (u.blockIn dlt) := by
  obtain ⟨T, L, rfl⟩ := h.eq_retimed
  have ht := (h.tick (h.constant TactConstants.blockIn)).setWz (v := s.bc + dlt) rfl
  exact ((ht.portRd rfl).setB rfl).wr rfl rfl |>.setHl rfl |>.setF rfl

theorem Alike.blockInRepeat (h : Alike c k n s u) (dlt : Word) :
    Alike c k n (s.blockInRepeat dlt) (u.blockInRepeat dlt) := by
  have hb := h.blockIn dlt
  obtain ⟨T, L, rfl⟩ := h.eq_retimed
  exact hb.ite (hb.repeatPc (h.constant TactConstants.blockInRepeat))

theorem Alike.blockOut (h : Alike c k n s u) (dlt : Word) : Alike c k n (s.blockOut dlt) (u.blockOut dlt) := by
  obtain ⟨T, L, rfl⟩ := h.eq_retimed
  have ht := (h.tick (h.constant TactConstants.blockOut)).rd (a := s.hl) rfl |>.setB (v := s.regs.b - 1#8) rfl
  exact ((ht.setWz rfl).portWr rfl (h.byteAt _)).setHl rfl |>.setF (by rw [h.byteAt]; rfl)

theorem Alike.blockOutRepeat (h : Alike c k n s u) (dlt : Word) :
    Alike c k n (s.blockOutRepeat dlt) (u.blockOutRepeat dlt) := by
  have hb := h.blockOut dlt
  obtain ⟨T, L, rfl⟩ := h.eq_retimed
  exact hb.ite (hb.repeatPc (h.constant TactConstants.blockOutRepeat))

/-! ### The indexed bit table -/

theorem Alike.rotXyd (h : Alike c k n s u) (x : XY) (r : RotOp) : Alike c k n (rotXyd x r s) (rotXyd x r u) :=
  (h.setWz (h.bitAddress x)).rotMem r (h.constant TactConstants.modifyXyd) (h.bitAddress x)

/-- The read that begins every other entry of the table (R433, R434). -/
theorem Alike.bitModify (h : Alike c k n s u) (x : XY) {m m' : Nat} (hm : c.tact = k → m = m') :
    Alike c k n ((s.atDisplacement x).rdModify (s.bitAddress x) m) ((u.atDisplacement x).rdModify (u.bitAddress x) m') :=
  ((h.setWz (h.bitAddress x)).rd (h.bitAddress x)).tick hm

theorem Alike.resXyd (h : Alike c k n s u) (x : XY) (b : BitNo) : Alike c k n (resXyd x b s) (resXyd x b u) :=
  (h.bitModify x (h.constant TactConstants.modifyXyd)).wr (h.bitAddress x) (congrArg (resBit b) (h.bitByte x))

theorem Alike.setXyd (h : Alike c k n s u) (x : XY) (b : BitNo) : Alike c k n (setXyd x b s) (setXyd x b u) :=
  (h.bitModify x (h.constant TactConstants.modifyXyd)).wr (h.bitAddress x) (congrArg (setBit b) (h.bitByte x))

/-! ## The forms -/

/-- Every instruction takes alike states to alike states: each form is a composition of the primitives and operations above. -/
theorem formRun_alike (f : Form) (h : Alike c k n s u) : Alike c k n (formRun f s) (formRun f u) := by
  obtain ⟨T, L, rfl⟩ := h.eq_retimed
  cases f with
  | ldRegReg r q => exact h.setReg r rfl
  | ldRegImm r => exact h.imm8.setReg r (h.byteAt _)
  | ldRegAtHl r => exact (h.rd rfl).setReg r (h.byteAt _)
  | ldAtHlReg r => exact h.wr rfl rfl
  | ldAtHlImm => exact h.imm8.wr rfl (h.byteAt _)
  | ldAAtBc => exact h.loadA rfl
  | ldAAtDe => exact h.loadA rfl
  | ldAAtNn => exact h.imm16.loadA (h.wordAt _)
  | ldAtBcA => exact h.storeA rfl
  | ldAtDeA => exact h.storeA rfl
  | ldAtNnA => exact h.imm16.storeA (h.wordAt _)
  | ldPairImm p => exact h.imm16.setPair p (h.wordAt _)
  | ldHlAtNn => exact (h.imm16.readWord (h.wordAt _)).setHl (by rw [h.wordAt, h.imm16.wordAt]; rfl)
  | ldAtNnHl => exact h.imm16.writeWord (h.wordAt _) rfl
  | ldSpHl => exact (h.tick (h.constant TactConstants.ldSpHl)).setSp rfl
  | push p => exact (h.tick (h.constant TactConstants.push)).push16 rfl
  | pop p => exact h.pop16.setQPair p (h.wordAt _)
  | exDeHl => exact (h.setDe rfl).setHl rfl
  | exAf => exact h.write exAf fun _ _ _ _ => ⟨rfl, rfl⟩
  | exx => exact h.write exx fun _ _ _ _ => ⟨rfl, rfl⟩
  | exSpHl =>
    exact (h.exchangeTop (h.constant TactConstants.exSpHlRead) (h.constant TactConstants.exSpHlEnd) rfl).setHl (h.wordAt _)
  | aluReg op r => exact h.alu op rfl
  | aluAtHl op => exact (h.rd rfl).alu op (h.byteAt _)
  | aluImm op => exact h.imm8.alu op (h.byteAt _)
  | incReg r => exact (h.incF rfl).setReg r rfl
  | incAtHl => exact h.incMem (h.constant TactConstants.incAtHl) rfl
  | decReg r => exact (h.decF rfl).setReg r rfl
  | decAtHl => exact h.decMem (h.constant TactConstants.decAtHl) rfl
  | daa => exact h.write daa fun _ _ _ _ => ⟨rfl, rfl⟩
  | cpl => exact h.write cpl fun _ _ _ _ => ⟨rfl, rfl⟩
  | scf => exact h.setF rfl
  | ccf => exact h.setF rfl
  | rlca => exact h.write rlca fun _ _ _ _ => ⟨rfl, rfl⟩
  | rrca => exact h.write rrca fun _ _ _ _ => ⟨rfl, rfl⟩
  | rla => exact h.write rla fun _ _ _ _ => ⟨rfl, rfl⟩
  | rra => exact h.write rra fun _ _ _ _ => ⟨rfl, rfl⟩
  | addHl p => exact ((h.setWz rfl).tick (h.constant TactConstants.addHl)).setF rfl |>.setHl rfl
  | incPair p => exact (h.tick (h.constant TactConstants.incPair)).setPair p rfl
  | decPair p => exact (h.tick (h.constant TactConstants.decPair)).setPair p rfl
  | jp => exact (h.imm16.setWz (h.wordAt _)).setPc (h.wordAt _)
  | jpCc cc =>
    have ht := h.imm16.setWz (h.wordAt s.pc)
    exact .ite (ht.setPc (h.wordAt s.pc)) ht
  | jpHl => exact h.setPc rfl
  | jr => exact h.imm8.jumpRelative rfl (h.byteAt _)
  | jrCc cc => exact .ite (h.imm8.jumpRelative rfl (h.byteAt _)) h.imm8
  | djnz =>
    have ht := (h.tick (h.constant TactConstants.djnz)).imm8.setB (v := s.regs.b - 1#8) rfl
    exact ht.ite (ht.jumpRelative rfl (h.byteAt _))
  | call => exact (h.imm16.setWz (h.wordAt _)).callTo (h.constant TactConstants.call) (h.wordAt _)
  | callCc cc =>
    have ht := h.imm16.setWz (h.wordAt s.pc)
    exact .ite (ht.callTo (h.constant TactConstants.callCc) (h.wordAt s.pc)) ht
  | ret => exact h.returnTo
  | retCc cc =>
    have ht := h.tick (h.constant TactConstants.retCc)
    exact .ite ht.returnTo ht
  | rst y => exact (h.callTo (h.constant TactConstants.rst) rfl).setWz rfl
  | nop => exact h
  | halt => exact h.write halt fun _ _ _ _ => ⟨rfl, rfl⟩
  | di => exact h.write di fun _ _ _ _ => ⟨rfl, rfl⟩
  | ei => exact h.write ei fun _ _ _ _ => ⟨rfl, rfl⟩
  | inA =>
    have hp : pairOf s.regs.a ((s.retimed k T L).byteAt s.pc) = pairOf s.regs.a (s.byteAt s.pc) := by rw [h.byteAt]
    have ht := h.imm8.setWz (congrArg (· + 1#16) hp)
    exact (ht.portRd hp).setA ((congrArg _ hp).trans (ht.portAnswer _))
  | outA => exact (h.imm8.portWr (by rw [h.byteAt]; rfl) rfl).setWz (by rw [h.byteAt]; rfl)
  | prefixCb => exact h.write prefixCb fun _ _ _ _ => ⟨rfl, rfl⟩
  | prefixDd => exact h.write prefixDd fun _ _ _ _ => ⟨rfl, rfl⟩
  | prefixEd => exact h.write prefixEd fun _ _ _ _ => ⟨rfl, rfl⟩
  | prefixFd => exact h.write prefixFd fun _ _ _ _ => ⟨rfl, rfl⟩
  | ldXyImm x => exact h.imm16.setXy x (h.wordAt _)
  | ldAtNnXy x => exact h.imm16.writeWord (h.wordAt _) rfl
  | ldXyAtNn x => exact (h.imm16.readWord (h.wordAt _)).setXy x (by rw [h.wordAt, h.imm16.wordAt]; rfl)
  | ldSpXy x => exact (h.tick (h.constant TactConstants.ldSpXy)).setSp rfl
  | pushXy x => exact (h.tick (h.constant TactConstants.pushXy)).push16 rfl
  | popXy x => exact h.pop16.setXy x (h.wordAt _)
  | exSpXy x =>
    exact (h.exchangeTop (h.constant TactConstants.exSpXyRead) (h.constant TactConstants.exSpXyEnd) rfl).setXy x (h.wordAt _)
  | jpXy x => exact h.setPc rfl
  | addXy x p =>
    have hx := h.xy x
    have hp : (s.retimed k T L).pairXy x p = s.pairXy x p := rfl
    exact (((h.setWz (by rw [hx])).tick (h.constant TactConstants.addXy)).setF (by rw [hx, hp]; rfl)).setXy x (by rw [hx, hp])
  | incXy x => exact (h.tick (h.constant TactConstants.incXy)).setXy x rfl
  | decXy x => exact (h.tick (h.constant TactConstants.decXy)).setXy x rfl
  | ldRegXyd x r =>
    have ht := h.readDisplacement x
    exact (ht.rd (h.indexedAddress x)).setReg r (by rw [h.indexedAddress, ht.byteAt])
  | ldXydReg x r => exact (h.readDisplacement x).wr (h.indexedAddress x) rfl
  | ldXydImm x =>
    have ht := h.imm8.setWz (h.indexedAddress x)
    exact (ht.imm8.tick (h.constant TactConstants.ldXydImm)).wr (h.indexedAddress x) (ht.byteAt _)
  | incXyd x => exact (h.readDisplacement x).incMem (h.constant TactConstants.incXyd) (h.indexedAddress x)
  | decXyd x => exact (h.readDisplacement x).decMem (h.constant TactConstants.decXyd) (h.indexedAddress x)
  | aluXyd x op =>
    have ht := h.readDisplacement x
    exact (ht.rd (h.indexedAddress x)).alu op (by rw [h.indexedAddress, ht.byteAt])
  | ldHalfImm x i => exact h.imm8.setHalf x i (h.byteAt _)
  | ldRegHalf x r i => exact h.setReg (plain r) (h.half x i)
  | ldHalfReg x i r => exact h.setHalf x i rfl
  | ldHalfHalf x i j => exact h.setHalf x i (h.half x j)
  | incHalf x i => exact (h.incF (h.half x i)).setHalf x i (by rw [h.half])
  | decHalf x i => exact (h.decF (h.half x i)).setHalf x i (by rw [h.half])
  | aluHalf x op i => exact h.alu op (h.half x i)
  | rotReg r q => exact (h.setF rfl).setReg q rfl
  | rotAtHl r => exact h.rotMem r (h.constant TactConstants.modifyAtHl) rfl
  | bitReg b r => exact h.setF rfl
  | bitAtHl b => exact ((h.rd rfl).tick (h.constant TactConstants.bitAtHl)).setF (by rw [h.byteAt]; rfl)
  | resReg b r => exact h.setReg r rfl
  | resAtHl b => exact ((h.rd rfl).tick (h.constant TactConstants.modifyAtHl)).wr rfl (by rw [h.byteAt]; rfl)
  | setReg b r => exact h.setReg r rfl
  | setAtHl b => exact ((h.rd rfl).tick (h.constant TactConstants.modifyAtHl)).wr rfl (by rw [h.byteAt]; rfl)
  | rotXyd x r => exact h.rotXyd x r
  | rotXydCopy x r q => exact (h.rotXyd x r).setReg q (by rw [h.bitByte]; rfl)
  | bitXyd x b => exact (h.bitModify x (h.constant TactConstants.bitXyd)).setF (by rw [h.bitByte, h.bitAddress]; rfl)
  | resXyd x b => exact h.resXyd x b
  | resXydCopy x b r => exact (h.resXyd x b).setReg r (by rw [h.bitByte])
  | setXyd x b => exact h.setXyd x b
  | setXydCopy x b r => exact (h.setXyd x b).setReg r (by rw [h.bitByte])
  | inReg r => exact h.inputC.setReg r (h.portAnswer _)
  | inFlags => exact h.inputC
  | outReg r => exact (h.portWr rfl rfl).setWz rfl
  | outZero => exact (h.portWr rfl rfl).setWz rfl
  | sbcHl p => exact (((h.setWz rfl).tick (h.constant TactConstants.sbcHl)).setF rfl).setHl rfl
  | adcHl p => exact (((h.setWz rfl).tick (h.constant TactConstants.adcHl)).setF rfl).setHl rfl
  | ldAtNnPair p => exact h.imm16.writeWord (h.wordAt _) rfl
  | ldPairAtNn p => exact (h.imm16.readWord (h.wordAt _)).setPair p (by rw [h.wordAt, h.imm16.wordAt]; rfl)
  | neg => exact h.write neg fun _ _ _ _ => ⟨rfl, rfl⟩
  | retn => exact h.returnFromInterrupt
  | reti => exact h.returnFromInterrupt
  | im m => exact h.write (im m) fun _ _ _ _ => ⟨rfl, rfl⟩
  | ldIA =>
    exact (h.tick (h.constant TactConstants.ldIA)).write (fun t => { t with iReg := t.regs.a }) fun _ _ _ _ => ⟨rfl, rfl⟩
  | ldRA =>
    exact (h.tick (h.constant TactConstants.ldRA)).write (fun t => { t with rReg := t.regs.a }) fun _ _ _ _ => ⟨rfl, rfl⟩
  | ldAI => exact h.loadIR (h.constant TactConstants.ldAI) rfl
  | ldAR => exact h.loadIR (h.constant TactConstants.ldAR) rfl
  | rrd => exact h.nibbleRotate (h.constant TactConstants.rrd) (by rw [h.byteAt]; rfl) (by rw [h.byteAt]; rfl)
  | rld => exact h.nibbleRotate (h.constant TactConstants.rld) (by rw [h.byteAt]; rfl) (by rw [h.byteAt]; rfl)
  | ldi => exact h.blockLoad up
  | ldd => exact h.blockLoad down
  | ldir => exact h.blockLoadRepeat up
  | lddr => exact h.blockLoadRepeat down
  | cpi => exact h.blockCompare up
  | cpd => exact h.blockCompare down
  | cpir => exact h.blockCompareRepeat up
  | cpdr => exact h.blockCompareRepeat down
  | ini => exact h.blockIn up
  | ind => exact h.blockIn down
  | inir => exact h.blockInRepeat up
  | indr => exact h.blockInRepeat down
  | outi => exact h.blockOut up
  | outd => exact h.blockOut down
  | otir => exact h.blockOutRepeat up
  | otdr => exact h.blockOutRepeat down
  | nopEd => exact h

/-! ## The cycle (R160 to R169) -/

theorem Alike.nextForm (h : Alike c k n s u) : u.nextForm = s.nextForm := by
  obtain ⟨T, L, rfl⟩ := h.eq_retimed
  unfold State.nextForm State.nextOpcode
  rw [h.byteAfter, h.byteAt]
  rfl

theorem Alike.atPrefix (h : Alike c k n s u) : u.atPrefix = s.atPrefix := by
  obtain ⟨T, L, rfl⟩ := h.eq_retimed
  unfold State.atPrefix
  rw [h.byteAt]
  rfl

theorem Alike.unblock (h : Alike c k n s u) : Alike c k n { s with blocked := false } { u with blocked := false } :=
  h.write (fun t => { t with blocked := false }) fun _ _ _ _ => ⟨rfl, rfl⟩

theorem Alike.fetchOpcode (h : Alike c k n s u) : Alike c k n s.fetchOpcode u.fetchOpcode := by
  obtain ⟨T, L, rfl⟩ := h.eq_retimed
  exact h.fetch.update (fun v t => { t with opCode := v }) (fun _ _ _ _ _ => ⟨rfl, rfl⟩) (h.byteAt s.pc)

theorem Alike.openIndexedBit (h : Alike c k n s u) : Alike c k n s.openIndexedBit u.openIndexedBit := by
  obtain ⟨T, L, rfl⟩ := h.eq_retimed
  have ht := h.unblock.imm8.imm8.tick (h.constant TactConstants.indexedBit)
  have hd := ht.update (fun v t => { t with disp := v }) (fun _ _ _ _ _ => ⟨rfl, rfl⟩) (h.byteAt s.pc)
  exact hd.update (fun v t => { t with opCode := v }) (fun _ _ _ _ _ => ⟨rfl, rfl⟩) (h.byteAfter 1 (s.pc + 1#16))

theorem Alike.enter (h : Alike c k n s u) : Alike c k n s.enter u.enter := by
  have hp := h.atPrefix
  have hi := h.openIndexedBit
  have hf := h.fetchOpcode
  obtain ⟨T, L, rfl⟩ := h.eq_retimed
  unfold State.enter
  rw [hp]
  exact hi.ite (hf.ite hf.unblock)

theorem Alike.close (h : Alike c k n s u) (p : Bool) : Alike c k n (s.close p) (u.close p) :=
  h.ite (h.write State.finish fun _ _ _ _ => ⟨rfl, rfl⟩)

/-! ## The signal step (R521) -/

theorem Alike.leaveHalt (h : Alike c k n s u) : Alike c k n s.leaveHalt u.leaveHalt := by
  rw [leaveHalt_eq, leaveHalt_eq]
  exact h.write (fun t => { t with pc := if t.sig.halted then t.pc + 1#16 else t.pc, sig.halted := false })
    fun _ _ _ _ => ⟨rfl, rfl⟩

theorem Alike.pc (h : Alike c k n s u) : u.pc = s.pc := by rw [h.fields]; rfl

theorem Alike.vectorAddress (h : Alike c k n s u) : u.vectorAddress = s.vectorAddress := by rw [h.fields]; rfl

theorem Alike.interruptAck (h : Alike c k n s u) : Alike c k n s.interruptAck u.interruptAck := by
  have h1 := h.leaveHalt.write (fun t => { t with iff1 := false, iff2 := false }) fun _ _ _ _ => ⟨rfl, rfl⟩
  have h2 := ((h1.tick (h.constant TactConstants.intPush)).push16 h1.pc).tick (h.constant TactConstants.intJump)
  have hj := h2.write (fun t => (t.setWz t.cfg.vecInt).setPc t.cfg.vecInt) fun _ _ _ _ => ⟨rfl, rfl⟩
  have him : u.im = s.im := by rw [h.fields]; rfl
  unfold State.interruptAck
  rw [him]
  cases s.im with
  | im0 => exact hj
  | im1 => exact hj
  | im2 =>
    have ha := h2.vectorAddress
    have hw := (congrArg _ ha).trans (h2.wordAt _)
    exact (((h2.rd ha).rd (congrArg (· + 1#16) ha)).setWz hw).setPc hw

theorem Alike.nmiEntry (h : Alike c k n s u) : Alike c k n s.nmiEntry u.nmiEntry := by
  have h1 := h.leaveHalt.write (fun t => { t with iff2 := t.iff1, iff1 := false }) fun _ _ _ _ => ⟨rfl, rfl⟩
  have h2 := ((h1.tick (h.constant TactConstants.nmiPush)).push16 h1.pc).tick (h.constant TactConstants.nmiJump)
  exact h2.write (fun t => { t with wz := t.cfg.vecNmi, pc := t.cfg.vecNmi, sig.nmi := false })
    fun _ _ _ _ => ⟨rfl, rfl⟩

theorem Alike.haltedCycle (h : Alike c k n s u) : Alike c k n s.haltedCycle u.haltedCycle :=
  (h.tick (h.constant TactConstants.halted)).write (fun t => { t with rReg := refresh t.rReg })
    fun _ _ _ _ => ⟨rfl, rfl⟩

/-- A reset clears `tacts` on both sides. -/
theorem Alike.resetOp (h : Alike c k n s u) : Alike c k 0 s.resetOp u.resetOp :=
  ⟨h.cfg, congrArg State.resetOp h.fields, h.calls, fun _ _ _ => rfl⟩

/-! ## The end of a cycle (R66, R67) -/

/-- The Bus' own tacts: the same on both sides where no platform reads the stamps, since the calls are the same. -/
theorem Alike.settle (h : Alike c k n s u) (b : Nat) : Alike c k n (s.settle b) (u.settle b) := by
  refine ⟨h.cfg, ?_, ?_, fun e hm hp => ?_⟩
  · obtain ⟨T, L, rfl⟩ := h.eq_retimed
    rfl
  · rw [State.settle_contents, State.settle_contents, h.calls]
  · obtain ⟨d, hd⟩ : ∃ d, c.bus.memDelay = .constant d := by
      cases hk : c.bus.memDelay with
      | constant d => exact ⟨d, rfl⟩
      | platform => exact absurd hk hm
    have hb : u.cfg.bus = c.bus := by rw [h.fields, ← h.cfg]; rfl
    have hc : memCalls (u.log.take (u.log.length - b)) = memCalls (s.log.take (s.log.length - b)) :=
      memCalls_of_contents (by rw [List.map_take, List.map_take, h.calls, h.log_length])
    simp only [State.settle, hb, h.cfg, Bus.retime_tacts hd hp, hc, h.tacts e hm hp]
    omega

/-! ## The step -/

/-- At the same constants only `tacts` and the log may differ. -/
theorem Alike.eq_of_same_constants (h : Alike c c.tact n s u) : { u with tacts := s.tacts, log := s.log } = s := by
  obtain ⟨T, L, rfl⟩ := h.eq_retimed
  obtain rfl := h.cfg
  rfl

theorem Alike.takesInt (h : Alike c k n s u) : u.takesInt = s.takesInt := by rw [h.fields]; rfl

theorem Alike.sig (h : Alike c k n s u) : u.sig = s.sig := by rw [h.fields]; rfl

theorem Alike.missingTable (h : Alike c k n s u) : u.missingTable = s.missingTable := by rw [h.fields]; rfl

theorem Alike.signalStep_eq_none (h : Alike c k n s u) (hs : s.signalStep = none) : u.signalStep = none := by
  rw [signalStep_none, h.takesInt, h.sig]
  exact signalStep_none.mp hs

/-- The signal step performs the same action on both sides; a reset is the one that clears `tacts`. -/
theorem Alike.signalStep_some (h : Alike c k n s u) {t : State} (hs : s.signalStep = some t) :
    ∃ v, u.signalStep = some v ∧
      (Alike c k n t v ∨ (s.sig.reset = true ∧ t = s.resetOp ∧ v = u.resetOp)) := by
  rcases signalStep_cases hs with ⟨hi, rfl⟩ | ⟨hi, hh, rfl⟩ | ⟨hi, hh, hr, rfl⟩ | ⟨hi, hh, hr, hn, rfl⟩
  · exact ⟨_, by simp [State.signalStep, h.takesInt, hi], .inl h.interruptAck⟩
  · exact ⟨_, by simp [State.signalStep, h.takesInt, h.sig, hi, hh], .inl h.haltedCycle⟩
  · exact ⟨_, by simp [State.signalStep, h.takesInt, h.sig, hi, hh, hr], .inr ⟨hr, rfl, rfl⟩⟩
  · exact ⟨_, by simp [State.signalStep, h.takesInt, h.sig, hi, hh, hr, hn], .inl h.nmiEntry⟩

/-- A step answers on both sides; the states it answers are alike again, `tacts` cleared in both by the reset signal. -/
theorem Alike.step_next (h : Alike c k n s u) {t : State} (ht : step s = .next t) :
    ∃ v, step u = .next v ∧ (Alike c k n t v ∨
      (s.sig.reset = true ∧ t.tacts = 0 ∧ v.tacts = 0 ∧ Alike c k 0 t v)) := by
  obtain ⟨w, rfl, hs | ⟨hs, hm, rfl⟩⟩ := Machine.step_next ht
  · obtain ⟨v, hv, ha | ⟨hr, rfl, rfl⟩⟩ := h.signalStep_some hs
    · refine ⟨_, step_of_some hv, .inl ?_⟩
      rw [h.log_length]
      exact ha.settle _
    · have e (x : State) : x.resetOp.settle x.log.length = x.resetOp := State.settle_no_calls x.resetOp
      refine ⟨_, step_of_some hv, .inr ?_⟩
      rw [e, e]
      exact ⟨hr, rfl, rfl, h.resetOp⟩
  · refine ⟨_, (step_of_none (h.signalStep_eq_none hs)).trans (runCycle_eq (h.missingTable.trans hm)), .inl ?_⟩
    rw [h.log_length, h.nextForm, h.atPrefix]
    exact ((formRun_alike s.nextForm h.enter).close s.atPrefix).settle s.log.length

/-- A step faults exactly where the cycle of the dispatcher finds its opcode space missing (R168). -/
theorem step_fault_iff {r : Fault} : step s = .fault r ↔
    s.signalStep = none ∧ ∃ space, s.missingTable = some space ∧ r = .unimplemented space s.pc := by
  unfold step
  cases hs : s.signalStep with
  | some t => simp
  | none =>
    cases hm : s.missingTable with
    | none => simp [runCycle_eq hm]
    | some space => simp [runCycle, hm, eq_comm]

theorem Alike.step_fault (h : Alike c k n s u) {r : Fault} (hr : step s = .fault r) : step u = .fault r := by
  rw [step_fault_iff] at hr ⊢
  rw [h.missingTable, h.pc]
  exact ⟨h.signalStep_eq_none hr.1, hr.2⟩

end Sys2Proof.Machine

open Sys2Proof Sys2Proof.Machine

/-- Settles O57: a delay, and other tact constants, lead to a state alike to the first one. -/
theorem tactsAreNeverRead : Obligations.TactsAreNeverRead := by
  unfold Obligations.TactsAreNeverRead
  intro s n
  have hd : Alike s.cfg s.cfg.tact n.toNat s (s.act (.contentionDelay n)) := ⟨rfl, rfl, rfl, fun _ _ _ => rfl⟩
  have hk (k : TactConstants) : Alike s.cfg k 0 s { s with cfg.tact := k } := ⟨rfl, rfl, rfl, fun _ _ _ => rfl⟩
  refine ⟨fun t ht => ?_, fun r => hd.step_fault, fun k => ⟨fun t ht => ?_, fun r => (hk k).step_fault⟩⟩
  · obtain ⟨u, hu, h | ⟨hr, ht0, hu0, h⟩⟩ := hd.step_next ht
    · exact ⟨u, hu, h.eq_of_same_constants, h.calls, fun hm hp => .inl (h.tacts rfl hm hp)⟩
    · exact ⟨u, hu, h.eq_of_same_constants, h.calls, fun _ _ => .inr ⟨hr, hu0, ht0⟩⟩
  · obtain ⟨u, hu, h⟩ := (hk k).step_next ht
    obtain ⟨m, h⟩ : ∃ m, Alike s.cfg k m t u := h.elim (⟨_, ·⟩) fun h => ⟨_, h.2.2.2⟩
    exact ⟨u, hu, congrArg State.cfg h.fields, by rw [h.fields]; rfl, h.calls⟩
end

section
/-! PROOFS. What every step keeps: the parameters, the canonical form of memory, the earlier calls, a tact counter that rises
(`Grows`), and the relations between the latches (`Inv`). The signal actions other than reset come to one structure
(`Interrupted`), the cycle of the dispatcher to what its form writes. Settles O46, O53, O55 and O59. -/

namespace Sys2Proof.Machine

variable {s t u : State}

/-- What every action of a step does but `Reset()`: bus calls are added on top, tacts rise, memory stays canonical, the
parameters stand. -/
structure Grows (s t : State) : Prop where
  cfg : t.cfg = s.cfg
  memWf : Memory.wf s.mem = true → Memory.wf t.mem = true
  calls : ∃ c, t.log = c ++ s.log
  tacts : s.tacts ≤ t.tacts
  written : s.WrittenTacts → s.tacts + 4 ≤ t.tacts

theorem Grows.steady (h : Grows s t) (k : Steady t u) : Grows s u := by
  obtain ⟨c, hc⟩ := h.calls
  obtain ⟨d, hd⟩ := k.calls
  exact ⟨k.cfg.trans h.cfg, fun w => k.memWf (h.memWf w), ⟨d ++ c, by rw [hd, hc, List.append_assoc]⟩,
    h.tacts.trans k.tacts, fun w => (h.written w).trans k.tacts⟩

/-- The end of a cycle moves the stamps of this cycle's calls only. -/
theorem Grows.settle (h : Grows s t) : Grows s (t.settle s.log.length) := by
  obtain ⟨c, hc⟩ := h.calls
  have hle := t.settle_tacts_le s.log.length
  exact ⟨h.cfg, h.memWf, ⟨_, (State.settle_log hc).1⟩, h.tacts.trans hle, fun w => (h.written w).trans hle⟩

/-! ## The signal actions other than reset (R523, R527, R530) -/

/-- They leave the hold-off and the latches alone, and halt nothing. -/
structure Interrupted (s t : State) : Prop extends Grows s t where
  blocked : t.blocked = s.blocked
  inOp : t.inOp = s.inOp
  prefixMode : t.prefixMode = s.prefixMode
  indexMode : t.indexMode = s.indexMode
  halted : t.sig.halted = true → s.sig.halted = true

/-- Both interrupt entries leave the halt, write the flip-flops, push a word, and then do quiet work. -/
theorem Quiet.interrupted {x : State} {m : Nat} {v : Word} (h : Quiet ((x.tick m).push16 v) t)
    (hx : x = { s with pc := x.pc, sig := x.sig, iff1 := x.iff1, iff2 := x.iff2 }) (hh : x.sig.halted = false) :
    Interrupted s t := by
  have hp := ((Quiet.refl x).tick m).push16 v
  have hs : Steady s x := by rw [hx]; exact ⟨rfl, rfl, rfl, id, ⟨[], rfl⟩, Nat.le_refl _⟩
  have ht := (hs.trans hp.toSteady).trans h.toSteady
  have htacts : x.tacts = s.tacts := by rw [hx]
  refine ⟨⟨ht.cfg, ht.memWf, ht.calls, ht.tacts, fun hw => ?_⟩, ?_, ?_, ?_, ?_, fun hhalt => ?_⟩
  · have hpush := h.tacts
    rw [State.push16_tacts, State.tick_tacts, State.tick_cfg, hs.cfg, hw, htacts] at hpush
    simp only [TactConstants.written] at hpush
    omega
  · rw [h.blocked, hp.blocked, hx]
  · rw [h.inOp, hp.inOp, hx]
  · rw [h.prefixMode, hp.prefixMode, hx]
  · rw [h.indexMode, hp.indexMode, hx]
  · rw [h.sig, hp.sig, hh] at hhalt
    exact absurd hhalt Bool.false_ne_true

theorem interruptAck_interrupted (s : State) : Interrupted s s.interruptAck := by
  have hq : Quiet (({ s.leaveHalt with iff1 := false, iff2 := false }.tick s.cfg.tact.intPush).push16 s.leaveHalt.pc)
      s.interruptAck := by
    unfold State.interruptAck
    have h := (Quiet.refl (({ s.leaveHalt with iff1 := false, iff2 := false }.tick s.cfg.tact.intPush).push16
      s.leaveHalt.pc)).tick s.cfg.tact.intJump
    cases s.im with
    | im0 => exact (h.setWz _).setPc _
    | im1 => exact (h.setWz _).setPc _
    | im2 => exact (((h.rd _).rd _).setWz _).setPc _
  refine hq.interrupted ?_ ?_ <;> rw [leaveHalt_eq]

theorem nmiEntry_interrupted (s : State) : Interrupted s s.nmiEntry := by
  have hq : Quiet (({ s.leaveHalt with iff2 := s.leaveHalt.iff1, iff1 := false, sig.nmi := false }.tick
      s.cfg.tact.nmiPush).push16 s.leaveHalt.pc) s.nmiEntry :=
    (((Quiet.refl _).tick s.cfg.tact.nmiJump).setWz _).setPc _
  refine hq.interrupted ?_ ?_ <;> rw [leaveHalt_eq]

theorem haltedCycle_interrupted (s : State) : Interrupted s s.haltedCycle :=
  ⟨⟨rfl, id, ⟨[], rfl⟩, Nat.le_add_right _ _, fun hw => Nat.add_le_add_left (by rw [hw]; decide) _⟩,
    rfl, rfl, rfl, rfl, id⟩

/-- A signal's action is a reset, or leaves the latches and the hold-off alone. -/
theorem signalStep_interrupted (h : s.signalStep = some t) : Interrupted s t ∨
    (s.takesInt = false ∧ s.sig.halted = false ∧ s.sig.reset = true ∧ t = s.resetOp) := by
  obtain ⟨-, rfl⟩ | ⟨-, -, rfl⟩ | hr | ⟨-, -, -, -, rfl⟩ := signalStep_cases h
  · exact .inl (interruptAck_interrupted s)
  · exact .inl (haltedCycle_interrupted s)
  · exact .inr hr
  · exact .inl (nmiEntry_interrupted s)

/-- A reset makes no call, so the end of its cycle adds nothing. -/
theorem State.resetOp_settle (s : State) : s.resetOp.settle s.log.length = s.resetOp :=
  s.resetOp.settle_no_calls

/-! ## The cycle of the dispatcher (R160 to R169) -/

@[simp] theorem State.close_iReg (p : Bool) : (s.close p).iReg = s.iReg := by cases p <;> rfl
@[simp] theorem State.close_rReg (p : Bool) : (s.close p).rReg = s.rReg := by cases p <;> rfl
@[simp] theorem State.close_im (p : Bool) : (s.close p).im = s.im := by cases p <;> rfl
@[simp] theorem State.close_iff1 (p : Bool) : (s.close p).iff1 = s.iff1 := by cases p <;> rfl
@[simp] theorem State.close_iff2 (p : Bool) : (s.close p).iff2 = s.iff2 := by cases p <;> rfl
@[simp] theorem State.close_sig (p : Bool) : (s.close p).sig = s.sig := by cases p <;> rfl
@[simp] theorem State.close_blocked (p : Bool) : (s.close p).blocked = s.blocked := by cases p <;> rfl

theorem State.close_steady (s : State) (p : Bool) : Steady s (s.close p) := by
  cases p <;> exact ⟨rfl, rfl, rfl, id, ⟨[], rfl⟩, Nat.le_refl _⟩

theorem enter_grows (s : State) : Grows s s.enter := by
  obtain ⟨-, hmem, hcfg, -, -, -, -, -, -, -, -, htacts, hlog, -⟩ := enter_keeps s
  exact ⟨hcfg, fun w => hmem ▸ w, hlog, htacts ▸ Nat.le_add_right _ _, enter_tacts_le⟩

theorem cycle_grows (s : State) : Grows s ((formRun s.nextForm s.enter).close s.atPrefix) :=
  ((enter_grows s).steady (formRun_steady _ _)).steady (State.close_steady _ _)

/-- Every step grows but a reset. -/
theorem step_grows (h : step s = .next t) : Grows s t ∨ (s.sig.reset = true ∧ t = s.resetOp) := by
  obtain ⟨u, rfl, hs | ⟨-, -, rfl⟩⟩ := step_next h
  · obtain hi | ⟨-, -, hr, rfl⟩ := signalStep_interrupted hs
    · exact .inl hi.toGrows.settle
    · exact .inr ⟨hr, s.resetOp_settle⟩
  · exact .inl (cycle_grows s).settle

/-- The row of the next cycle names its form. -/
theorem nextInstr_eq_iff (f : Form) : s.nextInstr = f.instr ↔ s.nextForm = f :=
  ⟨form_of_instr, congrArg Form.instr⟩

theorem prefixForm_iff (f : Form) :
    prefixForm f = true ↔ f = .prefixCb ∨ f = .prefixDd ∨ f = .prefixEd ∨ f = .prefixFd := by
  constructor
  · intro h
    cases f with
    | prefixCb => exact .inl rfl
    | prefixDd => exact .inr (.inl rfl)
    | prefixEd => exact .inr (.inr (.inl rfl))
    | prefixFd => exact .inr (.inr (.inr rfl))
    | _ => exact Bool.noConfusion h
  · rintro (rfl | rfl | rfl | rfl) <;> rfl

/-- `CB`, `DD`, `ED` and `FD` leave an instruction in progress, held off, with a latch set; the extended latch stands alone
(R161, R162). -/
theorem formRun_prefix {f : Form} (hf : prefixForm f = true) (hp : s.prefixMode = .none) :
    (formRun f s).inOp = true ∧ (formRun f s).blocked = true ∧
    ((formRun f s).prefixMode ≠ .none ∨ (formRun f s).indexMode ≠ .none) ∧
    ((formRun f s).prefixMode = .extended → (formRun f s).indexMode = .none) := by
  have hplain : s.prefixMode ≠ .extended := by rw [hp]; decide
  obtain rfl | rfl | rfl | rfl := (prefixForm_iff f).mp hf
  · exact ⟨rfl, rfl, .inl nofun, nofun⟩
  · exact ⟨rfl, rfl, .inr nofun, fun h => absurd h hplain⟩
  · exact ⟨rfl, rfl, .inl nofun, fun _ => rfl⟩
  · exact ⟨rfl, rfl, .inr nofun, fun h => absurd h hplain⟩

/-- The signal bits after an instruction: `HALT` sets one of them (R33, R341). -/
theorem formRun_sig_eq (f : Form) (s : State) :
    (formRun f s).sig = { s.sig with halted := s.sig.halted || decide (f.instr = .halt) } := by
  by_cases hf : f = .halt
  · subst hf
    simp [formRun, halt, Form.instr]
  · have hi : f.instr ≠ .halt := fun e => hf (form_of_instr (g := .halt) e)
    simp [formRun_sig f s hf, hi]

/-- What the cycle of the dispatcher leaves in the hold-off (R36, R170). -/
theorem cycle_blocked (s : State) : ((formRun s.nextForm s.enter).close s.atPrefix).blocked = true ↔
    s.nextForm = .ei ∨ prefixForm s.nextForm = true := by
  obtain ⟨-, -, -, -, -, -, -, -, hp, -⟩ := enter_keeps s
  rw [State.close_blocked, prefixForm_nextForm]
  cases ha : s.atPrefix with
  | true =>
    have hf := (prefixForm_nextForm s).trans ha
    simp [(formRun_prefix hf (hp.trans (prefix_cases ha).1)).2.1]
  | false =>
    have hf := (prefixForm_nextForm s).trans ha
    by_cases he : s.nextForm = .ei
    · simp [he, formRun, ei]
    · simp [he, formRun_blocked _ s.enter he hf, enter_blocked ha]

/-! ## The invariant -/

theorem Inv.settle (h : Inv s) (n : Nat) : Inv (s.settle n) :=
  ⟨h.mem_wf, h.ext_plain, h.inOp_iff, h.held, h.halt_idle⟩

theorem Inv.interrupted (h : Inv s) (k : Interrupted s t) : Inv t where
  mem_wf := k.memWf h.mem_wf
  ext_plain := by rw [k.prefixMode, k.indexMode]; exact h.ext_plain
  inOp_iff := by rw [k.prefixMode, k.indexMode, k.inOp]; exact h.inOp_iff
  held := by rw [k.inOp, k.blocked]; exact h.held
  halt_idle hh := by rw [k.inOp]; exact h.halt_idle (k.halted hh)

/-- `Reset()` establishes every relation but the form of memory, which it keeps (R560). -/
theorem Inv.of_reset (h : Memory.wf s.mem = true) : Inv s.resetOp :=
  ⟨h, nofun, ⟨nofun, by simp [State.resetOp]⟩, nofun, nofun⟩

/-- `Finish()` leaves no latch and no instruction in progress (R169). -/
theorem Inv.of_finish (h : Memory.wf s.mem = true) : Inv s.finish :=
  ⟨h, nofun, ⟨nofun, by simp⟩, nofun, fun _ => rfl⟩

/-- The cycle of the dispatcher: `CB`, `DD`, `ED` and `FD` set their latches, every other opcode ends in `Finish()`. -/
theorem Inv.cycle (h : Memory.wf s.mem = true) (hs : s.signalStep = none) :
    Inv ((formRun s.nextForm s.enter).close s.atPrefix) := by
  have hm := (cycle_grows s).memWf h
  cases ha : s.atPrefix with
  | false =>
    rw [ha] at hm
    exact .of_finish hm
  | true =>
    rw [ha] at hm
    obtain ⟨-, -, -, hsig, -, -, -, -, hpm, -⟩ := enter_keeps s
    have hf := (prefixForm_nextForm s).trans ha
    obtain ⟨hin, hbl, hlatch, hext⟩ := formRun_prefix hf (hpm.trans (prefix_cases ha).1)
    have hhalt : (formRun s.nextForm s.enter).sig = s.sig :=
      (formRun_sig _ _ fun e => by rw [e] at hf; exact Bool.noConfusion hf).trans hsig
    exact ⟨hm, hext, ⟨fun _ => hlatch, fun _ => hin⟩, fun _ => hbl,
      fun e => absurd ((congrArg Signals.halted hhalt).symm.trans e) (by simp [(signalStep_none.mp hs).2.1])⟩

end Sys2Proof.Machine

open Sys2Proof Sys2Proof.Machine

/-- Settles O46: the signal actions leave the latches alone or clear them, and the cycle of the dispatcher either sets them
together with the hold-off or clears them. -/
theorem stepKeepsInvariant : Obligations.StepKeepsInvariant := by
  unfold Obligations.StepKeepsInvariant
  intro s t h ht
  obtain ⟨u, rfl, hs | ⟨hs, -, rfl⟩⟩ := step_next ht
  · obtain hi | ⟨-, -, -, rfl⟩ := signalStep_interrupted hs
    · exact (h.interrupted hi).settle _
    · exact (Inv.of_reset h.mem_wf).settle _
  · exact (Inv.cycle h.mem_wf hs).settle _

/-- Settles O53: a cycle clears `blocked` before a terminal opcode, so only `EI`, `CB`, `DD`, `ED` and `FD` leave it set. -/
theorem interruptHoldOff : Obligations.InterruptHoldOff := by
  unfold Obligations.InterruptHoldOff
  intro s t ht
  obtain ⟨u, rfl, hs⟩ := step_next ht
  refine ⟨fun hnone => ?_, fun hb => by simp [State.takesInt, hb], fun hsome hw => ?_⟩
  · obtain hs | ⟨-, -, rfl⟩ := hs
    · exact absurd (hnone.symm.trans hs) nofun
    · rw [State.settle_blocked, cycle_blocked, prefixForm_iff]
      exact (or_congr (nextInstr_eq_iff .ei) (or_congr (nextInstr_eq_iff .prefixCb) (or_congr (nextInstr_eq_iff .prefixDd)
        (or_congr (nextInstr_eq_iff .prefixEd) (nextInstr_eq_iff .prefixFd))))).symm
  · obtain hs | ⟨hnone, -⟩ := hs
    · obtain hi | ⟨hi, hh, hr, -⟩ := signalStep_interrupted hs
      · exact hi.blocked
      · simp [hi, hh, hr] at hw
    · exact absurd hnone hsome

/-- Settles O55: entering and closing a cycle leave these registers to the instruction, and each has its few writers. -/
theorem systemRegisterWriters : Obligations.SystemRegisterWriters := by
  unfold Obligations.SystemRegisterWriters
  intro s t ht
  have hcfg : t.cfg = s.cfg := (step_grows ht).elim Grows.cfg fun h => by rw [h.2]; rfl
  refine ⟨hcfg, fun hnone => ?_⟩
  obtain ⟨u, rfl, hs | ⟨-, -, rfl⟩⟩ := step_next ht
  · exact absurd (hnone.symm.trans hs) nofun
  obtain ⟨-, -, -, hsig, hiff1, hiff2, him, -, -, -, hi, -, -, hr⟩ := enter_keeps s
  simp only [State.settle_iReg, State.settle_im, State.settle_rReg, State.settle_iff1, State.settle_iff2, State.settle_sig,
    State.close_iReg, State.close_im, State.close_rReg, State.close_iff1, State.close_iff2, State.close_sig]
  have hne {f : Form} (h : s.nextInstr ≠ f.instr) : s.nextForm ≠ f := fun e => h ((nextInstr_eq_iff f).mpr e)
  refine ⟨fun h => ?_, fun h => ?_, fun h => ?_, fun hdi hei hretn hreti => ?_, ?_⟩
  · exact (formRun_iReg _ _ (hne h)).trans hi
  · exact (formRun_im _ _ fun m y => hne (h m y)).trans him
  · rw [formRun_rReg _ _ (hne h), hr]
  · obtain ⟨h1, h2⟩ := formRun_iff _ s.enter (hne hdi) (hne hei) (fun y => hne (hretn y)) (hne hreti)
    exact ⟨h1.trans hiff1, h2.trans hiff2⟩
  · rw [formRun_sig_eq, hsig, nextInstr_eq]

/-- Settles O59: every step grows but a reset, which makes no call and clears `tacts`. -/
theorem tactsAndCallsOnlyGrow : Obligations.TactsAndCallsOnlyGrow := by
  unfold Obligations.TactsAndCallsOnlyGrow
  intro s t ht
  obtain h | ⟨hr, rfl⟩ := step_grows ht
  · exact ⟨h.calls, .inl ⟨h.tacts, h.written⟩⟩
  · exact ⟨⟨[], rfl⟩, .inr ⟨rfl, hr, rfl, rfl⟩⟩
end

section
/-! PROOFS. The shadow registers (R22): an instruction on a state with other shadows is the instruction on the state, with
those shadows. Settles O56. -/

namespace Sys2Proof.Machine

/-- The state with other shadow registers. -/
def State.withShadows (s : State) (w x y z : Word) : State := { s with afAlt := w, bcAlt := x, deAlt := y, hlAlt := z }

variable (s : State) (w x y z : Word)

/-- A choice that does not depend on the shadows. -/
theorem withShadows_ite (p : Prop) [Decidable p] (t u : State) :
    (if p then t.withShadows w x y z else u.withShadows w x y z) = (if p then t else u).withShadows w x y z := by
  split <;> rfl

theorem withShadows_extraReads (da : Word) (n : Nat) :
    (s.withShadows w x y z).extraReads da n = (s.extraReads da n).withShadows w x y z := by
  induction n generalizing s with
  | zero => rfl
  | succ n ih => exact ih ((s.note .memRead da (s.byteAt da)).tick s.cfg.tact.extraRead)

theorem withShadows_jumpRelative (da : Word) (e : Byte) :
    (s.withShadows w x y z).jumpRelative da e = (s.jumpRelative da e).withShadows w x y z := by
  have hdelay : (s.withShadows w x y z).takenDelay da = (s.takenDelay da).withShadows w x y z := by
    unfold State.takenDelay
    rw [← withShadows_ite, ← withShadows_extraReads]
    rfl
  unfold State.jumpRelative
  dsimp only
  rw [hdelay]
  rfl

theorem withShadows_blockLoadRepeat (dlt : Word) :
    (s.withShadows w x y z).blockLoadRepeat dlt = (s.blockLoadRepeat dlt).withShadows w x y z := by
  unfold State.blockLoadRepeat
  rw [← withShadows_ite]
  rfl

theorem withShadows_blockCompareRepeat (dlt : Word) :
    (s.withShadows w x y z).blockCompareRepeat dlt = (s.blockCompareRepeat dlt).withShadows w x y z := by
  unfold State.blockCompareRepeat
  rw [← withShadows_ite]
  rfl

theorem withShadows_blockInRepeat (dlt : Word) :
    (s.withShadows w x y z).blockInRepeat dlt = (s.blockInRepeat dlt).withShadows w x y z := by
  unfold State.blockInRepeat
  rw [← withShadows_ite]
  rfl

theorem withShadows_blockOutRepeat (dlt : Word) :
    (s.withShadows w x y z).blockOutRepeat dlt = (s.blockOutRepeat dlt).withShadows w x y z := by
  unfold State.blockOutRepeat
  rw [← withShadows_ite]
  rfl

/-- No form but an exchange reads or writes a shadow. Without a branch this is so by computation, once the operand that picks
a register is known; with one, both sides make the same choice. -/
theorem formRun_withShadows (f : Form) (haf : f ≠ .exAf) (hxx : f ≠ .exx) :
    formRun f (s.withShadows w x y z) = (formRun f s).withShadows w x y z := by
  cases f with
  | exAf => exact absurd rfl haf
  | exx => exact absurd rfl hxx
  | jpCc cc =>
    simp only [formRun, jpCc]
    rw [← withShadows_ite]
    rfl
  | callCc cc =>
    simp only [formRun, callCc]
    rw [← withShadows_ite]
    rfl
  | retCc cc =>
    simp only [formRun, retCc]
    rw [← withShadows_ite]
    rfl
  | jr => exact withShadows_jumpRelative s.imm8 w x y z s.pc (s.byteAt s.pc)
  | jrCc cc =>
    simp only [formRun, jrCc]
    rw [← withShadows_ite, ← withShadows_jumpRelative]
    rfl
  | djnz =>
    simp only [formRun, djnz]
    rw [← withShadows_ite, ← withShadows_jumpRelative]
    rfl
  | ldir | lddr => exact withShadows_blockLoadRepeat s w x y z _
  | cpir | cpdr => exact withShadows_blockCompareRepeat s w x y z _
  | inir | indr => exact withShadows_blockInRepeat s w x y z _
  | otir | otdr => exact withShadows_blockOutRepeat s w x y z _
  | ldPairImm p | addHl p | incPair p | decPair p | sbcHl p | adcHl p | ldAtNnPair p | ldPairAtNn p => cases p <;> rfl
  | push p | pop p => cases p <;> rfl
  | ldXyImm i | ldAtNnXy i | ldXyAtNn i | ldSpXy i | pushXy i | popXy i | exSpXy i | jpXy i | incXy i | decXy i => cases i <;> rfl
  | addXy i p => cases i <;> cases p <;> rfl
  | ldRegXyd i _ | ldXydReg i _ | ldXydImm i | incXyd i | decXyd i | aluXyd i _ => cases i <;> rfl
  | ldHalfImm i h | ldRegHalf i _ h | ldHalfReg i h _ | incHalf i h | decHalf i h | aluHalf i _ h =>
    cases i <;> cases h <;> rfl
  | ldHalfHalf i h k => cases i <;> cases h <;> cases k <;> rfl
  | rotXyd i _ | rotXydCopy i _ _ | bitXyd i _ _ | resXyd i _ | resXydCopy i _ _ | setXyd i _ | setXydCopy i _ _ =>
    cases i <;> rfl
  | _ => rfl

end Sys2Proof.Machine

open Sys2Proof Sys2Proof.Machine

/-- Settles O56: every instruction is a form's row, and no form but the exchanges depends on the shadows. -/
theorem shadowsReachedByExchangesOnly : Obligations.ShadowsReachedByExchangesOnly := by
  unfold Obligations.ShadowsReachedByExchangesOnly
  intro i s w x y z haf hxx
  have hne {f : Form} (h : i ≠ f.instr) : formOf i ≠ f := fun e => h (by rw [← e, formOf_instr])
  refine ⟨formRun (formOf i) s, exec_formOf i s, ?_⟩
  rw [exec_formOf]
  exact congrArg Host.Outcome.next (formRun_withShadows s w x y z _ (hne haf) (hne hxx))
end

section
/-! PROOFS. Pairs, halves and registers by name: a write is read back and touches nothing else (R21, R23, R93 to R95).
Settles O30. -/

namespace Sys2Proof

/-- A pair is its high byte times 256, or its low byte (R21). -/
theorem pairOf_eq_shift_or (h l : Byte) : pairOf h l = (h.setWidth 16 <<< 8) ||| l.setWidth 16 := by
  apply BitVec.eq_of_getLsbD_eq
  intro i hi
  rw [getLsbD_pairOf]
  by_cases h8 : i < 8
  · simp [h8, hi]
  · have hl : l.getLsbD i = false := BitVec.getLsbD_of_ge l i (by omega)
    simp [h8, hi, hl]

end Sys2Proof

namespace Sys2Proof.Machine

variable (s : State)

@[simp] theorem State.xy_setXy_same (x : XY) (v : Word) : (s.setXy x v).xy x = v := by cases x <;> rfl

theorem State.xy_setXy_other {x y : XY} (h : x ≠ y) (v : Word) : (s.setXy x v).xy y = s.xy y := by
  cases x <;> cases y
  · exact absurd rfl h
  · rfl
  · rfl
  · exact absurd rfl h

/-- A half that is written reads back, and the other half keeps its value (R23). -/
theorem State.half_setHalf (x : XY) (h k : Half) (w : Byte) :
    (s.setHalf x h w).half x k = if k = h then w else s.half x k := by
  cases h <;> cases k <;> simp

theorem State.setHalf_eq_setXy (x : XY) (h : Half) (w : Byte) : ∃ v, s.setHalf x h w = s.setXy x v := by
  cases h <;> exact ⟨_, rfl⟩

/-- A write to an index register changes the index registers only. -/
theorem State.setXy_frame (x : XY) (v : Word) : { s.setXy x v with ix := s.ix, iy := s.iy } = s := by cases x <;> rfl

theorem Regs.get_set (g : Regs) (r q : Reg8) (w : Byte) : (g.set r w).get q = if q = r then w else g.get q := by
  by_cases h : q = r
  · subst h; simp
  · rw [Regs.get_set_other g w h, if_neg h]

end Sys2Proof.Machine

open Sys2Proof Sys2Proof.Machine

/-- Settles O30: the views hold by computation, and a pair written byte by byte reads back as the word. -/
theorem pairsAreViewsOfHalves : Obligations.PairsAreViewsOfHalves := by
  unfold Obligations.PairsAreViewsOfHalves
  intro s v w
  have hback := pairOf_high_low v
  refine ⟨⟨hback, hback, hback, hback⟩, ⟨rfl, rfl, rfl, rfl⟩, ⟨rfl, rfl, rfl, rfl, rfl, rfl, rfl, rfl⟩,
    fun h l => ⟨pairOf_eq_shift_or h l, highByte_pairOf h l, lowByte_pairOf h l, hback⟩,
    ⟨rfl, rfl, rfl, rfl, rfl, rfl, rfl, rfl⟩,
    ⟨rfl, rfl, fun x => ⟨rfl, rfl, rfl, rfl, rfl, rfl, (pairOf_high_low (s.xy x)).symm⟩⟩,
    ⟨rfl, rfl, rfl, rfl, rfl, rfl, rfl⟩, ⟨rfl, rfl, rfl, rfl⟩, ⟨rfl, rfl⟩,
    fun x h k => s.half_setHalf x h k w, fun x y h hxy => ?_, fun r q => s.regs.get_set r q w, fun r => s.regs.set_f r w⟩
  obtain ⟨u, hu⟩ := s.setHalf_eq_setXy x h w
  rw [hu]
  exact ⟨s.xy_setXy_other hxy u, s.setXy_frame x u⟩
end

section
/-! PROOFS. The decoder against the encoder, row by row, and the tables of R96, R100 and R165. Settles O39, O40
and O60. -/

namespace Sys2Proof

/-! ## Reading a list (R105) -/

/-- A byte sets a latch exactly where it has one of the four values and no `CB` or `ED` stands before it (R163). -/
theorem latchStep_eq_none_iff (pm : PrefixMode) (im : IndexMode) (b : Byte) :
    latchStep pm im b = none ↔ (pm == .none && isPrefixByte b) = false := by
  cases pm with
  | none => simp only [latchStep, isPrefixByte]; split_ifs <;> simp [*]
  | bit => simp [latchStep]
  | extended => simp [latchStep]

/-- The loop over leading prefixes stops at an opcode byte, and at the last byte of the list whatever it is. -/
theorem stripPrefixes_stop {pm : PrefixMode} {im : IndexMode} {b : Byte} {bs : List Byte}
    (h : latchStep pm im b = none ∨ bs = []) : stripPrefixes pm im (b :: bs) = (pm, im, b :: bs) := by
  cases bs with
  | nil => rfl
  | cons c rest => simp [stripPrefixes, h.resolve_right (List.cons_ne_nil c rest)]

theorem stripPrefixes_latch {pm pm' : PrefixMode} {im im' : IndexMode} {b : Byte}
    (h : latchStep pm im b = some (pm', im')) {bs : List Byte} (hbs : bs ≠ []) :
    stripPrefixes pm im (b :: bs) = stripPrefixes pm' im' bs := by
  cases bs with
  | nil => exact absurd rfl hbs
  | cons c rest => rw [stripPrefixes, h]

/-- A cycle whose opcode byte comes first takes the operand bytes of its form and leaves the rest. -/
theorem decodeCycle_operands {pm : PrefixMode} {im : IndexMode} {op : Byte} {operands : List Byte}
    (hb : indexedBit pm im = false) (hlen : operands.length = (decodeForm pm im op).operandBytes) (rest : List Byte) :
    decodeCycle pm im (op :: (operands ++ rest)) = .ok (⟨decodeInstr pm im op, operands⟩, rest) := by
  simp [decodeCycle, hb, ← hlen]

/-- Two latches under which an opcode byte has one form read the same cycle. -/
theorem decodeCycle_congr {im im' : IndexMode} {op : Byte} (h : decodeForm .none im op = decodeForm .none im' op)
    (rest : List Byte) : decodeCycle .none im (op :: rest) = decodeCycle .none im' (op :: rest) := by
  simp [decodeCycle, indexedBit, decodeInstr, h]

/-! ## The bytes of a table entry -/

section
variable {pm : PrefixMode} {im : IndexMode} {op : Byte} {operands rest : List Byte}

theorem decode_of_opcode (hlen : operands.length = (decodeForm .none .none op).operandBytes)
    (hstop : latchStep .none .none op = none ∨ operands ++ rest = []) :
    decode (op :: (operands ++ rest)) = .ok (⟨decodeInstr .none .none op, operands⟩, rest) := by
  rw [decode, stripPrefixes_stop hstop]
  exact decodeCycle_operands rfl hlen rest

theorem decode_of_prefix {b : Byte} (hlatch : latchStep .none .none b = some (pm, im)) (hb : indexedBit pm im = false)
    (hlen : operands.length = (decodeForm pm im op).operandBytes)
    (hstop : latchStep pm im op = none ∨ operands ++ rest = []) :
    decode (b :: op :: (operands ++ rest)) = .ok (⟨decodeInstr pm im op, operands⟩, rest) := by
  rw [decode, stripPrefixes_latch hlatch (List.cons_ne_nil _ _), stripPrefixes_stop hstop]
  exact decodeCycle_operands hb hlen rest

/-- After `DD CB` and `FD CB` the displacement stands before the opcode byte (R166). -/
theorem decode_of_indexedBit {b d : Byte} (hlatch : latchStep .none .none b = some (.none, im)) (him : im ≠ .none) :
    decode (b :: 0xCB#8 :: d :: op :: rest) = .ok (⟨decodeInstr .bit im op, [d]⟩, rest) := by
  have hcb : latchStep .none im 0xCB#8 = some (.bit, im) := rfl
  rw [decode, stripPrefixes_latch hlatch (List.cons_ne_nil _ _), stripPrefixes_latch hcb (List.cons_ne_nil _ _),
    stripPrefixes_stop (.inl rfl)]
  simp [decodeCycle, indexedBit, him]

/-- An indexed bit opcode has one operand byte, the displacement (R103). -/
theorem operandBytes_indexedBit (him : im ≠ .none) : (decodeForm .bit im op).operandBytes = 1 := by
  have hall : ∀ x : XY, ∀ op : Byte, (decodeIndexedBit x op).operandBytes = 1 := by intro x; cases x <;> decide
  cases im with
  | none => exact absurd rfl him
  | ix => exact hall .ix op
  | iy => exact hall .iy op

theorem singleton_of_indexedBit (him : im ≠ .none) (hlen : operands.length = (decodeForm .bit im op).operandBytes) :
    ∃ d, operands = [d] :=
  List.length_eq_one_iff.mp (hlen.trans (operandBytes_indexedBit him))

/-- A table entry's bytes around its operand bytes decode to that entry; where the entry sets a latch, the list has to end. -/
theorem decode_entryBytes (hlen : operands.length = (decodeForm pm im op).operandBytes)
    (hstop : latchStep pm im op = none ∨ operands ++ rest = []) :
    decode ((entryBytes (pm, im, op)).1 ++ operands ++ (entryBytes (pm, im, op)).2 ++ rest) =
      .ok (⟨decodeInstr pm im op, operands⟩, rest) := by
  match pm, im with
  | .none, .none => simpa [entryBytes] using decode_of_opcode hlen hstop
  | .none, .ix => simpa [entryBytes] using decode_of_prefix (b := 0xDD#8) rfl rfl hlen hstop
  | .none, .iy => simpa [entryBytes] using decode_of_prefix (b := 0xFD#8) rfl rfl hlen hstop
  | .bit, .none => simpa [entryBytes] using decode_of_prefix (b := 0xCB#8) rfl rfl hlen hstop
  | .bit, .ix =>
    obtain ⟨d, rfl⟩ := singleton_of_indexedBit (by decide) hlen
    exact decode_of_indexedBit rfl (by decide)
  | .bit, .iy =>
    obtain ⟨d, rfl⟩ := singleton_of_indexedBit (by decide) hlen
    exact decode_of_indexedBit rfl (by decide)
  | .extended, _ =>
    simpa [entryBytes, decodeInstr, decodeForm] using decode_of_prefix (b := 0xED#8) (im := .none) rfl rfl hlen hstop

end

theorem operandBytes_of_prefixForm {f : Form} (h : Machine.prefixForm f = true) : f.operandBytes = 0 := by
  obtain rfl | rfl | rfl | rfl := (Machine.prefixForm_iff f).mp h <;> rfl

/-- The round trip, with a rest that is empty where the instruction is `CB`, `DD`, `ED` or `FD` itself. -/
theorem decode_encode {d : Decoded} (hd : d.wf = true) {rest : List Byte}
    (hrest : rest = [] ∨
      d.instr ≠ .prefix_cb ∧ d.instr ≠ .prefix_dd ∧ d.instr ≠ .prefix_ed ∧ d.instr ≠ .prefix_fd) :
    decode (encode d ++ rest) = .ok (d, rest) := by
  simp only [Decoded.wf, Bool.and_eq_true, beq_iff_eq] at hd
  obtain ⟨hwf, hcount⟩ := hd
  have hrow := rowEntry_decodes d.instr hwf
  have hlen := hcount.trans (rowEntry_operands d.instr hwf).symm
  rw [encode_eq]
  generalize rowEntry (rowCode d.instr) = e at hrow hlen
  obtain ⟨pm, im, op⟩ := e
  have hstop : latchStep pm im op = none ∨ d.operands ++ rest = [] := by
    cases hf : Machine.prefixForm (decodeForm pm im op) with
    | false => exact .inl ((latchStep_eq_none_iff pm im op).mpr (Machine.prefixForm_decode pm im op ▸ hf))
    | true =>
      refine .inr (List.append_eq_nil_iff.mpr ⟨?_, hrest.resolve_right fun hne => ?_⟩)
      · exact List.length_eq_zero_iff.mp (hlen.trans (operandBytes_of_prefixForm hf))
      · obtain ⟨hcb, hdd, hed, hfd⟩ := hne
        have hi : (decodeForm pm im op).instr = d.instr := hrow
        obtain h | h | h | h := (Machine.prefixForm_iff _).mp hf <;> rw [h] at hi
        · exact hcb hi.symm
        · exact hdd hi.symm
        · exact hed hi.symm
        · exact hfd hi.symm
  rw [decode_entryBytes hlen hstop, hrow]

/-! ## The tables (R92 to R104) -/

/-- No opcode byte decodes to a term outside the rows (R104, R173). -/
theorem decodeInstr_wf (pm : PrefixMode) (im : IndexMode) : ∀ op : Byte, (decodeInstr pm im op).wf = true := by
  cases pm <;> cases im <;> decide

/-- The encoder's row has the opcode byte it was decoded from, also where the rules give several bytes one meaning
(log 13). -/
theorem rowEntry_opcode (pm : PrefixMode) (im : IndexMode) :
    ∀ op : Byte, (rowEntry (rowCode (decodeInstr pm im op))).2.2 = op := by
  cases pm <;> cases im <;> decide

theorem decodeInstr_injective (pm : PrefixMode) (im : IndexMode) : Function.Injective (decodeInstr pm im) :=
  Function.LeftInverse.injective (g := fun i => (rowEntry (rowCode i)).2.2) (rowEntry_opcode pm im)

/-- Outside the overrides the index table is the standard table (R382). -/
theorem decodeForm_inherited (im : IndexMode) :
    ∀ op : Byte, op ∉ Machine.indexOverrides → decodeForm .none im op = decodeForm .none .none op := by
  cases im with
  | none => exact fun _ _ => rfl
  | ix => decide
  | iy => decide

/-- The loop passes any list of index prefixes; the opcode byte after them is left, under some index latch. -/
theorem stripPrefixes_redundant {op : Byte} (hop : isPrefixByte op = false) (rest pre : List Byte)
    (hpre : ∀ b ∈ pre, b = 0xDD#8 ∨ b = 0xFD#8) (im : IndexMode) :
    ∃ im', stripPrefixes .none im (pre ++ op :: rest) = (.none, im', op :: rest) := by
  induction pre generalizing im with
  | nil => exact ⟨im, stripPrefixes_stop (.inl ((latchStep_eq_none_iff .none im op).mpr hop))⟩
  | cons b pre ih =>
    obtain ⟨hb, hpre⟩ := List.forall_mem_cons.mp hpre
    have hbs : pre ++ op :: rest ≠ [] := by simp
    obtain ⟨x, hx⟩ : ∃ x, latchStep .none im b = some (.none, x) := by
      obtain rfl | rfl := hb
      · exact ⟨.ix, rfl⟩
      · exact ⟨.iy, rfl⟩
    obtain ⟨im', h⟩ := ih hpre x
    exact ⟨im', (stripPrefixes_latch hx hbs).trans h⟩

/-- Redundant index prefixes change nothing of what an inherited opcode byte and the bytes after it decode to
(R165, R382). -/
theorem decode_redundant {op : Byte} (hover : op ∉ Machine.indexOverrides) (hop : isPrefixByte op = false)
    (rest pre : List Byte) (hpre : ∀ b ∈ pre, b = 0xDD#8 ∨ b = 0xFD#8) :
    decode (pre ++ op :: rest) = decode (op :: rest) := by
  obtain ⟨im, h⟩ := stripPrefixes_redundant hop rest pre hpre .none
  rw [decode, h, decode, stripPrefixes_stop (.inl ((latchStep_eq_none_iff .none .none op).mpr hop))]
  exact decodeCycle_congr (decodeForm_inherited im op hover) rest

end Sys2Proof

namespace Sys2Proof.Machine

/-- An opcode that sets no latch does the same under any index latch and leaves the latch (R165). -/
theorem exec_decodeInstr_withIndex {op : Byte} (hop : isPrefixByte op = false) (im : IndexMode) {s t : State}
    (h : exec (decodeInstr .none .none op) s = .next t) :
    exec (decodeInstr .none .none op) (s.withIndex im) = .next (t.withIndex im) := by
  have hf : prefixForm (decodeForm .none .none op) = false := (prefixForm_decode .none .none op).trans hop
  unfold decodeInstr at h ⊢
  rw [exec_instr] at h ⊢
  rw [formRun_withIndex im s _ hf, Host.Outcome.next.inj h]

end Sys2Proof.Machine

open Sys2Proof Sys2Proof.Machine

/-- Settles O39: the encoder's row leads to its entry, and the entry's bytes decode to it. -/
theorem decodeOfEncodeIsIdentity : Obligations.DecodeOfEncodeIsIdentity := by
  unfold Obligations.DecodeOfEncodeIsIdentity
  intro d hd
  exact ⟨by simpa using decode_encode hd (.inl rfl),
    fun hcb hdd hed hfd rest => decode_encode hd (.inr ⟨hcb, hdd, hed, hfd⟩)⟩

/-- Settles O40: the tables entry by entry, and the inherited entries by their form, which is the standard table's. -/
theorem decodedInstructionsAreWellFormed : Obligations.DecodedInstructionsAreWellFormed := by
  unfold Obligations.DecodedInstructionsAreWellFormed
  refine ⟨fun pm im op => ⟨decodeInstr_wf pm im op, fun op' h => decodeInstr_injective pm im h⟩, ?overrides, ?counts,
    fun im op hover => ?inherited⟩
  case overrides =>
    rintro x im (⟨rfl, rfl⟩ | ⟨rfl, rfl⟩)
    · exact ⟨rfl, rfl, rfl, rfl, rfl, rfl, rfl, rfl, rfl, rfl, rfl, rfl, rfl, rfl, rfl, rfl⟩
    · exact ⟨rfl, rfl, rfl, rfl, rfl, rfl, rfl, rfl, rfl, rfl, rfl, rfl, rfl, rfl, rfl, rfl⟩
  case counts => exact ⟨rfl, by decide, rfl⟩
  case inherited =>
    have hform := decodeForm_inherited im op hover
    have hinstr : decodeInstr .none im op = decodeInstr .none .none op := congrArg Form.instr hform
    refine ⟨hinstr, decodeCycle_congr hform, fun hop => ⟨fun pre rest => decode_redundant hover hop rest pre, ?_⟩⟩
    intro s t h
    rw [hinstr]
    exact exec_decodeInstr_withIndex hop im h

/-- Settles O60: a condition is defined by its bit, and the bytes are twelve entries of the standard table. -/
theorem conditionCodes : Obligations.ConditionCodes := by
  unfold Obligations.ConditionCodes
  exact ⟨fun f => ⟨rfl, rfl, rfl, rfl, rfl, rfl, rfl, rfl, rfl, rfl, rfl, rfl⟩, rfl, rfl⟩
end

section
/-! PROOFS. The flag tables bit by bit: a table's entry is a byte of bits `S 5 3` of a value and of five flags, sums carry
and overflow by exact arithmetic, and a difference is a sum with the complement (R121 to R136, R140); the 16-bit
instructions store them (R281, R370, R455, R456). Settles O11, O31, O32, O33, O35. -/

namespace Sys2Proof.Machine

/-! ## A flag byte from its flags (R30, R121) -/

/-- The flag byte with `S 5 3` of `v` and the five other flags as given. -/
def packFlags (v : Byte) (z h p n c : Bool) : Byte :=
  (v &&& (flagS ||| flag5 ||| flag3)) ||| flagIf z flagZ ||| flagIf h flagH ||| flagIf p flagPV ||| flagIf n flagN
    ||| flagIf c flagC

theorem getElem_flagIf (c : Bool) (m : Byte) {i : Nat} (hi : i < 8) : (flagIf c m)[i] = (c && m[i]) := by
  cases c <;> simp [flagIf]

section
variable (v : Byte) (z h p n c x : Bool)

@[simp] theorem packFlags_bits :
    (packFlags v z h p n c)[7] = v[7] ∧ (packFlags v z h p n c)[6] = z ∧ (packFlags v z h p n c)[5] = v[5] ∧
    (packFlags v z h p n c)[4] = h ∧ (packFlags v z h p n c)[3] = v[3] ∧ (packFlags v z h p n c)[2] = p ∧
    (packFlags v z h p n c)[1] = n ∧ (packFlags v z h p n c)[0] = c := by
  simp [packFlags, getElem_flagIf, flagS, flagZ, flag5, flagH, flag3, flagPV, flagN, flagC]

theorem flagIf_or_flagIf (y : Bool) (m : Byte) : flagIf x m ||| flagIf y m = flagIf (x || y) m := by
  cases x <;> cases y <;> simp [flagIf]

@[simp] theorem packFlags_or_flagZ : packFlags v z h p n c ||| flagIf x flagZ = packFlags v (z || x) h p n c := by
  rw [packFlags, packFlags, ← flagIf_or_flagIf]
  ac_rfl

@[simp] theorem packFlags_or_flagH : packFlags v z h p n c ||| flagIf x flagH = packFlags v z (h || x) p n c := by
  rw [packFlags, packFlags, ← flagIf_or_flagIf]
  ac_rfl

@[simp] theorem packFlags_or_flagPV : packFlags v z h p n c ||| flagIf x flagPV = packFlags v z h (p || x) n c := by
  rw [packFlags, packFlags, ← flagIf_or_flagIf]
  ac_rfl

@[simp] theorem packFlags_or_flagIf_flagN : packFlags v z h p n c ||| flagIf x flagN = packFlags v z h p (n || x) c := by
  rw [packFlags, packFlags, ← flagIf_or_flagIf]
  ac_rfl

@[simp] theorem packFlags_or_flagC : packFlags v z h p n c ||| flagIf x flagC = packFlags v z h p n (c || x) := by
  rw [packFlags, packFlags, ← flagIf_or_flagIf]
  ac_rfl

@[simp] theorem packFlags_or_flagN : packFlags v z h p n c ||| flagN = packFlags v z h p true c := by
  simpa [flagIf] using packFlags_or_flagIf_flagN v z h p n c true

theorem packFlags_none : v &&& (flagS ||| flag5 ||| flag3) = packFlags v false false false false false := by
  simp [packFlags, flagIf]

/-- Inverting `H`, `N` and `C` leaves the other flags. -/
theorem packFlags_xor_hnc :
    packFlags v z h p n c ^^^ (flagH ||| flagN ||| flagC) = packFlags v z (!h) p (!n) (!c) := by
  apply BitVec.eq_of_getLsbD_eq
  intro i hi
  interval_cases i <;> simp [flagH, flagN, flagC]

theorem sz53_eq_packFlags : sz53 v = packFlags v (decide (v = 0#8)) false false false false := by
  have hv : v &&& flagS ||| bits53 v = packFlags v false false false false false := by
    rw [← packFlags_none, bits53, ← BitVec.and_or_distrib_left, BitVec.or_assoc]
  have hz : (v == 0#8) = decide (v = 0#8) := rfl
  calc sz53 v = (v &&& flagS ||| bits53 v) ||| flagIf (v == 0#8) flagZ := by unfold sz53; ac_rfl
    _ = _ := by simp [hv, hz]

theorem szp53_eq_packFlags : szp53 v = packFlags v (decide (v = 0#8)) false (evenParity v) false false := by
  simp [szp53, sz53_eq_packFlags]
end

theorem decide_add_bit_even (k : Nat) (x : Bool) :
    decide ((k + x.toNat) % 2 = 0) = (decide (k % 2 = 0) ^^ x) := by
  cases x
  · simp
  · obtain h | h := Nat.mod_two_eq_zero_or_one k <;> simp [Nat.add_mod, h]

/-- An even number of 1 bits, counted. -/
theorem evenParity_eq (v : Byte) : evenParity v = decide (((v.getLsbD 0).toNat + (v.getLsbD 1).toNat + (v.getLsbD 2).toNat
    + (v.getLsbD 3).toNat + (v.getLsbD 4).toNat + (v.getLsbD 5).toNat + (v.getLsbD 6).toNat + (v.getLsbD 7).toNat) % 2 = 0) := by
  rw [← Nat.zero_add (v.getLsbD 0).toNat]
  simp only [decide_add_bit_even]
  simp [evenParity]

/-! ## The sign bits of a sum or difference (R127, R128, R136) -/

/-- Two's complement numbers below `2 * m`: the signs of two operands agree and the sign of the wrapped sum differs exactly
when the exact sum leaves `-m` to `m - 1`. -/
theorem signs_eq_overflow {m x y k r : Nat} (hx : x < m * 2) (hy : y < m * 2) (hk : k ≤ 1)
    (hr : r = (x + y + k) % (m * 2)) :
    (!(decide (m ≤ x) ^^ decide (m ≤ y)) && (decide (m ≤ x) ^^ decide (m ≤ r))) =
      decide ((if m ≤ x then (x : Int) - m * 2 else x) + (if m ≤ y then (y : Int) - m * 2 else y) + k < -m ∨
        (m : Int) - 1 < (if m ≤ x then (x : Int) - m * 2 else x) + (if m ≤ y then (y : Int) - m * 2 else y) + k) := by
  have hwrap : r = x + y + k ∧ x + y + k < m * 2 ∨ r + m * 2 = x + y + k := by
    obtain h | h := Nat.lt_or_ge (x + y + k) (m * 2)
    · exact .inl ⟨hr.trans (Nat.mod_eq_of_lt h), h⟩
    · rw [hr, Nat.mod_eq_sub_mod h, Nat.mod_eq_of_lt (by omega)]
      omega
  rw [Bool.eq_iff_iff]
  by_cases hmx : m ≤ x <;> by_cases hmy : m ≤ y <;> simp [hmx, hmy] <;> omega

theorem toNat_not_add (c : Bool) : (!c).toNat + c.toNat = 1 := by cases c <;> rfl

section
variable {w : Nat} (hw : 0 < w) (a b r : BitVec w)
include hw

theorem and_intMin_bne_zero : (a &&& BitVec.intMin w != 0#w) = a.msb := by
  rw [BitVec.intMin, BitVec.and_twoPow, ← BitVec.msb_eq_getLsbD_last]
  cases a.msb <;> simp [BitVec.twoPow_eq, hw]

/-- The test of ADD: the operands' signs agree and the result's differs. -/
theorem addOverflow_mask : ((a ^^^ b ^^^ BitVec.intMin w) &&& (a ^^^ r) &&& BitVec.intMin w != 0#w) =
    (!(a.msb ^^ b.msb) && (a.msb ^^ r.msb)) := by
  simp [and_intMin_bne_zero hw, BitVec.msb_intMin, hw]

/-- The signed value of a complement. -/
theorem toInt_not_eq : (~~~b).toInt = -b.toInt - 1 := by
  have hb := b.isLt
  have hnot : ((~~~b).toNat : Int) = (2 ^ w : Nat) - 1 - b.toNat := by rw [BitVec.toNat_not]; omega
  rw [BitVec.toInt_eq_msb_cond, BitVec.toInt_eq_msb_cond, BitVec.msb_not, hnot]
  cases b.msb <;> simp [hw] <;> ring

/-- ADD's test says that the exact signed sum does not fit. -/
theorem addOverflow_eq {a b r} {c : Bool} (hr : r.toNat = (a.toNat + b.toNat + c.toNat) % 2 ^ w) :
    ((a ^^^ b ^^^ BitVec.intMin w) &&& (a ^^^ r) &&& BitVec.intMin w != 0#w) =
      decide (a.toInt + b.toInt + (c.toNat : Int) < -2 ^ (w - 1) ∨
        2 ^ (w - 1) - 1 < a.toInt + b.toInt + (c.toNat : Int)) := by
  obtain ⟨n, rfl⟩ := Nat.exists_eq_succ_of_ne_zero hw.ne'
  have ha := a.isLt
  have hb := b.isLt
  rw [Nat.pow_succ] at ha hb hr
  rw [addOverflow_mask hw]
  simpa [BitVec.msb_eq_decide, BitVec.toInt_eq_msb_cond, Int.pow_succ] using signs_eq_overflow ha hb c.toNat_le hr

/-- SUB's test is ADD's on the complement, so it says that the exact signed difference does not fit. -/
theorem subOverflow_eq {a b r} {c : Bool} (hr : r.toNat = (a.toNat + (~~~b).toNat + (!c).toNat) % 2 ^ w) :
    ((a ^^^ b) &&& (a ^^^ r) &&& BitVec.intMin w != 0#w) =
      decide (a.toInt - b.toInt - (c.toNat : Int) < -2 ^ (w - 1) ∨
        2 ^ (w - 1) - 1 < a.toInt - b.toInt - (c.toNat : Int)) := by
  have hmask : ((a ^^^ b) &&& (a ^^^ r) &&& BitVec.intMin w != 0#w) =
      ((a ^^^ ~~~b ^^^ BitVec.intMin w) &&& (a ^^^ r) &&& BitVec.intMin w != 0#w) := by
    rw [addOverflow_mask hw, and_intMin_bne_zero hw]
    simp [hw]
  have hexact : a.toInt + (~~~b).toInt + ((!c).toNat : Int) = a.toInt - b.toInt - (c.toNat : Int) := by
    have hk := toNat_not_add c
    rw [toInt_not_eq hw]
    omega
  rw [hmask, addOverflow_eq hw hr, hexact]
end

/-- A difference is the sum with the complement, under the inverted carry (R129). -/
theorem sub_eq_add_not {w : Nat} (a b : BitVec w) (c : Bool) :
    a - b - (if c then 1#w else 0#w) = a + ~~~b + (if (!c) = true then 1#w else 0#w) := by
  rw [BitVec.sub_eq_add_neg a b, BitVec.neg_eq_not_add, ← BitVec.add_assoc]
  cases c <;> simp

/-! ## Bytes: ADD and SUB (R127 to R129) -/

theorem addResult_toNat (c : Bool) (a b : Byte) : (addResult c a b).toNat = (a.toNat + b.toNat + c.toNat) % 256 := by
  cases c <;> simp [addResult, carryByte, BitVec.toNat_add]

theorem addFlags_eq_packFlags (c : Bool) (a b : Byte) :
    addFlags c a b = packFlags (addResult c a b) (decide (addResult c a b = 0#8))
      (decide (15 < a.toNat % 16 + b.toNat % 16 + c.toNat))
      (decide (a.toInt + b.toInt + (c.toNat : Int) < -128 ∨ 127 < a.toInt + b.toInt + (c.toNat : Int)))
      false (decide (255 < a.toNat + b.toNat + c.toNat)) := by
  have hpv : ((a ^^^ b ^^^ 0x80#8) &&& (a ^^^ addResult c a b) &&& 0x80#8 != 0#8) =
      decide (a.toInt + b.toInt + (c.toNat : Int) < -128 ∨ 127 < a.toInt + b.toInt + (c.toNat : Int)) :=
    addOverflow_eq (by decide) (addResult_toNat c a b)
  simp only [addFlags, sz53_eq_packFlags, hpv, nibble, packFlags_or_flagH, packFlags_or_flagPV, packFlags_or_flagC,
    Bool.false_or]
  rfl

theorem subResult_eq_addResult (c : Bool) (a b : Byte) : subResult c a b = addResult (!c) a (~~~b) :=
  sub_eq_add_not a b c

theorem subResult_toNat (c : Bool) (a b : Byte) :
    ((subResult c a b).toNat : Int) = ((a.toNat : Int) - b.toNat - c.toNat) % 256 := by
  have ha := a.isLt
  have hb := b.isLt
  have hn : (~~~b).toNat = 255 - b.toNat := BitVec.toNat_not
  have hk := toNat_not_add c
  rw [subResult_eq_addResult, addResult_toNat]
  omega

theorem subFlags_eq_packFlags (c : Bool) (a b : Byte) :
    subFlags c a b = packFlags (subResult c a b) (decide (subResult c a b = 0#8))
      (decide (((a.toNat % 16 : Nat) : Int) - ((b.toNat % 16 : Nat) : Int) - (c.toNat : Int) < 0))
      (decide (a.toInt - b.toInt - (c.toNat : Int) < -128 ∨ 127 < a.toInt - b.toInt - (c.toNat : Int)))
      true (decide ((a.toNat : Int) - b.toNat - c.toNat < 0)) := by
  have hpv : ((a ^^^ b) &&& (a ^^^ subResult c a b) &&& 0x80#8 != 0#8) =
      decide (a.toInt - b.toInt - (c.toNat : Int) < -128 ∨ 127 < a.toInt - b.toInt - (c.toNat : Int)) :=
    subOverflow_eq (by decide) (subResult_eq_addResult c a b ▸ addResult_toNat (!c) a (~~~b))
  simp only [subFlags, sz53_eq_packFlags, hpv, packFlags_or_flagN, packFlags_or_flagH, packFlags_or_flagPV,
    packFlags_or_flagC, Bool.false_or]
  congr 1
  · rw [decide_eq_decide]
    unfold nibble
    omega
  · rw [decide_eq_decide]
    omega

theorem subFlags_eq_addFlags (c : Bool) (a b : Byte) :
    subFlags c a b = addFlags (!c) a (~~~b) ^^^ (flagH ||| flagN ||| flagC) := by
  have hb := b.isLt
  have hn : (~~~b).toNat = 255 - b.toNat := BitVec.toNat_not
  have hk := toNat_not_add c
  have hi : (~~~b).toInt = -b.toInt - 1 := toInt_not_eq (by decide) b
  rw [addFlags_eq_packFlags, packFlags_xor_hnc, subFlags_eq_packFlags, subResult_eq_addResult]
  congr 1
  · rw [← decide_not, decide_eq_decide]
    omega
  · rw [decide_eq_decide]
    omega
  · rw [← decide_not, decide_eq_decide]
    omega

/-! ## Words: ADD, ADC and SBC (R135, R136) -/

theorem add16Flags_eq (f : Byte) (a b : Word) : add16Flags f a b =
    (f &&& (flagS ||| flagZ ||| flagPV)) ||| (if 0x0FFF < a.toNat % 4096 + b.toNat % 4096 then flagH else 0#8)
      ||| (if 0xFFFF < a.toNat + b.toNat then flagC else 0#8) ||| (highByte (a + b) &&& (flag5 ||| flag3)) := by
  unfold add16Flags
  rw [flagIf_decide, flagIf_decide]
  rfl

theorem getElem_highByte (v : Word) {i : Nat} (hi : i < 8) : (highByte v)[i] = v[8 + i] := by
  unfold highByte
  rw [BitVec.getElem_extractLsb', BitVec.getLsbD_eq_getElem]

theorem adc16Result_toNat (c : Bool) (a b : Word) :
    (adc16Result a b c).toNat = (a.toNat + b.toNat + c.toNat) % 65536 := by
  cases c <;> simp [adc16Result, carryWord, BitVec.toNat_add]

theorem adc16Flags_eq_packFlags (c : Bool) (a b : Word) :
    adc16Flags a b c = packFlags (highByte (adc16Result a b c)) (decide (adc16Result a b c = 0#16))
      (decide (0x0FFF < a.toNat % 4096 + b.toNat % 4096 + c.toNat))
      (decide (a.toInt + b.toInt + (c.toNat : Int) < -32768 ∨ 32767 < a.toInt + b.toInt + (c.toNat : Int)))
      false (decide (0xFFFF < a.toNat + b.toNat + c.toNat)) := by
  have hpv : ((a ^^^ b ^^^ 0x8000#16) &&& (a ^^^ adc16Result a b c) &&& 0x8000#16 != 0#16) =
      decide (a.toInt + b.toInt + (c.toNat : Int) < -32768 ∨ 32767 < a.toInt + b.toInt + (c.toNat : Int)) :=
    addOverflow_eq (by decide) (adc16Result_toNat c a b)
  simp only [adc16Flags, packFlags_none, hpv, packFlags_or_flagZ, packFlags_or_flagH, packFlags_or_flagPV,
    packFlags_or_flagC, Bool.false_or]
  rfl

theorem sbc16Result_eq_adc16Result (c : Bool) (a b : Word) : sbc16Result a b c = adc16Result a (~~~b) (!c) :=
  sub_eq_add_not a b c

theorem sbc16Flags_eq_packFlags (c : Bool) (a b : Word) :
    sbc16Flags a b c = packFlags (highByte (sbc16Result a b c)) (decide (sbc16Result a b c = 0#16))
      (decide (((a.toNat % 4096 : Nat) : Int) - ((b.toNat % 4096 : Nat) : Int) - (c.toNat : Int) < 0))
      (decide (a.toInt - b.toInt - (c.toNat : Int) < -32768 ∨ 32767 < a.toInt - b.toInt - (c.toNat : Int)))
      true (decide ((a.toNat : Int) - b.toNat - c.toNat < 0)) := by
  have hpv : ((a ^^^ b) &&& (a ^^^ sbc16Result a b c) &&& 0x8000#16 != 0#16) =
      decide (a.toInt - b.toInt - (c.toNat : Int) < -32768 ∨ 32767 < a.toInt - b.toInt - (c.toNat : Int)) :=
    subOverflow_eq (by decide) (sbc16Result_eq_adc16Result c a b ▸ adc16Result_toNat (!c) a (~~~b))
  simp only [sbc16Flags, packFlags_none, hpv, packFlags_or_flagZ, packFlags_or_flagN, packFlags_or_flagH,
    packFlags_or_flagPV, packFlags_or_flagC, Bool.false_or]
  congr 1
  · rw [decide_eq_decide]
    unfold low12
    omega
  · rw [decide_eq_decide]
    omega

theorem sbc16Result_toNat (c : Bool) (a b : Word) :
    ((sbc16Result a b c).toNat : Int) = ((a.toNat : Int) - b.toNat - c.toNat) % 65536 := by
  have ha := a.isLt
  have hb := b.isLt
  have hn : (~~~b).toNat = 65535 - b.toNat := BitVec.toNat_not
  have hk := toNat_not_add c
  rw [sbc16Result_eq_adc16Result, adc16Result_toNat]
  omega

/-! ## Increment, decrement, logic (R124, R125, R131) -/

theorem incFlags_eq_packFlags (v : Byte) : incFlags v = packFlags (v + 1#8) (decide (v + 1#8 = 0#8))
    (decide (v.toNat % 16 = 15)) (decide (v = 0x7F#8)) false false := by
  simp only [incFlags, sz53_eq_packFlags, packFlags_or_flagH, packFlags_or_flagPV, Bool.false_or]
  rfl

theorem decFlags_eq_packFlags (v : Byte) : decFlags v = packFlags (v - 1#8) (decide (v - 1#8 = 0#8))
    (decide (v.toNat % 16 = 0)) (decide (v = 0x80#8)) true false := by
  simp only [decFlags, sz53_eq_packFlags, packFlags_or_flagN, packFlags_or_flagH, packFlags_or_flagPV, Bool.false_or]
  rfl

end Sys2Proof.Machine

open Sys2Proof Sys2Proof.Machine

/-- Settles O32: both flag bytes are packed from the exact sum and the exact difference. -/
theorem addAndSubtractTables : Obligations.AddAndSubtractTables := by
  unfold Obligations.AddAndSubtractTables
  intro c a b r
  refine ⟨?_, ?_⟩
  · rintro rfl
    rw [addFlags_eq_packFlags]
    exact ⟨addResult_toNat c a b, by simp⟩
  · rintro rfl
    rw [subFlags_eq_packFlags]
    exact ⟨subResult_toNat c a b, by simp⟩

/-- Settles O33: `SUB` is `ADD` of the complement, and `CP` takes the entry of `SUB`. -/
theorem subtractionIsComplementAddition : Obligations.SubtractionIsComplementAddition := by
  unfold Obligations.SubtractionIsComplementAddition
  intro c a b
  have hb : b ^^^ 0xFF#8 = ~~~b := BitVec.xor_allOnes
  rw [hb]
  exact ⟨subResult_eq_addResult c a b, subFlags_eq_addFlags c a b, fun k => ⟨rfl, rfl, rfl, rfl⟩⟩

/-- Settles O35: both flag bytes are packed from the exact sum and the exact difference of the words. -/
theorem sixteenBitCarryTables : Obligations.SixteenBitCarryTables := by
  unfold Obligations.SixteenBitCarryTables
  intro c a b r
  refine ⟨?_, ?_⟩
  · rintro rfl
    rw [adc16Flags_eq_packFlags]
    exact ⟨adc16Result_toNat c a b, by simp [getElem_highByte]⟩
  · rintro rfl
    rw [sbc16Flags_eq_packFlags]
    exact ⟨sbc16Result_toNat c a b, by simp [getElem_highByte]⟩

/-- Settles O31: the three tables are packed flags, and `ALU` is its table by computation. -/
theorem flagTablesAndAluEngine : Obligations.FlagTablesAndAluEngine := by
  unfold Obligations.FlagTablesAndAluEngine
  refine ⟨⟨?inc, ?dec⟩, ?logic, ?engine⟩
  case inc =>
    rintro v r rfl
    simp [incFlags_eq_packFlags]
  case dec =>
    rintro v r rfl
    simp [decFlags_eq_packFlags]
  case logic =>
    intro r
    have hzero : ∀ k : Nat, k = 0 ∨ k % 2 = 0 ↔ k % 2 = 0 := by omega
    rw [logicFlags, szp53_eq_packFlags, evenParity_eq]
    simp only [hzero]
    simp
  case engine =>
    rintro s v a c rfl rfl
    exact ⟨rfl, rfl, rfl, rfl, rfl, rfl, rfl, rfl⟩

/-- Settles O11: each of the four runs its shared operation, whose fields are these at the written tact constants. -/
theorem sixteenBitAddAndSubtract : Obligations.SixteenBitAddAndSubtract := by
  unfold Obligations.SixteenBitAddAndSubtract
  refine ⟨⟨add16Flags_eq, fun s p hw => ⟨?addHl, fun x => ?addXy⟩⟩, fun s p hw => ⟨?sbcHl, ?adcHl⟩⟩
  case addHl =>
    have ht : s.cfg.tact.addHl = 7 := by rw [hw]; rfl
    rw [run_addHl, addHl, ht]
    rfl
  case addXy =>
    have ht : s.cfg.tact.addXy = 7 := by rw [hw]; rfl
    rw [run_addXy, addXy, ht]
    cases x <;> rfl
  case sbcHl =>
    have ht : s.cfg.tact.sbcHl = 7 := by rw [hw]; rfl
    rw [run_sbcHl, sbcHl, ht]
    rfl
  case adcHl =>
    have ht : s.cfg.tact.adcHl = 7 := by rw [hw]; rfl
    rw [run_adcHl, adcHl, ht]
    rfl
end

section
/-! PROOFS. The decimal adjustment: the table's entry for every accumulator and flags, and the decimal sum and difference it
leaves in `A` after ADD and SUB of two-digit numbers (R134). Settles O34. -/

namespace Sys2Proof.Machine

/-! ## An entry of the table -/

theorem toNat_daaCorrection (a : Byte) (h c : Bool) : (daaCorrection a h c).toNat =
    (if h = true ∨ 9 < a.toNat % 16 then 0x06 else 0) + (if c = true ∨ 0x99 < a.toNat then 0x60 else 0) := by
  have hor : ∀ p q : Bool, (flagIf p 0x06#8 ||| flagIf q 0x60#8).toNat = (if p then 0x06 else 0) + (if q then 0x60 else 0) := by
    decide
  rw [daaCorrection, hor]
  simp only [Bool.or_eq_true, decide_eq_true_eq]
  rfl

theorem toNat_daaResult (a : Byte) (h n c : Bool) : (daaResult a h n c).toNat =
    if n then (a.toNat + 256 - (daaCorrection a h c).toNat) % 256 else (a.toNat + (daaCorrection a h c).toNat) % 256 := by
  have hk := (daaCorrection a h c).isLt
  cases n
  · simp [daaResult]
  · simp [daaResult, BitVec.toNat_sub]
    omega

theorem daaFlags_eq_packFlags (a : Byte) (h n c : Bool) : daaFlags a h n c =
    packFlags (daaResult a h n c) (decide (daaResult a h n c = 0#8))
      (if n then h && decide (a.toNat % 16 < 6) else decide (9 < a.toNat % 16)) (evenParity (daaResult a h n c)) n
      (c || decide (0x99 < a.toNat)) := by
  simp only [daaFlags, szp53_eq_packFlags, packFlags_or_flagH, packFlags_or_flagIf_flagN, packFlags_or_flagC,
    Bool.false_or]
  rfl

theorem daaFlags_bit0 (a : Byte) (h n c : Bool) :
    (daaFlags a h n c).getLsbD 0 = (c || decide (0x99 < a.toNat)) := by
  simp [daaFlags_eq_packFlags]

theorem daaFlags_bit1 (a : Byte) (h n c : Bool) : (daaFlags a h n c).getLsbD 1 = n := by
  simp [daaFlags_eq_packFlags]

/-! ## What DAA finds in the flags of ADD and SUB -/

theorem daaInputs_of_add (a b : Byte) : halfOf (addFlags false a b) = decide (15 < a.toNat % 16 + b.toNat % 16) ∧
    subtractOf (addFlags false a b) = false ∧ carryOf (addFlags false a b) = decide (255 < a.toNat + b.toNat) := by
  simp [addFlags_eq_packFlags, halfOf, subtractOf, carryOf]

theorem daaInputs_of_sub (a b : Byte) : halfOf (subFlags false a b) = decide (a.toNat % 16 < b.toNat % 16) ∧
    subtractOf (subFlags false a b) = true ∧ carryOf (subFlags false a b) = decide (a.toNat < b.toNat) := by
  simp [subFlags_eq_packFlags, halfOf, subtractOf, carryOf]
  omega

/-! ## Decimal digits

Two-digit operands are `10 * p + q` and `10 * u + v`, in the bytes `16 * p + q` and `16 * u + v`. -/

theorem bcd_of_digits {k s t : Nat} (ht : t < 10) (h : k % 100 = 10 * s + t) :
    k % 100 / 10 * 16 + k % 10 = 16 * s + t := by
  omega

/-- Six and sixty (hex) turn a sum of digits by their weights of sixteen into its decimal digits. -/
theorem bcd_sum {d e : Nat} (hd : d ≤ 18) (he : e ≤ 18) :
    (16 * d + e + ((if 10 ≤ e then 0x06 else 0) + (if 100 ≤ 10 * d + e then 0x60 else 0))) % 256 =
      (10 * d + e) % 100 / 10 * 16 + (10 * d + e) % 10 := by
  by_cases hl : 10 ≤ e <;> by_cases hh : 100 ≤ 10 * d + e <;> simp only [hl, hh, if_true, if_false]
  · rw [bcd_of_digits (s := d - 9) (t := e - 10) (by omega) (by omega)]
    omega
  · rw [bcd_of_digits (s := d + 1) (t := e - 10) (by omega) (by omega)]
    omega
  · rw [bcd_of_digits (s := d - 10) (t := e) (by omega) (by omega)]
    omega
  · rw [bcd_of_digits (s := d) (t := e) (by omega) (by omega)]
    omega

section
variable {p q u v : Nat} (hp : p < 10) (hq : q < 10) (hu : u < 10) (hv : v < 10)
include hp hq hu hv

theorem bcd_difference :
    ((16 * p + q + 256 - (16 * u + v)) % 256 + 256 - ((if q < v then 0x06 else 0)
      + (if 10 * p + q < 10 * u + v then 0x60 else 0))) % 256 =
      (10 * p + q + 100 - (10 * u + v)) % 100 / 10 * 16 + (10 * p + q + 100 - (10 * u + v)) % 10 := by
  by_cases hl : q < v <;> by_cases hh : 10 * p + q < 10 * u + v <;> simp only [hl, hh, if_true, if_false]
  · rw [bcd_of_digits (s := p + 9 - u) (t := q + 10 - v) (by omega) (by omega)]
    omega
  · rw [bcd_of_digits (s := p - 1 - u) (t := q + 10 - v) (by omega) (by omega)]
    omega
  · rw [bcd_of_digits (s := p + 10 - u) (t := q - v) (by omega) (by omega)]
    omega
  · rw [bcd_of_digits (s := p - u) (t := q - v) (by omega) (by omega)]
    omega

variable {a b : Byte} (ha : a.toNat = 16 * p + q) (hb : b.toNat = 16 * u + v)
include ha hb

/-- After ADD the lower correction is due when the low digits sum to ten or more, the higher one when the numbers sum to a
hundred or more. -/
theorem daa_after_add {r f : Byte} (hr : r = addResult false a b) (hf : f = addFlags false a b) :
    (daaResult r (halfOf f) (subtractOf f) (carryOf f)).toNat =
      (10 * p + q + (10 * u + v)) % 100 / 10 * 16 + (10 * p + q + (10 * u + v)) % 10 ∧
    (daaFlags r (halfOf f) (subtractOf f) (carryOf f)).getLsbD 0 = decide (100 ≤ 10 * p + q + (10 * u + v)) ∧
    (daaFlags r (halfOf f) (subtractOf f) (carryOf f)).getLsbD 1 = false := by
  subst hr hf
  obtain ⟨hh, hn, hc⟩ := daaInputs_of_add a b
  have hr : (addResult false a b).toNat = (a.toNat + b.toNat) % 256 := addResult_toNat false a b
  have hlow : 15 < a.toNat % 16 + b.toNat % 16 ∨ 9 < (addResult false a b).toNat % 16 ↔ 10 ≤ q + v := by omega
  have hhigh : 255 < a.toNat + b.toNat ∨ 0x99 < (addResult false a b).toNat ↔ 100 ≤ 10 * (p + u) + (q + v) := by omega
  have hten : 10 * p + q + (10 * u + v) = 10 * (p + u) + (q + v) := by omega
  have hsixteen : a.toNat + b.toNat = 16 * (p + u) + (q + v) := by omega
  rw [hh, hn, hc, hten]
  refine ⟨?result, ?carry, daaFlags_bit1 ..⟩
  case result =>
    rw [toNat_daaResult, toNat_daaCorrection]
    simp only [decide_eq_true_eq, hlow, hhigh, Bool.false_eq_true, if_false]
    rw [hr, Nat.mod_add_mod, hsixteen]
    exact bcd_sum (by omega) (by omega)
  case carry =>
    rw [daaFlags_bit0, ← Bool.decide_or, decide_eq_decide]
    exact hhigh

/-- After SUB the lower correction is due when the low digits borrow, the higher one when the difference is negative. -/
theorem daa_after_sub {r f : Byte} (hr : r = subResult false a b) (hf : f = subFlags false a b) :
    (daaResult r (halfOf f) (subtractOf f) (carryOf f)).toNat =
      (10 * p + q + 100 - (10 * u + v)) % 100 / 10 * 16 + (10 * p + q + 100 - (10 * u + v)) % 10 ∧
    (daaFlags r (halfOf f) (subtractOf f) (carryOf f)).getLsbD 0 = decide (10 * p + q < 10 * u + v) ∧
    (daaFlags r (halfOf f) (subtractOf f) (carryOf f)).getLsbD 1 = true := by
  subst hr hf
  obtain ⟨hh, hn, hc⟩ := daaInputs_of_sub a b
  have hr : (subResult false a b).toNat = (16 * p + q + 256 - (16 * u + v)) % 256 := by
    have h : ((subResult false a b).toNat : Int) = ((a.toNat : Int) - b.toNat - 0) % 256 := subResult_toNat false a b
    omega
  have hlow : a.toNat % 16 < b.toNat % 16 ∨ 9 < (subResult false a b).toNat % 16 ↔ q < v := by omega
  have hkept : 10 * u + v ≤ 10 * p + q → (subResult false a b).toNat = 16 * p + q - (16 * u + v) := by omega
  have hhigh : a.toNat < b.toNat ∨ 0x99 < (subResult false a b).toNat ↔ 10 * p + q < 10 * u + v := by omega
  rw [hh, hn, hc]
  refine ⟨?result, ?carry, daaFlags_bit1 ..⟩
  case result =>
    rw [toNat_daaResult, toNat_daaCorrection]
    simp only [decide_eq_true_eq, hlow, hhigh, if_true]
    rw [hr]
    exact bcd_difference hp hq hu hv
  case carry =>
    rw [daaFlags_bit0, ← Bool.decide_or, decide_eq_decide]
    exact hhigh
end

/-- A two-digit number by its digits, and its byte. -/
theorem bcd_digits (m : Fin 100) : ∃ p q, p < 10 ∧ q < 10 ∧ m.val = 10 * p + q ∧
    (BitVec.ofNat 8 (m.val / 10 * 16 + m.val % 10)).toNat = 16 * p + q := by
  refine ⟨m.val / 10, m.val % 10, by omega, by omega, by omega, ?_⟩
  rw [BitVec.toNat_ofNat]
  omega

end Sys2Proof.Machine

open Sys2Proof Sys2Proof.Machine

/-- Settles O34: the entry from its correction and its packed flags, and the decimal results digit by digit. -/
theorem decimalAdjust : Obligations.DecimalAdjust := by
  unfold Obligations.DecimalAdjust
  refine ⟨fun f => ⟨rfl, rfl, rfl⟩, ?entry, ?decimal⟩
  case entry =>
    rintro a r f h n c corr rfl rfl rfl
    rw [← toNat_daaCorrection, daaFlags_eq_packFlags, ← evenParity_eq]
    exact ⟨toNat_daaResult a h n c, by simp⟩
  case decimal =>
    rintro m n a b rfl rfl
    obtain ⟨p, q, hp, hq, hm, ha⟩ := bcd_digits m
    obtain ⟨u, v, hu, hv, hn, hb⟩ := bcd_digits n
    rw [hm] at ha ⊢
    rw [hn] at hb ⊢
    exact ⟨fun r f => daa_after_add hp hq hu hv ha hb, fun r f => daa_after_sub hp hq hu hv ha hb⟩
end

section
/-! PROOFS. The cycle of the dispatcher (41_dispatch_prefix.md): which byte acts as a prefix, what the entry finds, which
instruction it runs, and the latches it leaves. Settles O42, O43 and O45. -/

namespace Sys2Proof

/-! ## Prefix bytes and the bytes of a cycle (R105, R161, R166) -/

theorem isPrefixByte_eq (b : Byte) :
    isPrefixByte b = (b == 0xCB#8 || b == 0xDD#8 || b == 0xED#8 || b == 0xFD#8) := by
  unfold isPrefixByte
  ac_rfl

theorem indexedBit_iff (pm : PrefixMode) (im : IndexMode) : indexedBit pm im = true ↔ pm = .bit ∧ im ≠ .none := by
  simp [indexedBit]

/-- With no `CB` or `ED` latch the four prefix bytes have the forms of their own, whatever the index latch (R161). -/
theorem decodeForm_prefixBytes (im : IndexMode) :
    decodeForm .none im 0xCB#8 = .prefixCb ∧ decodeForm .none im 0xDD#8 = .prefixDd ∧
    decodeForm .none im 0xED#8 = .prefixEd ∧ decodeForm .none im 0xFD#8 = .prefixFd := by
  cases im <;> exact ⟨rfl, rfl, rfl, rfl⟩

/-- The instruction of a cycle is its opcode byte's, which stands second where the displacement comes first (R166). -/
theorem decodeCycle_instr {pm : PrefixMode} {im : IndexMode} {a b : Byte} {bs rest : List Byte} {d : Decoded}
    (h : decodeCycle pm im (a :: b :: bs) = .ok (d, rest)) :
    d.instr = decodeInstr pm im (if indexedBit pm im then b else a) := by
  unfold decodeCycle at h
  cases hb : indexedBit pm im with
  | true =>
    rw [hb] at h
    cases h
    rfl
  | false =>
    rw [hb] at h
    simp only [Bool.false_eq_true, if_false] at h
    split_ifs at h
    cases h
    rfl

end Sys2Proof

namespace Sys2Proof.Machine

variable {s : State}

/-! ## One step without a signal (R160) -/

theorem step_of_cycle (hs : s.signalStep = none) (hm : s.missingTable = none) :
    step s = .next (((formRun s.nextForm s.enter).close s.atPrefix).settle s.log.length) :=
  (step_of_none hs).trans (runCycle_eq hm)

theorem atPrefix_iff : s.atPrefix = true ↔ s.prefixMode = .none ∧
    (s.byteAt s.pc = 0xCB#8 ∨ s.byteAt s.pc = 0xDD#8 ∨ s.byteAt s.pc = 0xED#8 ∨ s.byteAt s.pc = 0xFD#8) := by
  simp [State.atPrefix, isPrefixByte_eq, or_assoc]

/-- `Finish()` follows every byte that is no prefix (R162, R169). -/
theorem close_atPrefix (s t : State) : t.close s.atPrefix =
    if s.prefixMode = .none ∧ (s.byteAt s.pc = 0xCB#8 ∨ s.byteAt s.pc = 0xDD#8 ∨ s.byteAt s.pc = 0xED#8 ∨
      s.byteAt s.pc = 0xFD#8) then t else t.finish :=
  if_congr atPrefix_iff rfl rfl

/-- With no `CB` or `ED` latch the byte at `PC` is the opcode (R160). -/
theorem nextForm_of_plain (hp : s.prefixMode = .none) :
    s.nextForm = decodeForm .none s.indexMode (s.byteAt s.pc) := by
  rw [State.nextForm, State.nextOpcode, hp]
  rfl

/-- The cycle of a prefix byte is the run of its form, and no `Finish()` follows (R162). -/
theorem cycle_of_prefixByte {b : Byte} {f : Form} (hp : s.prefixMode = .none) (hb : s.byteAt s.pc = b)
    (hf : decodeForm .none s.indexMode b = f) (hpre : prefixForm f = true) :
    (formRun s.nextForm s.enter).close s.atPrefix = formRun f s.enter := by
  have hform : s.nextForm = f := by rw [nextForm_of_plain hp, hb, hf]
  rw [← prefixForm_nextForm, hform, hpre]
  rfl

/-! ## What the entry finds (R164, R166) -/

/-- A fetch, and `blocked` kept before a prefix byte only. -/
theorem enter_of_fetch (hb : indexedBit s.prefixMode s.indexMode = false) :
    s.enter = { s.fetchOpcode with blocked := s.blocked && s.atPrefix } := by
  cases ha : s.atPrefix with
  | true => rw [enter_prefix ha, Bool.and_true]; rfl
  | false => rw [enter_terminal ha hb, Bool.and_false]

/-- Two operand bytes, the second one with the answer that a device gives to the second call. -/
theorem openIndexedBit_eq (s : State) : s.openIndexedBit = { s with
    pc := s.pc + 2#16, disp := s.byteAt s.pc, opCode := s.byteAfter 1 (s.pc + 1#16)
    tacts := s.tacts + s.cfg.tact.access + s.cfg.tact.access + s.cfg.tact.indexedBit
    log := readCalls s s.pc s.tacts ++ s.log, blocked := false } := by
  unfold State.openIndexedBit
  rw [← word_add_one_one]
  rfl

/-- `R` is counted by the fetch, and the indexed bit cycle has none (R29, R166). -/
theorem enter_rReg (s : State) :
    s.enter.rReg = if indexedBit s.prefixMode s.indexMode then s.rReg else refresh s.rReg := by
  cases hb : indexedBit s.prefixMode s.indexMode with
  | true => rw [enter_indexedBit hb]; rfl
  | false => rw [enter_of_fetch hb]; rfl

end Sys2Proof.Machine

open Sys2Proof Sys2Proof.Machine

/-- Settles O43: a prefix cycle is its form's run, every other cycle ends in `Finish()`, and only `LD R,A` writes `R` after
the fetch has counted it. -/
theorem transitionTable : Obligations.TransitionTable := by
  unfold Obligations.TransitionTable
  intro s hs hm
  obtain ⟨-, -, -, -, -, -, -, -, hpm, him, -⟩ := enter_keeps s
  obtain ⟨hcb, hdd, hed, hfd⟩ := decodeForm_prefixBytes s.indexMode
  refine ⟨_, step_of_cycle hs hm, fun hp hb => ?dd, fun hp hb => ?fd, fun hp hb => ?cb, fun hp hb => ?ed,
    fun hother => ?terminal, fun hr => ?refresh⟩
  case dd =>
    rw [cycle_of_prefixByte hp hb hdd rfl]
    simp [formRun, prefixDd, State.holdOff, hpm, hp]
  case fd =>
    rw [cycle_of_prefixByte hp hb hfd rfl]
    simp [formRun, prefixFd, State.holdOff, hpm, hp]
  case cb =>
    rw [cycle_of_prefixByte hp hb hcb rfl]
    simp [formRun, prefixCb, State.holdOff, him]
  case ed =>
    rw [cycle_of_prefixByte hp hb hed rfl]
    simp [formRun, prefixEd, State.holdOff]
  case terminal =>
    have hnot : s.atPrefix = false := by
      rw [Bool.eq_false_iff, ne_eq, atPrefix_iff]
      tauto
    rw [hnot]
    exact ⟨rfl, rfl, rfl⟩
  case refresh =>
    rw [State.settle_rReg, State.close_rReg, formRun_rReg _ _ fun e => hr ((nextInstr_eq_iff .ldRA).mpr e), enter_rReg]
    exact if_congr (indexedBit_iff _ _) rfl rfl

/-- Settles O42: the bytes at `PC` decode to the instruction of the cycle, and the entry is one fetch or two operand
reads. -/
theorem stepRunsDecodedInstruction : Obligations.StepRunsDecodedInstruction := by
  unfold Obligations.StepRunsDecodedInstruction
  intro s d rest hs hm hd _
  have hbit := indexedBit_iff s.prefixMode s.indexMode
  refine ⟨?run, fun h => ?fetch, fun h => ?indexed, fun hw => ?tacts⟩
  case run =>
    have hi : d.instr = s.nextForm.instr := decodeCycle_instr hd
    rw [hi, exec_instr, step_of_cycle hs hm, close_atPrefix]
    rfl
  case fetch =>
    rw [enter_of_fetch (Bool.eq_false_iff.mpr (mt hbit.mp h)), State.atPrefix, isPrefixByte_eq, ← Bool.and_assoc]
    rfl
  case indexed => rw [enter_indexedBit (hbit.mpr h), openIndexedBit_eq]
  case tacts =>
    obtain ⟨-, -, -, -, -, -, -, -, -, -, -, htacts, -⟩ := enter_keeps s
    rw [htacts, hw]
    exact congrArg (s.tacts + ·) (if_congr hbit rfl rfl)

/-- Settles O45: the missing table is that of the latch, and with no latch there is none to miss. -/
theorem unimplementedSpaceFaults : Obligations.UnimplementedSpaceFaults := by
  unfold Obligations.UnimplementedSpaceFaults
  intro s hx hs
  refine ⟨fun h => ?_, fun h => ?_, fun h => ⟨_, step_of_cycle hs (missingTable_of_plain h)⟩⟩
  · exact step_fault_iff.mpr ⟨hs, .cb, by rw [State.missingTable, hx, h], rfl⟩
  · exact step_fault_iff.mpr ⟨hs, .ed, by rw [State.missingTable, hx, h], rfl⟩
end

section
/-! PROOFS. Loads, stores, the stack and the exchanges (42_load_exchange.md) with their index and extended forms, each from the
operation its rule shares, and the sample words. Settles O1 to O6 and O41. -/

namespace Sys2Proof

/-! ## Words and the instructions they encode (R90, R165) -/

theorem decode_encode_self {d : Decoded} (hd : d.wf = true) : decode (encode d) = .ok (d, []) := by
  simpa using decode_encode hd (rest := []) (.inl rfl)

/-- An index prefix before the bytes of an inherited entry changes nothing of what they decode to (R165). -/
theorem decode_inherited {b op : Byte} {rest : List Byte} {d : Decoded} (hd : d.wf = true) (he : encode d = op :: rest)
    (hb : b = 0xDD#8 ∨ b = 0xFD#8) (hover : op ∉ Machine.indexOverrides) (hop : isPrefixByte op = false) :
    decode (b :: op :: rest) = .ok (d, []) := by
  calc decode (b :: op :: rest)
    _ = decode (op :: rest) := decode_redundant hover hop rest [b] (by simpa using hb)
    _ = .ok (d, []) := he ▸ decode_encode_self hd

end Sys2Proof

namespace Sys2Proof.Machine

variable (s : State)

/-! ## What the shared operations leave, at any tact constants -/

/-- The two operand bytes, the low one first (R9). -/
theorem State.imm16_eq : s.imm16 = { s with
    pc := s.pc + 2#16, tacts := s.tacts + s.cfg.tact.access + s.cfg.tact.access
    log := readCalls s s.pc s.tacts ++ s.log } := by
  apply State.eq_of_fields <;> simp

theorem State.loadA_eq (a : Word) : s.loadA a = { s with
    regs.a := s.byteAt a, wz := a + 1#16, tacts := s.tacts + s.cfg.tact.access
    log := memR a (s.byteAt a) s.tacts :: s.log } := rfl

theorem State.storeA_stored (a : Word) : Stored s (s.storeA a) a s.regs.a := stored_of_mem ⟨rfl, rfl⟩

theorem State.storeA_frame (a : Word) : { s.storeA a with mem := s.mem } = { s with
    wz := pairOf s.regs.a (lowByte (a + 1#16)), tacts := s.tacts + s.cfg.tact.access
    log := memW a s.regs.a s.tacts :: s.log } := rfl

theorem State.readWord_eq (nn : Word) : s.readWord nn = { s with
    wz := nn + 1#16, tacts := s.tacts + s.cfg.tact.access + s.cfg.tact.access
    log := readCalls s nn s.tacts ++ s.log } := by
  apply State.eq_of_fields <;> simp [State.readWord]

theorem State.writeWord_frame (nn v : Word) : { s.writeWord nn v with mem := s.mem } = { s with
    wz := nn + 1#16, tacts := s.tacts + s.cfg.tact.access + s.cfg.tact.access
    log := writeCalls s nn v s.tacts ++ s.log } := rfl

theorem State.exchangeTop_stored (v : Word) (m n : Nat) : StoredWord s (s.exchangeTop v m n) s.sp v :=
  storedWord_of_mem_high_first (by simp [State.exchangeTop])

theorem State.exchangeTop_frame (v : Word) (m n : Nat) : { s.exchangeTop v m n with mem := s.mem } = { s with
    wz := s.wordAt s.sp
    tacts := s.tacts + s.cfg.tact.access + s.cfg.tact.access + m + s.cfg.tact.access + s.cfg.tact.access + n
    log := memW s.sp (lowByte v) (s.tacts + s.cfg.tact.access + s.cfg.tact.access + m + s.cfg.tact.access) ::
      memW (s.sp + 1#16) (highByte v) (s.tacts + s.cfg.tact.access + s.cfg.tact.access + m) ::
      (readCalls s s.sp s.tacts ++ s.log) } := by
  apply State.eq_of_fields <;> simp [State.exchangeTop]

/-! ## The instructions of one rule, at the constants the rules write (R4) -/

variable {s} {i : Instr} {a v : Word}

theorem State.WrittenTacts.access_eq (hw : s.WrittenTacts) : s.cfg.tact.access = 3 := by
  rw [hw]
  rfl

/-- A load of `A` through a register pair (R206, R207). -/
theorem loadsA_of_exec (hw : s.WrittenTacts) (hi : exec i s = .next (s.loadA a)) :
    exec i s = .next { s with
      regs.a := s.byteAt a, wz := a + 1#16, tacts := s.tacts + 3, log := memR a (s.byteAt a) s.tacts :: s.log } := by
  rw [hi, State.loadA_eq, hw.access_eq]

/-- A store of `A` through a register pair (R209, R210). -/
theorem storesA_of_exec (hw : s.WrittenTacts) (hi : exec i s = .next (s.storeA a)) :
    ∃ t, exec i s = .next t ∧ Stored s t a s.regs.a ∧ { t with mem := s.mem } = { s with
      wz := pairOf s.regs.a (lowByte (a + 1#16)), tacts := s.tacts + 3, log := memW a s.regs.a s.tacts :: s.log } := by
  refine ⟨_, hi, s.storeA_stored a, (s.storeA_frame a).trans ?_⟩
  rw [hw.access_eq]

/-- The word at the operand address is read after the operand (R213, R364, R458). -/
theorem State.imm16_readWord_eq (hw : s.WrittenTacts) : s.imm16.readWord (s.wordAt s.pc) = { s with
    wz := s.wordAt s.pc + 1#16, pc := s.pc + 2#16, tacts := s.tacts + 12
    log := readCallsAfter s 2 (s.wordAt s.pc) (s.tacts + 6) ++ (readCalls s s.pc s.tacts ++ s.log) } := by
  rw [State.readWord_eq, State.imm16_eq]
  simp only [hw.access_eq]
  rfl

/-- A word store at the operand address (R214, R363, R457). -/
theorem storesWord_of_exec (hw : s.WrittenTacts) (hi : exec i s = .next (s.imm16.writeWord (s.wordAt s.pc) v)) :
    ∃ t, exec i s = .next t ∧ StoredWord s t (s.wordAt s.pc) v ∧ { t with mem := s.mem } = { s with
      wz := s.wordAt s.pc + 1#16, pc := s.pc + 2#16, tacts := s.tacts + 12
      log := writeCalls s (s.wordAt s.pc) v (s.tacts + 6) ++ (readCalls s s.pc s.tacts ++ s.log) } := by
  refine ⟨_, hi, storedWord_of_mem (by simp [State.writeWord]), (s.imm16.writeWord_frame _ v).trans ?_⟩
  simp only [State.imm16_eq, hw.access_eq]

/-- A push, one tact after the fetches (R216, R366). -/
theorem pushes_of_exec (hw : s.WrittenTacts) (hi : exec i s = .next ((s.tick 1).push16 v)) :
    ∃ t, exec i s = .next t ∧ Pushed s t v ∧ { t with mem := s.mem } = { s with
      sp := s.sp - 2#16, tacts := s.tacts + 7, log := pushCalls s v (s.tacts + 1) ++ s.log } := by
  refine ⟨_, hi, (s.tick 1).push16_pushed v, ((s.tick 1).push16_frame v).trans ?_⟩
  simp only [State.tick, hw.access_eq]

/-- An exchange with the word on top of the stack (R221, R368). The register takes its new value last, by `g`, which
neither reads nor writes memory. -/
theorem exchangesTop_of_exec {g : State → State} (hbyte : ∀ t x, (g t).byteAt x = t.byteAt x)
    (hmem : ∀ t m, { g t with mem := m } = g { t with mem := m }) (hw : s.WrittenTacts)
    (hi : exec i s = .next (g (s.exchangeTop v 1 2))) :
    ∃ t, exec i s = .next t ∧ StoredWord s t s.sp v ∧ { t with mem := s.mem } = g { s with
      wz := s.wordAt s.sp, tacts := s.tacts + 15
      log := memW s.sp (lowByte v) (s.tacts + 10) :: memW (s.sp + 1#16) (highByte v) (s.tacts + 7) ::
        (readCalls s s.sp s.tacts ++ s.log) } := by
  refine ⟨_, hi, fun x hx => (hbyte _ x).trans (s.exchangeTop_stored v 1 2 x hx), ?_⟩
  rw [hmem, State.exchangeTop_frame]
  simp only [hw.access_eq]

end Sys2Proof.Machine

open Sys2Proof Sys2Proof.Machine

/-- Settles O4: the three stores are one write of a word at the operand address. -/
theorem storeWord : Obligations.StoreWord := by
  unfold Obligations.StoreWord
  exact fun s hw => ⟨storesWord_of_exec hw (run_ldAtNnHl s), fun p => storesWord_of_exec hw (run_ldAtNnPair p s),
    fun x => storesWord_of_exec hw (run_ldAtNnXy x s)⟩

/-- Settles O5: both pushes are one `Push16` after a tact, and both pops one `Pop16` before the register is written. -/
theorem pushAndPop : Obligations.PushAndPop := by
  unfold Obligations.PushAndPop
  intro s hw
  have hpush : s.cfg.tact.push = 1 := by rw [hw]; rfl
  have hpushXy : s.cfg.tact.pushXy = 1 := by rw [hw]; rfl
  refine ⟨fun p => pushes_of_exec hw ?push, fun x => pushes_of_exec hw ?pushXy, fun p => ?pop, fun x => ?popXy⟩
  case push => rw [run_push, push, hpush]
  case pushXy => rw [run_pushXy, pushXy, hpushXy]
  case pop =>
    rw [run_pop, pop, State.pop16_eq, hw.access_eq]
    cases p <;> rfl
  case popXy =>
    rw [run_popXy, popXy, State.pop16_eq, hw.access_eq]
    cases x <;> rfl

/-- Settles O6: the register exchanges by computation, and both stack exchanges by the one exchange with the top. -/
theorem exchangeInstructions : Obligations.ExchangeInstructions := by
  unfold Obligations.ExchangeInstructions
  refine ⟨fun s => ⟨?deHl, run_exAf s, run_exx s⟩, fun s hw => ⟨?spHl, fun x => ?spXy⟩⟩
  case deHl => simp [run_exDeHl, exDeHl, State.setDe, State.setHl, State.hl, State.de]
  case spHl =>
    have hi : exec .ex_at_sp_hl s = .next ((s.exchangeTop s.hl 1 2).setHl (s.wordAt s.sp)) := by
      rw [run_exSpHl, exSpHl, hw]
      rfl
    exact exchangesTop_of_exec (g := (State.setHl · (s.wordAt s.sp))) (fun _ _ => rfl) (fun _ _ => rfl) hw hi
  case spXy =>
    have hi : exec (Instr.exSpXy x) s = .next ((s.exchangeTop (s.xy x) 1 2).setXy x (s.wordAt s.sp)) := by
      rw [run_exSpXy, exSpXy, hw]
      rfl
    cases x <;> exact exchangesTop_of_exec (g := (State.setXy · _ (s.wordAt s.sp))) (fun _ _ => rfl) (fun _ _ => rfl) hw hi

/-- Settles O1: each form is at most an operand read and one access, and an access takes three tacts. -/
theorem eightBitLoadsAndStores : Obligations.EightBitLoadsAndStores := by
  unfold Obligations.EightBitLoadsAndStores
  refine ⟨fun s r hw => ⟨fun q => run_ldRegReg r q s, ?regImm, ?regAtHl⟩, fun s hw => ⟨fun r => ?atHlReg, ?atHlImm⟩⟩
  case regImm =>
    rw [run_ldRegImm, ldRegImm, State.imm8, hw.access_eq]
    rfl
  case regAtHl =>
    rw [run_ldRegAtHl, ldRegAtHl, State.rd, hw.access_eq]
    rfl
  case atHlReg =>
    refine ⟨_, run_ldAtHlReg r s, stored_of_mem ⟨rfl, rfl⟩, ?_⟩
    rw [ldAtHlReg, State.wr, hw.access_eq]
    rfl
  case atHlImm =>
    refine ⟨_, run_ldAtHlImm s, stored_of_mem ⟨rfl, rfl⟩, ?_⟩
    rw [ldAtHlImm, State.wr, State.imm8, hw.access_eq]

/-- Settles O2: the six forms are one load and one store of `A`, those at `nn` after the operand. -/
theorem accumulatorIndirect : Obligations.AccumulatorIndirect := by
  unfold Obligations.AccumulatorIndirect
  refine ⟨fun s hw => ⟨loadsA_of_exec hw (run_ldAAtBc s), loadsA_of_exec hw (run_ldAAtDe s), ?loadAtNn⟩,
    fun s hw => ⟨storesA_of_exec hw (run_ldAtBcA s), storesA_of_exec hw (run_ldAtDeA s), ?storeAtNn⟩⟩
  case loadAtNn =>
    rw [run_ldAAtNn, ldAAtNn, State.loadA_eq, State.imm16_byteAt, State.imm16_eq]
    simp only [hw.access_eq]
  case storeAtNn =>
    refine ⟨_, run_ldAtNnA s, stored_of_mem (by simp [ldAtNnA, State.storeA]), (s.imm16.storeA_frame _).trans ?_⟩
    simp only [State.imm16_eq, hw.access_eq]

/-- Settles O3: the operand word, or the word it points at, is read before the register named last is written. -/
theorem sixteenBitLoads : Obligations.SixteenBitLoads := by
  unfold Obligations.SixteenBitLoads
  refine ⟨fun s hw => ⟨fun p => ⟨?pairImm, ?pairAtNn⟩, ?hlAtNn, ?spHl⟩, fun s x hw => ⟨?xyImm, ?xyAtNn, ?spXy⟩⟩
  case pairImm =>
    rw [run_ldPairImm, ldPairImm, State.imm16_eq, hw.access_eq]
    cases p <;> rfl
  case pairAtNn =>
    rw [run_ldPairAtNn, ldPairAtNn, State.imm16_readWord_eq hw, State.imm16_wordAt]
    cases p <;> rfl
  case hlAtNn =>
    rw [run_ldHlAtNn, ldHlAtNn, State.imm16_readWord_eq hw, State.imm16_wordAt]
    rfl
  case spHl =>
    have ht : s.cfg.tact.ldSpHl = 2 := by rw [hw]; rfl
    rw [run_ldSpHl, ldSpHl, ht]
    rfl
  case xyImm =>
    rw [run_ldXyImm, ldXyImm, State.imm16_eq, hw.access_eq]
    cases x <;> rfl
  case xyAtNn =>
    rw [run_ldXyAtNn, ldXyAtNn, State.imm16_readWord_eq hw, State.imm16_wordAt]
    cases x <;> rfl
  case spXy =>
    have ht : s.cfg.tact.ldSpXy = 2 := by rw [hw]; rfl
    rw [run_ldSpXy, ldSpXy, ht]
    rfl

/-- Settles O41: nine words are encodings of their instructions, and three are inherited entries under an index prefix. -/
theorem sampleWordsDecode : Obligations.SampleWordsDecode := by
  unfold Obligations.SampleWordsDecode
  exact ⟨decode_encode_self (d := ⟨.ld_b_c, []⟩) rfl, decode_encode_self (d := ⟨.ld_b_n, [0x5A#8]⟩) rfl,
    decode_encode_self (d := ⟨.sub_at_hl, []⟩) rfl, decode_encode_self (d := ⟨.call_nn, [0x00#8, 0x80#8]⟩) rfl,
    decode_encode_self (d := ⟨.in_a_at_n, [0xFE#8]⟩) rfl, decode_encode_self (d := ⟨.ld_b_at_ixd, [0x05#8]⟩) rfl,
    decode_encode_self (d := ⟨.rlc_b, []⟩) rfl, decode_encode_self (d := ⟨.rlc_at_ixd_b, [0x01#8]⟩) rfl,
    decode_encode_self (d := ⟨.ldi, []⟩) rfl,
    decode_inherited (d := ⟨.ex_de_hl, []⟩) rfl rfl (.inl rfl) (by decide) rfl,
    decode_inherited (d := ⟨.ld_b_c, []⟩) rfl rfl (.inr rfl) (by decide) rfl,
    decode_inherited (d := ⟨.jr_e, [0x05#8]⟩) rfl rfl (.inl rfl) (by decide) rfl⟩
end

section
/-! PROOFS. The 8-bit operations, INC and DEC (43_arith_logic.md) with their index forms, each from the operation its rule
shares, and the rotates of `A` from the bits they move in and out. Settles O7 to O10. -/

namespace Sys2Proof.Machine

variable {s : State} {i : Instr} {a : Word} {f v : Byte}

/-! ## What the shared operations leave -/

/-- `EA(d)` at the constants R361 writes: 3 tacts for the displacement, 5 for the sum. -/
theorem State.readDisplacement_eq (hw : s.WrittenTacts) (x : XY) : s.readDisplacement x = { s with
    wz := s.effective x (s.byteAt s.pc), pc := s.pc + 1#16, tacts := s.tacts + 8
    log := memR s.pc (s.byteAt s.pc) s.tacts :: s.log } := by
  have hp : s.cfg.tact.penalty = 5 := by rw [hw]; rfl
  rw [State.readDisplacement, State.imm8, hw.access_eq, hp]
  rfl

/-- The effective address is read right after the displacement. -/
theorem State.readDisplacement_byteAt (x : XY) (a : Word) : (s.readDisplacement x).byteAt a = s.byteAfter 1 a := by
  simp [State.readDisplacement]

/-- A byte read, one tact, new flags, and the byte written back, for INC and DEC of memory at the written constants. -/
theorem modify_frame (hw : s.WrittenTacts) (a : Word) (f v : Byte) :
    { (((s.rd a).tick 1).setF f).wr a v with mem := s.mem } = { s with
      regs.f := f, tacts := s.tacts + 7
      log := memW a v (s.tacts + 4) :: memR a (s.byteAt a) s.tacts :: s.log } := by
  simp only [State.wr, State.setF, State.tick, State.rd, hw.access_eq]

/-- INC or DEC of the byte at an address (R270, R272). -/
theorem modifies_of_exec (hw : s.WrittenTacts) (hi : exec i s = .next ((((s.rd a).tick 1).setF f).wr a v)) :
    ∃ t, exec i s = .next t ∧ Stored s t a v ∧ { t with mem := s.mem } = { s with
      regs.f := f, tacts := s.tacts + 7
      log := memW a v (s.tacts + 4) :: memR a (s.byteAt a) s.tacts :: s.log } :=
  ⟨_, hi, stored_of_mem ⟨rfl, rfl⟩, modify_frame hw a f v⟩

/-- INC or DEC of the byte at the effective address, after the displacement (R376, R377). -/
theorem modifiesIndexed_of_exec {x : XY} (hw : s.WrittenTacts)
    (hi : exec i s = .next (((((s.readDisplacement x).rd a).tick 1).setF f).wr a v)) :
    ∃ t, exec i s = .next t ∧ Stored s t a v ∧ { t with mem := s.mem } = { s with
      regs.f := f, wz := s.effective x (s.byteAt s.pc), pc := s.pc + 1#16, tacts := s.tacts + 15
      log := memW a v (s.tacts + 12) :: memR a (s.byteAfter 1 a) (s.tacts + 8) ::
        memR s.pc (s.byteAt s.pc) s.tacts :: s.log } := by
  have hw' : (s.readDisplacement x).WrittenTacts := hw
  refine ⟨_, hi, stored_of_mem (by simp [State.readDisplacement]), (modify_frame hw' a f v).trans ?_⟩
  rw [State.readDisplacement_byteAt, State.readDisplacement_eq hw]

/-- A rotate of `A`: the flags of R277 from the new `A` and the bit shifted out, both written out. -/
theorem State.rotA_eq {k : RotOp} {c : Byte} (ha : rotResult k (carryOf s.regs.f) s.regs.a = v)
    (hc : flagIf (rotCarry k s.regs.a) flagC = c) : s.rotA k = { s with
      regs.a := v
      regs.f := (s.regs.f &&& (flagS ||| flagZ ||| flagPV)) ||| (v &&& (flag5 ||| flag3)) ||| c } := by
  subst ha hc
  rfl

end Sys2Proof.Machine

open Sys2Proof Sys2Proof.Machine

/-- Settles O9: all four read a byte, wait a tact and write it back, those at `XY + d` after the displacement. -/
theorem incDecMemory : Obligations.IncDecMemory := by
  unfold Obligations.IncDecMemory
  intro s hw
  refine ⟨modifies_of_exec hw ?incHl, modifies_of_exec hw ?decHl, ?indexed⟩
  case incHl => rw [run_incAtHl, incAtHl, hw]; rfl
  case decHl => rw [run_decAtHl, decAtHl, hw]; rfl
  case indexed =>
    rintro x _ rfl
    refine ⟨modifiesIndexed_of_exec hw ?inc, modifiesIndexed_of_exec hw ?dec⟩
    case inc => rw [run_incXyd, incXyd, State.incMem, State.readDisplacement_byteAt, hw]; rfl
    case dec => rw [run_decXyd, decXyd, State.decMem, State.readDisplacement_byteAt, hw]; rfl

/-- Settles O7: every form is one `ALU(op, v)`, after the reads of its operand. -/
theorem aluOnAccumulator : Obligations.AluOnAccumulator := by
  unfold Obligations.AluOnAccumulator
  refine fun s op hw => ⟨fun r => run_aluReg op r s, ?atHl, ?imm, fun x => ?xyd, fun x h => run_aluHalf x op h s⟩
  case atHl =>
    rw [run_aluAtHl, aluAtHl, State.rd, hw.access_eq]
    rfl
  case imm =>
    rw [run_aluImm, aluImm, State.imm8, hw.access_eq]
    rfl
  case xyd =>
    have hw' : (s.readDisplacement x).WrittenTacts := hw
    rw [run_aluXyd, aluXyd, State.readDisplacement_byteAt, State.rd, hw'.access_eq, State.readDisplacement_byteAt,
      State.readDisplacement_eq hw]
    rfl

/-- Settles O8: the byte forms by computation, and the word forms are one write after their two tacts. -/
theorem incrementDecrementRegisters : Obligations.IncrementDecrementRegisters := by
  unfold Obligations.IncrementDecrementRegisters
  refine ⟨fun s => ⟨fun r => ⟨run_incReg r s, run_decReg r s⟩, fun x h => ⟨?incHalf, ?decHalf⟩⟩,
    fun s hw => ⟨fun p => ⟨?incPair, ?decPair⟩, fun x => ⟨?incXy, ?decXy⟩⟩⟩
  case incHalf => rw [run_incHalf]; cases x <;> cases h <;> rfl
  case decHalf => rw [run_decHalf]; cases x <;> cases h <;> rfl
  case incPair => rw [run_incPair, incPair, hw]; cases p <;> rfl
  case decPair => rw [run_decPair, decPair, hw]; cases p <;> rfl
  case incXy => rw [run_incXy, incXy, hw]; cases x <;> rfl
  case decXy => rw [run_decXy, decXy, hw]; cases x <;> rfl

/-- Settles O10: the first group by computation, and each rotate from the bit it moves in and the bit it moves out. -/
theorem accumulatorOps : Obligations.AccumulatorOps := by
  unfold Obligations.AccumulatorOps
  refine ⟨fun s => ⟨run_daa s, run_cpl s, run_scf s, ?ccf, fun y => run_neg y s⟩,
    fun s => ⟨?rlca, ?rrca, ?rla, ?rra⟩⟩
  case ccf =>
    rw [run_ccf, ccf, flagIf_not]
    rfl
  case rlca =>
    rintro _ rfl
    exact (run_rlca s).trans (congrArg _ (State.rotA_eq (by rw [rotResult, flagIf_bit7]) (flagIf_bit7 _)))
  case rrca =>
    rintro _ rfl
    exact (run_rrca s).trans (congrArg _ (State.rotA_eq (by rw [rotResult, flagIf_bit0_high]) (flagIf_bit0 _)))
  case rla =>
    rintro _ rfl
    exact (run_rla s).trans (congrArg _ (State.rotA_eq (by rw [rotResult, carryOf, flagIf_bit0, flagC]) (flagIf_bit7 _)))
  case rra =>
    rintro _ rfl
    exact (run_rra s).trans (congrArg _ (State.rotA_eq (by rw [rotResult, carryOf, flagIf_bit0_high]) (flagIf_bit0 _)))
end

section
/-! PROOFS. Jumps, calls and returns (44_control_transfer.md): the taken relative jump, the call and the return that their
rules share, at the constants the rules write. Settles O12 to O15. -/

namespace Sys2Proof.Machine

variable {s : State} {f : Form} {i : Instr}

/-! ## Taken relative jumps (R313 to R315, R322) -/

/-- The state in which a taken relative jump takes its delay: the displacement is read, and DJNZ has counted. -/
def State.beforeJump (s : State) : Form → State
  | .djnz => (s.tick s.cfg.tact.djnz).imm8.setB (s.regs.b - 1#8)
  | _ => s.imm8

/-- DJNZ stops at `B = 1`. -/
theorem sub_one_eq_zero_iff (b : Byte) : b - 1#8 = 0x00#8 ↔ b = 1#8 := sub_eq_zero

theorem jrCc_of_not_taken {cc : RelCond} (h : relHolds s.regs.f cc = false) : jrCc cc s = s.imm8 :=
  if_neg (Bool.eq_false_iff.mp h)

theorem djnz_of_taken (h : s.regs.b ≠ 1#8) : djnz s = (s.beforeJump .djnz).jumpRelative s.pc (s.byteAt s.pc) :=
  if_neg (mt (sub_one_eq_zero_iff _).mp h)

theorem djnz_of_not_taken (h : s.regs.b = 1#8) : djnz s = s.beforeJump .djnz :=
  if_pos ((sub_one_eq_zero_iff _).mpr h)

/-- The three taken jumps, said once. -/
theorem formRun_of_taken (h : TakenRelativeJump s f.instr) :
    formRun f s = (s.beforeJump f).jumpRelative s.pc (s.byteAt s.pc) := by
  obtain hf | ⟨cc, hf, hcc⟩ | ⟨hf, hb⟩ := h
  · obtain rfl : f = .jr := form_of_instr hf
    rfl
  · obtain rfl : f = .jrCc cc := form_of_instr hf
    exact if_pos hcc
  · obtain rfl : f = .djnz := form_of_instr hf
    exact djnz_of_taken hb

/-- A taken relative jump at the constants written, in both modes. -/
theorem State.jumpRelative_eq (hw : s.WrittenTacts) (da : Word) (e : Byte) : s.jumpRelative da e = { s with
    pc := s.pc + signExtend16 e, wz := s.pc + signExtend16 e, tacts := s.tacts + 5
    log := delayCalls s 0 da s.tacts ++ s.log } := by
  rw [State.jumpRelative, State.takenDelay_spec hw]
  rfl

/-- The delay's reads come one call after the displacement's. -/
theorem delayCalls_after_read {t : State} (hm : t.mem = s.mem) (hc : t.cfg = s.cfg)
    (hl : t.log.length = s.log.length + 1) (da : Word) (n : Nat) : delayCalls t 0 da n = delayCalls s 1 da n := by
  have hb (k : Nat) : t.byteAfter k da = s.byteAfter (k + 1) da :=
    State.byteAfter_congr hm (congrArg Params.bus hc) (by omega) da
  simp [delayCalls, hc, hb]

/-- JR and JR cc (R313, R314). -/
theorem jumps_of_exec (hw : s.WrittenTacts) (hi : exec i s = .next (s.imm8.jumpRelative s.pc (s.byteAt s.pc))) :
    exec i s = .next { s with
      pc := s.pc + 1#16 + signExtend16 (s.byteAt s.pc), wz := s.pc + 1#16 + signExtend16 (s.byteAt s.pc)
      tacts := s.tacts + 8
      log := delayCalls s 1 s.pc (s.tacts + 3) ++ (memR s.pc (s.byteAt s.pc) s.tacts :: s.log) } := by
  have hw' : s.imm8.WrittenTacts := hw
  rw [hi, State.jumpRelative_eq hw', delayCalls_after_read (s := s) (t := s.imm8) rfl rfl rfl, State.imm8, hw.access_eq]

/-- DJNZ up to its delay (R315). -/
theorem State.beforeJump_djnz_eq (hw : s.WrittenTacts) : s.beforeJump .djnz = { s with
    regs.b := s.regs.b - 1#8, pc := s.pc + 1#16, tacts := s.tacts + 4
    log := memR s.pc (s.byteAt s.pc) (s.tacts + 1) :: s.log } := by
  have hd : s.cfg.tact.djnz = 1 := by rw [hw]; rfl
  rw [State.beforeJump, State.tick, State.imm8, hw.access_eq, hd]
  rfl

/-! ## Calls (R317, R318, R321) -/

/-- `Imm16(); WZ <- nn`, which JP and CALL begin with (R311, R312, R317, R318). -/
theorem State.imm16_setWz_eq (hw : s.WrittenTacts) (nn : Word) : s.imm16.setWz nn = { s with
    pc := s.pc + 2#16, wz := nn, tacts := s.tacts + 6, log := readCalls s s.pc s.tacts ++ s.log } := by
  rw [State.imm16_eq, hw.access_eq]
  rfl

/-- CALL and a taken CALL cc: the operand is read, then its end pushed. -/
theorem calls_of_exec (hw : s.WrittenTacts)
    (hi : exec i s = .next ((s.imm16.setWz (s.wordAt s.pc)).callTo (s.wordAt s.pc) 1)) :
    ∃ t, exec i s = .next t ∧ Pushed s t (s.pc + 2#16) ∧ { t with mem := s.mem } = { s with
      pc := s.wordAt s.pc, wz := s.wordAt s.pc, sp := s.sp - 2#16, tacts := s.tacts + 13
      log := pushCalls s (s.pc + 2#16) (s.tacts + 7) ++ (readCalls s s.pc s.tacts ++ s.log) } := by
  refine ⟨_, hi, pushed_of_mem (by simp [State.callTo]), ?_⟩
  apply State.eq_of_fields <;> simp [State.callTo, hw.access_eq]

/-- RST. -/
theorem restarts_of_exec {target : Word} (hw : s.WrittenTacts)
    (hi : exec i s = .next ((s.callTo target 1).setWz target)) :
    ∃ t, exec i s = .next t ∧ Pushed s t s.pc ∧ { t with mem := s.mem } = { s with
      pc := target, wz := target, sp := s.sp - 2#16, tacts := s.tacts + 7
      log := pushCalls s s.pc (s.tacts + 1) ++ s.log } := by
  refine ⟨_, hi, pushed_of_mem (by simp [State.callTo]), ?_⟩
  apply State.eq_of_fields <;> simp [State.callTo, hw.access_eq]

/-! ## Returns (R319, R320, R460, R461) -/

/-- `PC <- Pop16(); WZ <- PC` (R319, R320). -/
theorem State.returnTo_eq (hw : s.WrittenTacts) : s.returnTo = { s with
    pc := s.wordAt s.sp, wz := s.wordAt s.sp, sp := s.sp + 2#16, tacts := s.tacts + 6
    log := readCalls s s.sp s.tacts ++ s.log } := by
  rw [State.returnTo, State.pop16_eq, hw.access_eq]
  rfl

/-- The same, and `IFF1` from `IFF2` (R460, R461). -/
theorem State.returnFromInterrupt_eq (hw : s.WrittenTacts) : s.returnFromInterrupt = { s with
    pc := s.wordAt s.sp, wz := s.wordAt s.sp, sp := s.sp + 2#16, iff1 := s.iff2, tacts := s.tacts + 6
    log := readCalls s s.sp s.tacts ++ s.log } :=
  congrArg (fun t : State => { t with iff1 := s.iff2 }) (State.returnTo_eq hw)

end Sys2Proof.Machine

open Sys2Proof Sys2Proof.Machine

/-- Settles O12: both forms of JP read the operand first, and the two register jumps write `PC` only. -/
theorem absoluteJumps : Obligations.AbsoluteJumps := by
  unfold Obligations.AbsoluteJumps
  refine fun s hw => ⟨?jp, fun cc => ?jpCc, run_jpHl s, fun x => run_jpXy x s⟩
  case jp =>
    rw [run_jp, jp, State.imm16_setWz_eq hw]
    rfl
  case jpCc =>
    rw [run_jpCc, jpCc, State.imm16_setWz_eq hw]
    cases condHolds s.regs.f cc <;> rfl

/-- Settles O13: a jump taken is one `jumpRelative` after the displacement, a jump not taken ends there. -/
theorem relativeJumps : Obligations.RelativeJumps := by
  unfold Obligations.RelativeJumps
  rintro s _ _ hw rfl rfl
  refine ⟨jumps_of_exec hw (run_jr s), fun cc => ⟨fun hcc => ?taken, fun hcc => ?notTaken⟩, fun hb => ?counting,
    fun hb => ?countedOut⟩
  case taken => exact jumps_of_exec hw (by rw [run_jrCc, jrCc, if_pos hcc])
  case notTaken => rw [run_jrCc, jrCc_of_not_taken hcc, State.imm8, hw.access_eq]
  case counting =>
    have hw' : (s.beforeJump .djnz).WrittenTacts := hw
    rw [run_djnz, djnz_of_taken hb, State.jumpRelative_eq hw',
      delayCalls_after_read (s := s) (t := s.beforeJump .djnz) rfl rfl rfl, State.beforeJump_djnz_eq hw]
  case countedOut =>
    rw [run_djnz, djnz_of_not_taken hb, State.beforeJump_djnz_eq hw, hb]
    rfl

/-- Settles O14: the return address is pushed by one `callTo`, after the operand bytes of CALL. -/
theorem callsAndRestarts : Obligations.CallsAndRestarts := by
  unfold Obligations.CallsAndRestarts
  intro s hw
  have hcall : s.cfg.tact.call = 1 := by rw [hw]; rfl
  have hcallCc : s.cfg.tact.callCc = 1 := by rw [hw]; rfl
  have hrst : s.cfg.tact.rst = 1 := by rw [hw]; rfl
  refine ⟨calls_of_exec hw ?call, fun cc => ⟨fun hcc => calls_of_exec hw ?taken, fun hcc => ?notTaken⟩, fun y => ?rst⟩
  case call => rw [run_call, call, hcall]
  case taken => rw [run_callCc, callCc, if_pos hcc, hcallCc]
  case notTaken => rw [run_callCc, callCc, if_neg (Bool.eq_false_iff.mp hcc), State.imm16_setWz_eq hw]
  case rst => exact restarts_of_exec hw (by rw [run_rst, rst, hrst, restartTarget])

/-- Settles O15: every return is one `returnTo`, after the tact of RET cc and before RETN and RETI copy `IFF2`. -/
theorem returns : Obligations.Returns := by
  unfold Obligations.Returns
  intro s hw
  have hret : s.cfg.tact.retCc = 1 := by rw [hw]; rfl
  have hw' : (s.tick 1).WrittenTacts := hw
  refine ⟨?ret, fun cc => ⟨fun hcc => ?taken, fun hcc => ?notTaken⟩, fun y => ?retn, ?reti⟩
  case ret => rw [run_ret, ret, State.returnTo_eq hw]
  case taken =>
    rw [run_retCc, retCc, if_pos hcc, hret, State.returnTo_eq hw']
    rfl
  case notTaken =>
    rw [run_retCc, retCc, if_neg (Bool.eq_false_iff.mp hcc), hret]
    rfl
  case retn => rw [run_retn, retn, State.returnFromInterrupt_eq hw]
  case reti => rw [run_reti, reti, State.returnFromInterrupt_eq hw]
end

section
/-! PROOFS. What `useGateArrayContention` changes: a state in the other mode (`State.withMode`) takes the same step in that mode,
but for the delay of a taken relative jump (R322, R578). Settles O58. -/

namespace Sys2Proof.Machine

variable {s t x : State} {f : Form} {da : Word} {n : Nat}

/-! ## The mode -/

/-- The state with `useGateArrayContention` at `g`. -/
def State.withMode (s : State) (g : Bool) : State := { s with cfg.useGateArrayContention := g }

variable (s) (g : Bool)

/-- A choice that does not depend on the mode. -/
theorem withMode_ite (p : Prop) [Decidable p] (t u : State) :
    (if p then t.withMode g else u.withMode g) = (if p then t else u).withMode g := by
  split <;> rfl

theorem withMode_push16 (v : Word) : (s.withMode g).push16 v = (s.push16 v).withMode g := rfl

theorem withMode_callTo (v : Word) (n : Nat) : (s.withMode g).callTo v n = (s.callTo v n).withMode g := rfl

theorem withMode_tact : (s.withMode g).cfg.tact = s.cfg.tact := rfl

theorem withMode_regs : (s.withMode g).regs = s.regs := rfl

theorem withMode_bc : (s.withMode g).bc = s.bc := rfl

theorem withMode_hl : (s.withMode g).hl = s.hl := rfl

theorem withMode_byteAt (a : Word) : (s.withMode g).byteAt a = s.byteAt a := rfl

theorem withMode_repeatWz (n : Nat) : (s.withMode g).repeatWz n = (s.repeatWz n).withMode g := rfl

theorem withMode_repeatPc (n : Nat) : (s.withMode g).repeatPc n = (s.repeatPc n).withMode g := rfl

theorem withMode_im : (s.withMode g).im = s.im := rfl

theorem withMode_beforeJump (f : Form) : (s.withMode g).beforeJump f = (s.beforeJump f).withMode g := by
  unfold State.beforeJump
  split <;> rfl

theorem withMode_indexedAddress (x : XY) : (s.withMode g).indexedAddress x = s.indexedAddress x := by
  cases x <;> rfl

theorem withMode_readDisplacement (x : XY) : (s.withMode g).readDisplacement x = (s.readDisplacement x).withMode g := by
  cases x <;> rfl

theorem withMode_incMem (a : Word) (n : Nat) : (s.withMode g).incMem a n = (s.incMem a n).withMode g := rfl

theorem withMode_decMem (a : Word) (n : Nat) : (s.withMode g).decMem a n = (s.decMem a n).withMode g := rfl

theorem withMode_blockLoad (dlt : Word) : (s.withMode g).blockLoad dlt = (s.blockLoad dlt).withMode g := rfl

theorem withMode_blockCompare (dlt : Word) : (s.withMode g).blockCompare dlt = (s.blockCompare dlt).withMode g := rfl

theorem withMode_blockIn (dlt : Word) : (s.withMode g).blockIn dlt = (s.blockIn dlt).withMode g := rfl

theorem withMode_blockOut (dlt : Word) : (s.withMode g).blockOut dlt = (s.blockOut dlt).withMode g := rfl

theorem withMode_blockLoadRepeat (dlt : Word) :
    (s.withMode g).blockLoadRepeat dlt = (s.blockLoadRepeat dlt).withMode g := by
  simp only [State.blockLoadRepeat, withMode_blockLoad, withMode_repeatWz, withMode_tact, withMode_bc]
  exact withMode_ite g _ _ _

theorem withMode_blockCompareRepeat (dlt : Word) :
    (s.withMode g).blockCompareRepeat dlt = (s.blockCompareRepeat dlt).withMode g := by
  simp only [State.blockCompareRepeat, withMode_blockCompare, withMode_repeatWz, withMode_tact, withMode_bc,
    withMode_regs, withMode_hl, withMode_byteAt]
  exact withMode_ite g _ _ _

theorem withMode_blockInRepeat (dlt : Word) :
    (s.withMode g).blockInRepeat dlt = (s.blockInRepeat dlt).withMode g := by
  simp only [State.blockInRepeat, withMode_blockIn, withMode_repeatPc, withMode_tact, withMode_regs]
  exact withMode_ite g _ _ _

theorem withMode_blockOutRepeat (dlt : Word) :
    (s.withMode g).blockOutRepeat dlt = (s.blockOutRepeat dlt).withMode g := by
  simp only [State.blockOutRepeat, withMode_blockOut, withMode_repeatPc, withMode_tact, withMode_regs]
  exact withMode_ite g _ _ _

/-- No form reads the mode but a taken relative jump. Without a branch this is so by computation, once the operand that picks
a register is known; with one, both sides make the same choice. -/
theorem formRun_withMode (f : Form) (hn : ¬ TakenRelativeJump s f.instr) :
    formRun f (s.withMode g) = (formRun f s).withMode g := by
  cases f with
  | jr => exact absurd (.inl rfl) hn
  | jrCc cc =>
    have hcc : relHolds s.regs.f cc = false := Bool.eq_false_iff.mpr fun e => hn (.inr (.inl ⟨cc, rfl, e⟩))
    calc jrCc cc (s.withMode g) = (s.withMode g).imm8 := jrCc_of_not_taken hcc
      _ = (jrCc cc s).withMode g := by rw [jrCc_of_not_taken hcc]; rfl
  | djnz =>
    have hb : s.regs.b = 1#8 := by_contra fun e => hn (.inr (.inr ⟨rfl, e⟩))
    calc djnz (s.withMode g) = (s.withMode g).beforeJump .djnz := djnz_of_not_taken hb
      _ = (djnz s).withMode g := by rw [djnz_of_not_taken hb, withMode_beforeJump]
  | jpCc cc =>
    simp only [formRun, jpCc]
    rw [← withMode_ite]
    rfl
  | callCc cc =>
    simp only [formRun, callCc]
    rw [← withMode_ite, ← withMode_callTo]
    rfl
  | retCc cc =>
    simp only [formRun, retCc]
    rw [← withMode_ite]
    rfl
  | rst y => exact congrArg (State.setWz · (restartTarget y)) (withMode_callTo s g _ _)
  | call =>
    simp only [formRun, call]
    rw [← withMode_callTo]
    rfl
  | incXyd i =>
    simp only [formRun, incXyd, withMode_readDisplacement, withMode_indexedAddress, withMode_incMem, withMode_tact]
  | decXyd i =>
    simp only [formRun, decXyd, withMode_readDisplacement, withMode_indexedAddress, withMode_decMem, withMode_tact]
  | ldi | ldd => exact withMode_blockLoad s g _
  | cpi | cpd => exact withMode_blockCompare s g _
  | ini | ind => exact withMode_blockIn s g _
  | outi | outd => exact withMode_blockOut s g _
  | ldir | lddr => exact withMode_blockLoadRepeat s g _
  | cpir | cpdr => exact withMode_blockCompareRepeat s g _
  | inir | indr => exact withMode_blockInRepeat s g _
  | otir | otdr => exact withMode_blockOutRepeat s g _
  | ldPairImm p | addHl p | incPair p | decPair p | sbcHl p | adcHl p | ldAtNnPair p | ldPairAtNn p => cases p <;> rfl
  | push p | pop p => cases p <;> rfl
  | ldXyImm i | ldAtNnXy i | ldXyAtNn i | ldSpXy i | pushXy i | popXy i | exSpXy i | jpXy i | incXy i | decXy i => cases i <;> rfl
  | addXy i p => cases i <;> cases p <;> rfl
  | ldRegXyd i _ | ldXydReg i _ | ldXydImm i | aluXyd i _ => cases i <;> rfl
  | ldHalfImm i h | ldRegHalf i _ h | ldHalfReg i h _ | incHalf i h | decHalf i h | aluHalf i _ h =>
    cases i <;> cases h <;> rfl
  | ldHalfHalf i h k => cases i <;> cases h <;> cases k <;> rfl
  | rotXyd i _ | rotXydCopy i _ _ | bitXyd i _ _ | resXyd i _ | resXydCopy i _ _ | setXyd i _ | setXydCopy i _ _ =>
    cases i <;> rfl
  | _ => rfl

/-! ## The cycle and the signal step in another mode -/

theorem withMode_enter : (s.withMode g).enter = s.enter.withMode g := by
  unfold State.enter
  rw [← withMode_ite, ← withMode_ite]
  rfl

theorem withMode_close (p : Bool) : (s.withMode g).close p = (s.close p).withMode g := by
  cases p <;> rfl

theorem withMode_leaveHalt : (s.withMode g).leaveHalt = s.leaveHalt.withMode g := by
  rw [leaveHalt_eq, leaveHalt_eq]
  rfl

/-- Both entries write the flip-flops and push `PC` (R527, R530). -/
theorem withMode_entryPush (b c : Bool) (n : Nat) :
    (({ s.withMode g with iff1 := b, iff2 := c } : State).tick n).push16 (s.withMode g).pc =
      ((({ s with iff1 := b, iff2 := c } : State).tick n).push16 s.pc).withMode g :=
  withMode_push16 (({ s with iff1 := b, iff2 := c } : State).tick n) g s.pc

theorem withMode_interruptAck : (s.withMode g).interruptAck = s.interruptAck.withMode g := by
  simp only [State.interruptAck, withMode_leaveHalt, withMode_tact]
  rw [withMode_entryPush, withMode_im]
  generalize State.push16 _ s.leaveHalt.pc = x
  cases s.im <;> rfl

theorem withMode_nmiEntry : (s.withMode g).nmiEntry = s.nmiEntry.withMode g := by
  simp only [State.nmiEntry, withMode_leaveHalt, withMode_tact]
  rw [withMode_entryPush]
  rfl

/-- The signal step performs the same action. -/
theorem withMode_signalStep : (s.withMode g).signalStep = s.signalStep.map (·.withMode g) := by
  unfold State.signalStep
  rw [withMode_interruptAck, withMode_nmiEntry]
  simp only [apply_ite (Option.map _)]
  rfl

/-! ## A taken relative jump in another mode -/

variable {s g}

/-- Only `tacts` and the calls of a taken jump depend on the mode. -/
theorem formRun_withMode_of_taken (h : TakenRelativeJump s f.instr) : formRun f (s.withMode g) =
    { (formRun f s).withMode g with
      tacts := (formRun f (s.withMode g)).tacts, log := (formRun f (s.withMode g)).log } := by
  have hg : TakenRelativeJump (s.withMode g) f.instr := h
  rw [formRun_of_taken h, formRun_of_taken hg, withMode_beforeJump]
  simp only [State.jumpRelative]
  rw [State.takenDelay_eq, State.takenDelay_eq (s.beforeJump f)]
  rfl

/-- At the constants written the delay takes 5 tacts in both modes. -/
theorem formRun_withMode_tacts (h : TakenRelativeJump s f.instr) (hw : s.WrittenTacts) :
    (formRun f (s.withMode g)).tacts = (formRun f s).tacts := by
  have hg : TakenRelativeJump (s.withMode g) f.instr := h
  have hb : (s.beforeJump f).WrittenTacts := by
    unfold State.beforeJump
    split <;> exact hw
  have hbg : ((s.beforeJump f).withMode g).WrittenTacts := hb
  rw [formRun_of_taken h, formRun_of_taken hg, withMode_beforeJump, State.jumpRelative_eq hb, State.jumpRelative_eq hbg]
  rfl

/-- From `s` to `t` memory is read, and no other call is made. -/
def ReadsOnly (s t : State) : Prop := ∃ c, t.log = c ++ s.log ∧ ∀ b ∈ c, b.kind = .memRead

theorem ReadsOnly.refl (s : State) : ReadsOnly s s := ⟨[], rfl, nofun⟩

theorem ReadsOnly.read (h : ReadsOnly s t) {v : Byte} (hl : x.log = memR da v n :: t.log) : ReadsOnly s x := by
  obtain ⟨c, hc, hk⟩ := h
  exact ⟨memR da v n :: c, by rw [hl, hc]; rfl, by simpa using hk⟩

theorem ReadsOnly.extraReads (h : ReadsOnly s t) (da : Word) (n : Nat) : ReadsOnly s (t.extraReads da n) := by
  induction n generalizing t with
  | zero => exact h
  | succ n ih => exact ih (h.read rfl)

theorem ReadsOnly.takenDelay (h : ReadsOnly s t) (da : Word) : ReadsOnly s (t.takenDelay da) := by
  unfold State.takenDelay
  split
  · exact h
  · exact h.extraReads da 5

theorem ReadsOnly.enter (s : State) : ReadsOnly s s.enter := by
  cases hb : indexedBit s.prefixMode s.indexMode with
  | true =>
    rw [enter_indexedBit hb, openIndexedBit_eq]
    exact ((ReadsOnly.refl s).read (x := s.imm8) rfl).read rfl
  | false =>
    rw [enter_of_fetch hb]
    exact (ReadsOnly.refl s).read rfl

theorem ReadsOnly.close (h : ReadsOnly s t) (p : Bool) : ReadsOnly s (t.close p) := by
  cases p <;> exact h

theorem ReadsOnly.takenJump (h : ReadsOnly s t) (hj : TakenRelativeJump t f.instr) : ReadsOnly s (formRun f t) := by
  have hb : ReadsOnly s (t.beforeJump f) := by
    unfold State.beforeJump
    split <;> exact h.read rfl
  rw [formRun_of_taken hj]
  exact hb.takenDelay t.pc

/-- A Bus that adds no tacts to memory calls charges nothing for reads, whatever its ports do. -/
theorem ReadsOnly.settle_tacts (h : ReadsOnly s t) (hm : t.cfg.bus.memDelay = .constant 0) :
    (t.settle s.log.length).tacts = t.tacts := by
  obtain ⟨c, hc, hk⟩ := h
  have hz : ∀ l : List BusCall, (∀ b ∈ l, b.kind = .memRead) → (t.cfg.bus.retime l).2 = 0 := by
    intro l hl
    induction l with
    | nil => rfl
    | cons b rest ih =>
      obtain ⟨hb, hrest⟩ := List.forall_mem_cons.mp hl
      simp [Bus.retime, ih hrest, Bus.callTacts, hb, Bus.memTacts, hm]
  rw [(State.settle_log hc).2, hz c hk, Nat.add_zero]

/-! ## The step -/

theorem takenRelativeJump_enter (i : Instr) : TakenRelativeJump s.enter i ↔ TakenRelativeJump s i := by
  rw [TakenRelativeJump, (enter_keeps s).1]
  rfl

/-- The cycle of an instruction that is no taken relative jump is the same in another mode. -/
theorem cycle_withMode (h : ¬ TakenRelativeJump s s.nextInstr) :
    (formRun s.nextForm (s.withMode g).enter).close s.atPrefix =
      ((formRun s.nextForm s.enter).close s.atPrefix).withMode g := by
  rw [withMode_enter, formRun_withMode s.enter g s.nextForm (mt (takenRelativeJump_enter _).mp h), withMode_close]

theorem State.close_tacts (p : Bool) : (s.close p).tacts = s.tacts := by cases p <;> rfl

/-- On a Bus that adds no tacts to memory calls, a taken relative jump takes the tacts of its rule. -/
theorem cycle_tacts_of_taken (h : TakenRelativeJump s s.nextInstr) (hm : s.cfg.bus.memDelay = .constant 0) :
    (((formRun s.nextForm s.enter).close s.atPrefix).settle s.log.length).tacts =
      (formRun s.nextForm s.enter).tacts := by
  have hj : TakenRelativeJump s.enter s.nextForm.instr := (takenRelativeJump_enter _).mpr h
  have hreads := ((ReadsOnly.enter s).takenJump hj).close s.atPrefix
  rw [hreads.settle_tacts (by rw [(cycle_grows s).cfg, hm]), State.close_tacts]

/-- What a step of `s` in the mode `g` leaves beside the step of `s`, where both are the same taken relative jump. -/
structure JumpedInMode (s : State) (g : Bool) (t u : State) : Prop where
  fields : u = { t.withMode g with tacts := u.tacts, log := u.log }
  tacts : s.WrittenTacts → s.cfg.bus.memDelay = .constant 0 → u.tacts = t.tacts

theorem cycle_jumpedInMode (h : TakenRelativeJump s s.nextInstr) :
    JumpedInMode s g (((formRun s.nextForm s.enter).close s.atPrefix).settle s.log.length)
      (((formRun s.nextForm (s.withMode g).enter).close s.atPrefix).settle s.log.length) := by
  have hj : TakenRelativeJump s.enter s.nextForm.instr := (takenRelativeJump_enter _).mpr h
  refine ⟨?fields, fun hw hm => ?tacts⟩
  case fields =>
    rw [withMode_enter, formRun_withMode_of_taken hj]
    cases s.atPrefix <;> rfl
  case tacts =>
    have hw' : s.enter.WrittenTacts := (congrArg Params.tact (enter_grows s).cfg).trans hw
    calc _ = (formRun s.nextForm (s.withMode g).enter).tacts := cycle_tacts_of_taken (s := s.withMode g) h hm
      _ = (formRun s.nextForm s.enter).tacts := by rw [withMode_enter, formRun_withMode_tacts hj hw']
      _ = _ := (cycle_tacts_of_taken h hm).symm

/-- A step in another mode: the same but for the mode, or a taken relative jump. -/
theorem step_withMode (ht : step s = .next t) : ∃ u, step (s.withMode g) = .next u ∧
    (u = t.withMode g ∨ (s.signalStep = none ∧ TakenRelativeJump s s.nextInstr ∧ JumpedInMode s g t u)) := by
  obtain ⟨w, rfl, hs | ⟨hs, hm, rfl⟩⟩ := step_next ht
  · exact ⟨_, step_of_some (by rw [withMode_signalStep, hs]; rfl), .inl rfl⟩
  · refine ⟨_, step_of_cycle (by rw [withMode_signalStep, hs]; rfl) hm, ?_⟩
    by_cases hj : TakenRelativeJump s s.nextInstr
    · exact .inr ⟨hs, hj, cycle_jumpedInMode hj⟩
    · exact .inl (congrArg (State.settle · s.log.length) (cycle_withMode hj))

theorem step_withMode_fault {r : Fault} (hr : step s = .fault r) : step (s.withMode g) = .fault r := by
  rw [step_fault_iff] at hr ⊢
  exact ⟨by rw [withMode_signalStep, hr.1]; rfl, hr.2⟩

end Sys2Proof.Machine

open Sys2Proof Sys2Proof.Machine

/-- Settles O58: only a taken relative jump reads the mode, for its calls and their tacts. -/
theorem contentionModeChangesOnlyTheCalls : Obligations.ContentionModeChangesOnlyTheCalls := by
  unfold Obligations.ContentionModeChangesOnlyTheCalls
  refine fun s g => ⟨fun t ht => ?_, fun r => step_withMode_fault⟩
  obtain ⟨u, hu, rfl | ⟨hs, hj, h⟩⟩ := step_withMode (g := g) ht
  · exact ⟨_, hu, rfl, fun _ => rfl, fun _ _ => rfl, rfl⟩
  · exact ⟨u, hu, congrArg State.cfg h.fields, fun hn => absurd ⟨hs, hj⟩ hn, h.tacts, by rw [h.fields]; rfl⟩
end

section
/-! PROOFS. CPU control, the prefix bytes and the ports (45_system_io.md, 41_dispatch_prefix.md R162, R163, 48_ed_extended.md
R451 to R454): which forms run a prefix byte's row, and what a port access leaves after the operand. Settles O16, O17. -/

namespace Sys2Proof.Machine

/-! ## The prefix bytes (R161, R163) -/

/-- The rows of the four prefix bytes belong to their own forms. -/
theorem prefixForm_of_instr_mem {f : Form} (h : f.instr ∈ [Instr.prefix_cb, .prefix_dd, .prefix_ed, .prefix_fd]) :
    prefixForm f = true := by
  simp only [List.mem_cons, List.not_mem_nil, or_false] at h
  obtain h | h | h | h := h
  · exact congrArg prefixForm (form_of_instr (g := .prefixCb) h)
  · exact congrArg prefixForm (form_of_instr (g := .prefixDd) h)
  · exact congrArg prefixForm (form_of_instr (g := .prefixEd) h)
  · exact congrArg prefixForm (form_of_instr (g := .prefixFd) h)

/-- After `CB` or `ED` the next byte is an opcode (R163). -/
theorem decodeInstr_not_prefix {pm : PrefixMode} (hpm : pm ≠ .none) (im : IndexMode) (op : Byte) :
    decodeInstr pm im op ∉ [Instr.prefix_cb, .prefix_dd, .prefix_ed, .prefix_fd] := by
  have hform : prefixForm (decodeForm pm im op) = false := by simp [prefixForm_decode, hpm]
  exact fun h => Bool.eq_false_iff.mp hform (prefixForm_of_instr_mem h)

/-! ## The ports (R344, R345, R451, R452) -/

variable {s : State} {port : Word}

/-- `Imm8()` at the constants the rules write (R9). -/
theorem State.imm8_eq (hw : s.WrittenTacts) : s.imm8 = { s with
    pc := s.pc + 1#16, tacts := s.tacts + 3, log := memR s.pc (s.byteAt s.pc) s.tacts :: s.log } := by
  rw [State.imm8, hw.access_eq]

theorem inA_eq (hw : s.WrittenTacts) (hport : port = pairOf s.regs.a (s.byteAt s.pc)) : inA s = { s with
    regs.a := s.portAnswer port, wz := port + 1#16, pc := s.pc + 1#16, tacts := s.tacts + 3 + s.portDelay
    portInputs := s.portInputs.tail, portReads := s.portReads + 1
    log := portR port (s.portAnswer port) (s.tacts + 3) :: memR s.pc (s.byteAt s.pc) s.tacts :: s.log } := by
  subst hport
  rw [inA, State.imm8_eq hw]
  rfl

theorem outA_eq (hw : s.WrittenTacts) (hport : port = pairOf s.regs.a (s.byteAt s.pc)) : outA s = { s with
    wz := pairOf s.regs.a (s.byteAt s.pc + 1#8), pc := s.pc + 1#16, tacts := s.tacts + 3 + s.portDelay
    log := portW port s.regs.a (s.tacts + 3) :: memR s.pc (s.byteAt s.pc) s.tacts :: s.log } := by
  subst hport
  rw [outA, State.imm8_eq hw]
  rfl

/-- Both inputs at `BC` before the answer is stored (R451, R452). -/
theorem State.inputC_eq (s : State) : s.inputC = { s with
    regs.f := logicFlags (s.portAnswer s.bc) ||| (s.regs.f &&& flagC), wz := s.bc + 1#16, tacts := s.tacts + s.portDelay
    portInputs := s.portInputs.tail, portReads := s.portReads + 1
    log := portR s.bc (s.portAnswer s.bc) s.tacts :: s.log } := rfl

end Sys2Proof.Machine

open Sys2Proof Sys2Proof.Machine

/-- Settles O16: the control and prefix bytes by computation, and the byte after `CB` or `ED` by its form. -/
theorem controlAndPrefixBytes : Obligations.ControlAndPrefixBytes := by
  unfold Obligations.ControlAndPrefixBytes
  refine ⟨fun s => ⟨run_nop s, fun op => run_nopEd op s, run_halt s, run_di s, run_ei s, fun m y => run_im m y s⟩,
    fun _ im op hpm => decodeInstr_not_prefix hpm im op, rfl, rfl,
    fun s => ⟨run_prefixCb s, run_prefixDd s, run_prefixFd s, run_prefixEd s⟩⟩

/-- Settles O17: `A` over the operand byte, or `BC`, is the port of one access, which charges the port delay. -/
theorem portInputAndOutput : Obligations.PortInputAndOutput := by
  unfold Obligations.PortInputAndOutput
  refine ⟨fun s n port hw hn hport => ?operand, fun s => ⟨fun v t hv ht => ?inputs, fun r => run_outReg r s,
    run_outZero s⟩⟩
  case operand =>
    subst hn
    exact ⟨(run_inA s).trans (congrArg _ (inA_eq hw hport)), (run_outA s).trans (congrArg _ (outA_eq hw hport))⟩
  case inputs =>
    subst hv
    have hin : s.inputC = t := s.inputC_eq.trans ht.symm
    exact ⟨hin ▸ run_inFlags s, fun r => hin ▸ run_inReg r s⟩
end

section
/-! PROOFS. The loads through `XY + d` and of the halves of `XY` (46_indexed.md): one write call with its frame, and the
operand bytes that are read before it. Settles O18, O19. -/

namespace Sys2Proof.Machine

variable {s t : State} {i : Instr} {a : Word} {v : Byte}

/-- A byte stored last, after reads have led to `t` (R7, R374, R375). -/
theorem stores_of_exec (hw : s.WrittenTacts) (hi : exec i s = .next (t.wr a v)) (hmem : t.mem = s.mem)
    (hcfg : t.cfg = s.cfg) :
    ∃ u, exec i s = .next u ∧ Stored s u a v ∧ { u with mem := s.mem } = { t with
      tacts := t.tacts + 3, log := memW a v t.tacts :: t.log } := by
  refine ⟨_, hi, stored_of_mem (by simp [hmem, hcfg]), ?_⟩
  rw [State.wr, hcfg, hw.access_eq, ← hmem]

/-- `LD (XY+d),n` reads both operand bytes, takes `WZ`, waits, and stores the second one (R375). -/
theorem ldXydImm_eq_wr (x : XY) : ldXydImm x s =
    ((s.imm16.setWz (s.indexedAddress x)).tick s.cfg.tact.ldXydImm).wr (s.indexedAddress x)
      (s.byteAfter 1 (s.pc + 1#16)) := by
  simp only [ldXydImm, State.imm16, State.setWz_byteAt, State.imm8_byteAt, State.setWz_pc, State.imm8_pc]
  rfl

/-- A half written after the operand byte (R379). -/
theorem State.imm8_setHalf_eq (hw : s.WrittenTacts) (x : XY) (h : Half) (v : Byte) :
    s.imm8.setHalf x h v = { s.setHalf x h v with
      pc := s.pc + 1#16, tacts := s.tacts + 3, log := memR s.pc (s.byteAt s.pc) s.tacts :: s.log } := by
  rw [State.imm8_eq hw]
  cases x <;> cases h <;> rfl

end Sys2Proof.Machine

open Sys2Proof Sys2Proof.Machine

/-- Settles O18: each form is one access at `XY + d`, after the displacement or after both operand bytes. -/
theorem indexedMemoryMoves : Obligations.IndexedMemoryMoves := by
  unfold Obligations.IndexedMemoryMoves
  intro s x ea hw hea
  obtain rfl : ea = s.indexedAddress x := hea
  refine ⟨fun r => ?load, fun r => ?store, ?storeImm⟩
  case load =>
    have hw' : (s.readDisplacement x).WrittenTacts := hw
    rw [run_ldRegXyd, ldRegXyd, State.readDisplacement_byteAt, State.rd, hw'.access_eq, State.readDisplacement_byteAt,
      State.readDisplacement_eq hw]
    rfl
  case store =>
    have hstore := stores_of_exec hw (run_ldXydReg x r s) rfl rfl
    rw [State.readDisplacement_eq hw] at hstore
    exact hstore
  case storeImm =>
    have htick : s.cfg.tact.ldXydImm = 2 := by rw [hw]; rfl
    have hi := run_ldXydImm x s
    rw [ldXydImm_eq_wr] at hi
    have hstore := stores_of_exec hw hi (by simp) (by simp)
    rw [htick, State.imm16_eq, hw.access_eq] at hstore
    exact hstore

/-- Settles O19: every form is one write of a half or of a register, `LD XYH,n` and `LD XYL,n` after the operand byte. -/
theorem indexHalfLoads : Obligations.IndexHalfLoads := by
  unfold Obligations.IndexHalfLoads
  refine fun s x h hw => ⟨?imm, fun r => ⟨run_ldRegHalf x r h s, run_ldHalfReg x h r s⟩, fun k => run_ldHalfHalf x h k s⟩
  case imm => rw [run_ldHalfImm, ldHalfImm, State.imm8_setHalf_eq hw]
end

section
/-! PROOFS. The bit table and its indexed form (47_cb_bit.md): a byte read, changed and written back, with the register
copy after it; the rotates and shifts as numbers; and the flags of `BIT`. Settles O20 to O23 and O36. -/

namespace Sys2Proof.Machine

variable {s t u : State} {i j : Instr} {a : Word} {f v : Byte}

/-! ## Memory operands (R420, R433) -/

/-- An operand read and the tact after it, at the constants the rules write. -/
theorem State.rdModify_eq (hw : s.WrittenTacts) (a : Word) : s.rdModify a 1 = { s with
    tacts := s.tacts + 4, log := memR a (s.byteAt a) s.tacts :: s.log } := by
  rw [State.rdModify, State.rd, hw.access_eq]
  rfl

/-- The byte at the address that `WZ` takes first is changed (R433). `RES` and `SET` write the old `F`. -/
theorem modifiesAtWz_of_exec (hw : s.WrittenTacts)
    (hi : exec i s = .next (((((s.setWz a).rd a).tick 1).setF f).wr a v)) :
    ∃ t, exec i s = .next t ∧ Stored s t a v ∧ { t with mem := s.mem } = { s with
      regs.f := f, wz := a, tacts := s.tacts + 7
      log := memW a v (s.tacts + 4) :: memR a (s.byteAt a) s.tacts :: s.log } :=
  have hw' : (s.setWz a).WrittenTacts := hw
  ⟨_, hi, stored_of_mem ⟨rfl, rfl⟩, modify_frame hw' a f v⟩

/-- A copy form `j` is the plain form `i` and a load of the byte written (R433). -/
theorem copies_of_exec {r : Reg8} (hi : exec i s = .next t) (hj : exec j s = .next (t.setReg r v))
    (h : ∃ t, exec i s = .next t ∧ Stored s t a v ∧ { t with mem := s.mem } = u) :
    ∃ t, exec j s = .next t ∧ Stored s t a v ∧ { t with mem := s.mem } = u.setReg r v := by
  obtain ⟨t', ht', hstored, hframe⟩ := h
  obtain rfl : t' = t := Host.Outcome.next.inj (ht'.symm.trans hi)
  exact ⟨_, hj, hstored, congrArg (State.setReg · r v) hframe⟩

/-! ## Rotates and shifts as numbers (R421 to R428) -/

/-- A left form moves `x` into bit 0. -/
theorem toNat_shiftLeft_or_flagIf (v : Byte) (x : Bool) :
    ((v <<< 1) ||| flagIf x 0x01#8).toNat = 2 * v.toNat % 256 + x.toNat := by
  have hdisjoint : (v <<< 1) &&& flagIf x 0x01#8 = 0#8 := by
    cases x
    · simp
    · ext i hi
      cases i <;> simp
  rw [← BitVec.add_eq_or_of_and_eq_zero _ _ hdisjoint]
  cases x <;> simp <;> bv_omega

/-- A right form moves `x` into bit 7. -/
theorem toNat_shiftRight_or_flagIf (v : Byte) (x : Bool) :
    ((v >>> 1) ||| flagIf x 0x80#8).toNat = v.toNat / 2 + 128 * x.toNat := by
  have hdisjoint : (v >>> 1) &&& flagIf x 0x80#8 = 0#8 := by
    cases x
    · simp
    · ext i hi
      interval_cases i <;> simp
  rw [← BitVec.add_eq_or_of_and_eq_zero _ _ hdisjoint]
  cases x <;> simp <;> bv_omega

theorem toNat_bit7 (v : Byte) : (v.getLsbD 7).toNat = v.toNat / 128 := by
  rw [← BitVec.testBit_toNat, Nat.toNat_testBit]
  omega

theorem toNat_bit0 (v : Byte) : (v.getLsbD 0).toNat = v.toNat % 2 := by
  rw [← BitVec.testBit_toNat, Nat.toNat_testBit]
  omega

/-- `SRA` keeps the sign. -/
theorem flagIf_bit7_high : ∀ v : Byte, flagIf (v.getLsbD 7) 0x80#8 = v &&& 0x80#8 := by decide

/-- The flag `C` of R421: bit 7 for the left forms, bit 0 for the right forms. -/
theorem flagIf_rotCarry (k : RotOp) (v : Byte) : flagIf (rotCarry k v) flagC =
    if k = .rlc ∨ k = .rl ∨ k = .sla ∨ k = .sll then v >>> 7 else v &&& 1#8 := by
  cases k with
  | rlc | rl | sla | sll => exact flagIf_bit7 v
  | rrc | rr | sra | srl => exact flagIf_bit0 v

/-! ## The flags of `BIT` (R429) -/

theorem bitFlags_eq (f : Byte) (b : BitNo) (v src : Byte) : bitFlags f b v src =
    (f &&& flagC) ||| flagH ||| (if v.getLsbD b.val then 0#8 else flagZ ||| flagPV)
      ||| (if b = .b7 ∧ v.getLsbD 7 = true then flagS else 0#8) ||| (src &&& (flag5 ||| flag3)) := by
  have hsign : flagIf (b == .b7 && v.getLsbD b.val) flagS = if b = .b7 ∧ v.getLsbD 7 = true then flagS else 0#8 := by
    by_cases hb : b = .b7
    · subst hb
      simp [flagIf, BitNo.val]
    · rw [beq_false_of_ne hb, if_neg fun h => hb h.1]
      rfl
  simp only [bitFlags, bits53, and_bitMask_beq_zero, flagIf_not, Bool.not_not, hsign]

end Sys2Proof.Machine

open Sys2Proof Sys2Proof.Machine

/-- Settles O21: the byte at `HL` or at `XY + d` is changed in one read and one write, and a copy form loads it last. -/
theorem rotateAndShiftMemory : Obligations.RotateAndShiftMemory := by
  unfold Obligations.RotateAndShiftMemory
  rintro s k _ hw rfl
  refine ⟨?atHl, ?indexed⟩
  case atHl =>
    rintro _ rfl
    exact modifies_of_exec hw (by rw [run_rotAtHl, rotAtHl, hw]; rfl)
  case indexed =>
    rintro x ea _ hea rfl
    obtain rfl : ea = s.bitAddress x := hea
    have hplain := modifiesAtWz_of_exec hw (i := Instr.rotXyd x k) (by rw [run_rotXyd, rotXyd, hw]; rfl)
    exact ⟨hplain, fun r => copies_of_exec (run_rotXyd x k s) (run_rotXydCopy x k r s) hplain⟩

/-- Settles O23: as O21, with the flags written back unchanged. -/
theorem resetAndSetMemoryBit : Obligations.ResetAndSetMemoryBit := by
  unfold Obligations.ResetAndSetMemoryBit
  intro s b hw
  refine ⟨modifies_of_exec (f := s.regs.f) hw ?resHl, modifies_of_exec (f := s.regs.f) hw ?setHl, ?indexed⟩
  case resHl => rw [run_resAtHl, resAtHl, hw]; rfl
  case setHl => rw [run_setAtHl, setAtHl, hw]; rfl
  case indexed =>
    rintro x ea _ hea rfl
    obtain rfl : ea = s.bitAddress x := hea
    have hres := modifiesAtWz_of_exec hw (i := Instr.resXyd x b) (a := s.bitAddress x) (f := s.regs.f)
      (v := resBit b (s.byteAt (s.bitAddress x))) (by rw [run_resXyd, resXyd, hw]; rfl)
    have hset := modifiesAtWz_of_exec hw (i := Instr.setXyd x b) (a := s.bitAddress x) (f := s.regs.f)
      (v := setBit b (s.byteAt (s.bitAddress x))) (by rw [run_setXyd, setXyd, hw]; rfl)
    exact ⟨hres, hset, fun r => copies_of_exec (run_resXyd x b s) (run_resXydCopy x b r s) hres,
      fun r => copies_of_exec (run_setXyd x b s) (run_setXydCopy x b r s) hset⟩

/-- Settles O20: each form is one write of the register, after the flags for the rotates and shifts. -/
theorem rotateAndShiftRegister : Obligations.RotateAndShiftRegister := by
  unfold Obligations.RotateAndShiftRegister
  exact fun s r => ⟨fun k => run_rotReg k r s, fun b => ⟨run_resReg b r s, run_setReg b r s⟩⟩

/-- Settles O22: the memory forms read one byte, that at `XY + d` after `WZ` has taken the address. -/
theorem bitTests : Obligations.BitTests := by
  unfold Obligations.BitTests
  refine ⟨bitFlags_eq, fun s b hw => ⟨fun r => run_bitReg b r s, ?atHl, ?indexed⟩⟩
  case atHl =>
    have ht : s.cfg.tact.bitAtHl = 1 := by rw [hw]; rfl
    rw [run_bitAtHl, bitAtHl, ht, State.rdModify_eq hw]
    rfl
  case indexed =>
    intro x z ea hea
    obtain rfl : ea = s.bitAddress x := hea
    have ht : s.cfg.tact.bitXyd = 1 := by rw [hw]; rfl
    have hw' : (s.atDisplacement x).WrittenTacts := hw
    rw [run_bitXyd, bitXyd, ht, State.rdModify_eq hw']
    rfl

/-- Settles O36: a left or a right shift, with the bit that the form moves into the free end. -/
theorem rotateTable : Obligations.RotateTable := by
  unfold Obligations.RotateTable
  intro v c
  have hleft := toNat_shiftLeft_or_flagIf v
  have hright := toNat_shiftRight_or_flagIf v
  have h7 := toNat_bit7 v
  have h0 := toNat_bit0 v
  refine ⟨?rlc, ?rrc, hleft c, hright c, ?sla, ?sra, hleft true, ?srl, fun k => ?flags⟩
  case rlc => rw [rotResult, hleft, h7]
  case rrc => rw [rotResult, hright, h0]
  case sla => rw [rotResult, ← BitVec.or_zero (x := v <<< 1)]; exact hleft false
  case sra => rw [rotResult, ← flagIf_bit7_high, hright, h7]
  case srl => rw [rotResult, ← BitVec.or_zero (x := v >>> 1)]; exact hright false
  case flags => rw [rotFlags, flagIf_rotCarry]
end

section
/-! PROOFS. The extended table beyond its ports and words (48_ed_extended.md): `I` and `R`, the nibble rotates, and the block
instructions, one iteration of each kind and its repeat step, at the constants the rules write. Settles O24 to O29. -/

namespace Sys2Proof.Machine

variable {s : State} {i once rep : Instr} {dlt : Word} {w a : Byte}

/-! ## The nibble rotates (R467, R468) -/

theorem State.nibbleRotate_frame (hw : s.WrittenTacts) (w a : Byte) : { s.nibbleRotate w a 4 with mem := s.mem } = { s with
    regs.a := a, regs.f := logicFlags a ||| (s.regs.f &&& flagC), wz := s.hl + 1#16, tacts := s.tacts + 10
    log := memW s.hl w (s.tacts + 7) :: memR s.hl (s.byteAt s.hl) s.tacts :: s.log } := by
  simp only [State.nibbleRotate, State.wr, State.tick, State.rd, hw.access_eq]
  rfl

/-- Both nibble rotates store one byte at `HL` and load `A`. -/
theorem nibbleRotates_of_exec (hw : s.WrittenTacts) (hi : exec i s = .next (s.nibbleRotate w a 4)) :
    ∃ t, exec i s = .next t ∧ Stored s t s.hl w ∧ { t with mem := s.mem } = { s with
      regs.a := a, regs.f := logicFlags a ||| (s.regs.f &&& flagC), wz := s.hl + 1#16, tacts := s.tacts + 10
      log := memW s.hl w (s.tacts + 7) :: memR s.hl (s.byteAt s.hl) s.tacts :: s.log } :=
  ⟨_, hi, stored_of_mem ⟨rfl, rfl⟩, State.nibbleRotate_frame hw w a⟩

/-! ## The repeat steps (R471, R475, R479, R483) -/

/-- `WZ` is the new `PC` plus 1, one above the address of the two bytes that are fetched again. -/
theorem State.repeatWz_eq (s : State) (n : Nat) : s.repeatWz n = { s with
    tacts := s.tacts + n, pc := s.pc - 2#16, wz := s.pc - 2#16 + 1#16 } := by
  have hwz : s.pc - 1#16 = s.pc - 2#16 + 1#16 := by bv_omega
  rw [State.repeatWz, hwz]
  rfl

/-! ## The flags of the block instructions -/

theorem blockBits_eq (v : Byte) : blockBits v = (v &&& flag3) ||| (if v.getLsbD 1 then flag5 else 0#8) := rfl

theorem blockLoadFlags_eq (f a v : Byte) (bc : Word) : blockLoadFlags f a v bc =
    (f &&& (flagS ||| flagZ ||| flagC)) ||| ((v + a) &&& flag3) ||| (if (v + a).getLsbD 1 then flag5 else 0#8)
      ||| (if bc = 0#16 then 0#8 else flagPV) := by
  rw [blockLoadFlags, blockBits_eq, flagIf_bne, ← BitVec.or_assoc]

theorem blockCompareFlags_eq {f a v r : Byte} {hf : Bool} (bc : Word) (hr : r = a - v)
    (hhf : hf = decide (a.toNat % 16 < v.toNat % 16)) : blockCompareFlags f a v bc =
    (f &&& flagC) ||| flagN ||| (r &&& flagS) ||| (if r = 0#8 then flagZ else 0#8) ||| (if hf then flagH else 0#8)
      ||| ((r - (if hf then 1#8 else 0#8)) &&& flag3)
      ||| (if (r - (if hf then 1#8 else 0#8)).getLsbD 1 then flag5 else 0#8) ||| (if bc = 0#16 then 0#8 else flagPV) := by
  subst hr hhf
  simp only [blockCompareFlags, blockBits_eq, flagIf_bne, flagIf_beq, ← BitVec.or_assoc]
  rfl

theorem blockIoFlags_eq (v b c : Byte) : blockIoFlags v b c =
    sz53 b ||| (if v.getLsbD 7 then flagN else 0#8)
      ||| (if 0xFF < v.toNat + c.toNat then flagH ||| flagC else 0#8)
      ||| (if evenParity (BitVec.ofNat 8 ((v.toNat + c.toNat) % 8) ^^^ b) then flagPV else 0#8) := by
  simp only [blockIoFlags, flagIf_decide]
  rfl

/-! ## One iteration of each kind -/

theorem State.blockLoad_stored (s : State) (dlt : Word) : Stored s (s.blockLoad dlt) s.de (s.byteAt s.hl) :=
  stored_of_mem ⟨rfl, rfl⟩

/-- A transfer (R469, R470). -/
theorem State.blockLoad_frame (hw : s.WrittenTacts) (dlt : Word) : { s.blockLoad dlt with mem := s.mem } =
    { ((s.setHl (s.hl + dlt)).setDe (s.de + dlt)).setBc (s.bc - 1#16) with
      regs.f := blockLoadFlags s.regs.f s.regs.a (s.byteAt s.hl) (s.bc - 1#16), tacts := s.tacts + 8
      log := memW s.de (s.byteAt s.hl) (s.tacts + 3) :: memR s.hl (s.byteAt s.hl) s.tacts :: s.log } := by
  have htick : s.cfg.tact.blockLoad = 2 := by rw [hw]; rfl
  simp only [State.blockLoad, State.wr, State.tick, State.rd, hw.access_eq, htick]
  rfl

theorem State.blockLoadRepeat_eq (hw : s.WrittenTacts) (dlt : Word) : s.blockLoadRepeat dlt =
    if s.bc - 1#16 = 0#16 then s.blockLoad dlt else
      { s.blockLoad dlt with
        tacts := (s.blockLoad dlt).tacts + 5, pc := s.pc - 2#16, wz := s.pc - 2#16 + 1#16 } := by
  have htick : s.cfg.tact.blockLoadRepeat = 5 := by rw [hw]; rfl
  rw [State.blockLoadRepeat, htick, State.repeatWz_eq]
  rfl

/-- A compare (R473, R474). -/
theorem State.blockCompare_eq (hw : s.WrittenTacts) (dlt : Word) : s.blockCompare dlt =
    { (s.setHl (s.hl + dlt)).setBc (s.bc - 1#16) with
      regs.f := blockCompareFlags s.regs.f s.regs.a (s.byteAt s.hl) (s.bc - 1#16), wz := s.wz + dlt
      tacts := s.tacts + 8, log := memR s.hl (s.byteAt s.hl) s.tacts :: s.log } := by
  have htick : s.cfg.tact.blockCompare = 5 := by rw [hw]; rfl
  simp only [State.blockCompare, State.tick, State.rd, hw.access_eq, htick]
  rfl

theorem State.blockCompareRepeat_eq (hw : s.WrittenTacts) (dlt : Word) : s.blockCompareRepeat dlt =
    if s.bc - 1#16 = 0#16 ∨ s.regs.a - s.byteAt s.hl = 0#8 then s.blockCompare dlt else
      { s.blockCompare dlt with
        tacts := (s.blockCompare dlt).tacts + 5, pc := s.pc - 2#16, wz := s.pc - 2#16 + 1#16 } := by
  have htick : s.cfg.tact.blockCompareRepeat = 5 := by rw [hw]; rfl
  rw [State.blockCompareRepeat, htick, State.repeatWz_eq]
  rfl

theorem State.blockIn_stored (s : State) (dlt : Word) : Stored s (s.blockIn dlt) s.hl (s.portAnswer s.bc) :=
  stored_of_mem ⟨rfl, rfl⟩

/-- An input (R477, R478): `B` is on the port address before it is decremented. -/
theorem State.blockIn_frame (hw : s.WrittenTacts) (dlt : Word) : { s.blockIn dlt with mem := s.mem } =
    { s.setHl (s.hl + dlt) with
      regs.b := s.regs.b - 1#8
      regs.f := blockIoFlags (s.portAnswer s.bc) (s.regs.b - 1#8) (s.regs.c + lowByte dlt)
      wz := s.bc + dlt, tacts := s.tacts + 4 + s.portDelay
      portInputs := s.portInputs.tail, portReads := s.portReads + 1
      log := memW s.hl (s.portAnswer s.bc) (s.tacts + 1 + s.portDelay) ::
        portR s.bc (s.portAnswer s.bc) (s.tacts + 1) :: s.log } := by
  have htick : s.cfg.tact.blockIn = 1 := by rw [hw]; rfl
  have hsum : s.tacts + 1 + s.portDelay + 3 = s.tacts + 4 + s.portDelay := by omega
  rw [← hsum]
  simp only [State.blockIn, State.wr, State.portRd, State.setB, State.setWz, State.tick, htick, hw.access_eq]
  rfl

theorem State.blockInRepeat_eq (hw : s.WrittenTacts) (dlt : Word) : s.blockInRepeat dlt =
    if s.regs.b - 1#8 = 0#8 then s.blockIn dlt else
      { s.blockIn dlt with tacts := (s.blockIn dlt).tacts + 5, pc := s.pc - 2#16 } := by
  have htick : s.cfg.tact.blockInRepeat = 5 := by rw [hw]; rfl
  rw [State.blockInRepeat, htick]
  rfl

/-- An output (R481, R482): `B` is on the port address after it is decremented. -/
theorem State.blockOut_eq (hw : s.WrittenTacts) (dlt : Word) : s.blockOut dlt =
    { s.setHl (s.hl + dlt) with
      regs.b := s.regs.b - 1#8
      regs.f := blockIoFlags (s.byteAt s.hl) (s.regs.b - 1#8) (lowByte (s.hl + dlt))
      wz := pairOf (s.regs.b - 1#8) s.regs.c + dlt, tacts := s.tacts + 4 + s.portDelay
      log := portW (pairOf (s.regs.b - 1#8) s.regs.c) (s.byteAt s.hl) (s.tacts + 4) ::
        memR s.hl (s.byteAt s.hl) (s.tacts + 1) :: s.log } := by
  have htick : s.cfg.tact.blockOut = 1 := by rw [hw]; rfl
  simp only [State.blockOut, State.portWr, State.rd, State.setB, State.setWz, State.tick, htick, hw.access_eq]
  rfl

theorem State.blockOutRepeat_eq (hw : s.WrittenTacts) (dlt : Word) : s.blockOutRepeat dlt =
    if s.regs.b - 1#8 = 0#8 then s.blockOut dlt else
      { s.blockOut dlt with tacts := (s.blockOut dlt).tacts + 5, pc := s.pc - 2#16 } := by
  have htick : s.cfg.tact.blockOutRepeat = 5 := by rw [hw]; rfl
  rw [State.blockOutRepeat, htick]
  rfl

/-! ## The two directions of each kind -/

theorem run_blockLoad (h : dlt = 1#16 ∧ once = .ldi ∧ rep = .ldir ∨ dlt = 0xFFFF#16 ∧ once = .ldd ∧ rep = .lddr) :
    exec once s = .next (s.blockLoad dlt) ∧ exec rep s = .next (s.blockLoadRepeat dlt) := by
  obtain ⟨rfl, rfl, rfl⟩ | ⟨rfl, rfl, rfl⟩ := h
  · exact ⟨run_ldi s, run_ldir s⟩
  · exact ⟨run_ldd s, run_lddr s⟩

theorem run_blockCompare (h : dlt = 1#16 ∧ once = .cpi ∧ rep = .cpir ∨ dlt = 0xFFFF#16 ∧ once = .cpd ∧ rep = .cpdr) :
    exec once s = .next (s.blockCompare dlt) ∧ exec rep s = .next (s.blockCompareRepeat dlt) := by
  obtain ⟨rfl, rfl, rfl⟩ | ⟨rfl, rfl, rfl⟩ := h
  · exact ⟨run_cpi s, run_cpir s⟩
  · exact ⟨run_cpd s, run_cpdr s⟩

/-- The byte that `C` and the direction give is the one the model adds to the input (R478). -/
theorem run_blockIn {c : Byte} (h : dlt = 1#16 ∧ c = s.regs.c + 1#8 ∧ once = .ini ∧ rep = .inir ∨
      dlt = 0xFFFF#16 ∧ c = s.regs.c - 1#8 ∧ once = .ind ∧ rep = .indr) :
    s.regs.c + lowByte dlt = c ∧ exec once s = .next (s.blockIn dlt) ∧ exec rep s = .next (s.blockInRepeat dlt) := by
  obtain ⟨rfl, rfl, rfl, rfl⟩ | ⟨rfl, rfl, rfl, rfl⟩ := h
  · exact ⟨add_lowByte_up _, run_ini s, run_inir s⟩
  · exact ⟨add_lowByte_down _, run_ind s, run_indr s⟩

theorem run_blockOut (h : dlt = 1#16 ∧ once = .outi ∧ rep = .otir ∨ dlt = 0xFFFF#16 ∧ once = .outd ∧ rep = .otdr) :
    exec once s = .next (s.blockOut dlt) ∧ exec rep s = .next (s.blockOutRepeat dlt) := by
  obtain ⟨rfl, rfl, rfl⟩ | ⟨rfl, rfl, rfl⟩ := h
  · exact ⟨run_outi s, run_otir s⟩
  · exact ⟨run_outd s, run_otdr s⟩

end Sys2Proof.Machine

open Sys2Proof Sys2Proof.Machine

/-- Settles O24: each form is one tact and one move, and the loads of `A` set its flags. -/
theorem interruptAndRefreshRegisters : Obligations.InterruptAndRefreshRegisters := by
  unfold Obligations.InterruptAndRefreshRegisters
  intro s hw
  refine ⟨?ia, ?ra, ?ai, ?ar⟩
  case ia => rw [run_ldIA, ldIA, hw]; rfl
  case ra => rw [run_ldRA, ldRA, hw]; rfl
  case ai => rw [run_ldAI, ldAI, hw]; rfl
  case ar => rw [run_ldAR, ldAR, hw]; rfl

/-- Settles O25: the byte stored and the new `A` are fixed by their nibbles. -/
theorem nibbleRotates : Obligations.NibbleRotates := by
  unfold Obligations.NibbleRotates
  rintro s _ _ hw rfl rfl
  refine ⟨fun w a' hmem ha => ?rrd, fun w a' hmem ha => ?rld⟩
  case rrd =>
    obtain rfl := BitVec.eq_of_toNat_eq (hmem.trans (toNat_swap_low _ _).symm)
    obtain rfl := BitVec.eq_of_toNat_eq (ha.trans (toNat_join _ _).symm)
    exact nibbleRotates_of_exec hw (by rw [run_rrd, rrd, hw]; rfl)
  case rld =>
    obtain rfl := BitVec.eq_of_toNat_eq (hmem.trans (toNat_swap_high _ _).symm)
    obtain rfl := BitVec.eq_of_toNat_eq (ha.trans (toNat_join_high _ _).symm)
    exact nibbleRotates_of_exec hw (by rw [run_rld, rld, hw]; rfl)

/-- Settles O26: both directions are one transfer and its repeat step. -/
theorem blockTransfers : Obligations.BlockTransfers := by
  unfold Obligations.BlockTransfers
  rintro s dlt _ _ hw rfl rfl once rep h
  obtain ⟨honce, hrep⟩ := run_blockLoad (s := s) h
  refine ⟨_, honce, s.blockLoad_stored dlt, ?frame, ?again⟩
  case frame => rw [State.blockLoad_frame hw, blockLoadFlags_eq]
  case again => rw [hrep, State.blockLoadRepeat_eq hw]

/-- Settles O27: both directions are one compare and its repeat step. -/
theorem blockCompares : Obligations.BlockCompares := by
  unfold Obligations.BlockCompares
  rintro s dlt _ _ r hf hw rfl rfl hr hhf once rep h
  obtain ⟨honce, hrep⟩ := run_blockCompare (s := s) h
  refine ⟨_, honce, ?state, ?again⟩
  case state => rw [State.blockCompare_eq hw, blockCompareFlags_eq _ hr hhf]
  case again => rw [hrep, State.blockCompareRepeat_eq hw, hr]

/-- Settles O28: both directions are one input and its repeat step. -/
theorem blockInputs : Obligations.BlockInputs := by
  unfold Obligations.BlockInputs
  rintro s dlt _ _ c' _ _ hw rfl rfl rfl rfl once rep h
  obtain ⟨hc, honce, hrep⟩ := run_blockIn h
  refine ⟨_, honce, s.blockIn_stored dlt, ?frame, ?again⟩
  case frame => rw [State.blockIn_frame hw, hc, blockIoFlags_eq]
  case again => rw [hrep, State.blockInRepeat_eq hw]

/-- Settles O29: both directions are one output and its repeat step. -/
theorem blockOutputs : Obligations.BlockOutputs := by
  unfold Obligations.BlockOutputs
  rintro s dlt _ _ _ _ _ hw rfl rfl rfl rfl rfl once rep h
  obtain ⟨honce, hrep⟩ := run_blockOut (s := s) h
  refine ⟨_, honce, ?state, ?again⟩
  case state => rw [State.blockOut_eq hw, blockIoFlags_eq]
  case again => rw [hrep, State.blockOutRepeat_eq hw]
end

section
/-! PROOFS. The signal step and its four actions (60_exceptions.md), `Reset()` (70_reset_and_hazards.md), and what the host
may do between two cycles. Settles O44, O47 to O52 and O54. -/

namespace Sys2Proof.Machine

variable {s : State}

/-! ## Which action a step takes (R521, R522) -/

theorem takesInt_iff : s.takesInt = true ↔ s.sig.int = true ∧ s.blocked = false ∧ s.iff1 = true := by
  simp [State.takesInt, and_assoc]

theorem step_of_takesInt (hi : s.takesInt = true) : step s = .next (s.interruptAck.settle s.log.length) :=
  step_of_some (if_pos hi)

/-- A halted cycle makes no call, so its end adds nothing. -/
theorem step_of_halted (hi : s.takesInt = false) (hh : s.sig.halted = true) : step s = .next s.haltedCycle := by
  have hs : s.signalStep = some s.haltedCycle := by rw [State.signalStep, hi, hh]; rfl
  exact (step_of_some hs).trans (congrArg _ s.haltedCycle.settle_no_calls)

theorem step_of_reset (hi : s.takesInt = false) (hh : s.sig.halted = false) (hr : s.sig.reset = true) :
    step s = .next s.resetOp := by
  have hs : s.signalStep = some s.resetOp := by rw [State.signalStep, hi, hh, hr]; rfl
  exact (step_of_some hs).trans (congrArg _ s.resetOp_settle)

theorem step_of_nmi (hi : s.takesInt = false) (hh : s.sig.halted = false) (hr : s.sig.reset = false)
    (hn : s.sig.nmi = true) : step s = .next (s.nmiEntry.settle s.log.length) := by
  have hs : s.signalStep = some s.nmiEntry := by rw [State.signalStep, hi, hh, hr, hn]; rfl
  exact step_of_some hs

/-- Where every opcode space exists, no step stops (R520). -/
theorem canStep_of_reference (h : s.cfg.extTables = .z80Reference) : CanStep s := by
  cases hs : s.signalStep with
  | some u => exact ⟨_, step_of_some hs⟩
  | none => exact ⟨_, step_of_cycle hs (missingTable_of_reference h)⟩

/-! ## The interrupt entries (R527, R530) -/

variable (s)

/-- The word that both entries push. -/
theorem leaveHalt_pc : s.leaveHalt.pc = if s.sig.halted then s.pc + 1#16 else s.pc := by
  rw [leaveHalt_eq]

theorem leaveHalt_push16_mem (v : Word) : (s.leaveHalt.push16 v).mem = (s.push16 v).mem := by
  simp [leaveHalt_eq]

theorem interruptAck_mem : s.interruptAck.mem = (s.push16 s.leaveHalt.pc).mem := by
  rw [← leaveHalt_push16_mem]
  by_cases h : s.im = .im2
  · rw [interruptAck_of_im2 h]
  · rw [interruptAck_of_not_im2 h]

theorem nmiEntry_mem : s.nmiEntry.mem = (s.push16 s.leaveHalt.pc).mem := by
  rw [← leaveHalt_push16_mem, nmiEntry_eq]

theorem interruptAck_pushed : Pushed s s.interruptAck s.leaveHalt.pc :=
  pushed_of_mem ⟨(interruptAck_mem s).trans (s.push16_mem _), (interruptAck_interrupted s).cfg⟩

theorem nmiEntry_pushed : Pushed s s.nmiEntry s.leaveHalt.pc :=
  pushed_of_mem ⟨(nmiEntry_mem s).trans (s.push16_mem _), (nmiEntry_interrupted s).cfg⟩

theorem interruptAck_sig : s.interruptAck.sig = { s.sig with halted := false } := by
  by_cases h : s.im = .im2
  · simp [interruptAck_of_im2 h, leaveHalt_eq]
  · simp [interruptAck_of_not_im2 h, leaveHalt_eq]

theorem nmiEntry_sig : s.nmiEntry.sig = { s.sig with halted := false, nmi := false } := by
  rw [nmiEntry_eq]

variable {s}

/-- The acknowledge of modes 0 and 1, at the constants R527 writes. -/
theorem interruptAck_frame_of_not_im2 (hw : s.WrittenTacts) (h : s.im ≠ .im2) :
    { s.interruptAck with mem := s.mem } = { s with
      pc := s.cfg.vecInt, wz := s.cfg.vecInt, sp := s.sp - 2#16, iff1 := false, iff2 := false, sig.halted := false
      tacts := s.tacts + 13, log := pushCalls s s.leaveHalt.pc (s.tacts + 1) ++ s.log } := by
  have hpush : s.cfg.tact.intPush = 1 := by rw [hw]; rfl
  have hjump : s.cfg.tact.intJump = 6 := by rw [hw]; rfl
  rw [interruptAck_of_not_im2 h, hpush, hjump]
  apply State.eq_of_fields <;> simp [leaveHalt_eq, hw.access_eq]

/-- The acknowledge of mode 2, whose table is read after the pushes. -/
theorem interruptAck_frame_of_im2 (hw : s.WrittenTacts) (h : s.im = .im2) :
    { s.interruptAck with mem := s.mem } = { s with
      pc := (s.push16 s.leaveHalt.pc).wordAt s.vectorAddress, wz := (s.push16 s.leaveHalt.pc).wordAt s.vectorAddress
      sp := s.sp - 2#16, iff1 := false, iff2 := false, sig.halted := false, tacts := s.tacts + 19
      log := readCalls (s.push16 s.leaveHalt.pc) s.vectorAddress (s.tacts + 13) ++
        (pushCalls s s.leaveHalt.pc (s.tacts + 1) ++ s.log) } := by
  have hpush : s.cfg.tact.intPush = 1 := by rw [hw]; rfl
  have hjump : s.cfg.tact.intJump = 6 := by rw [hw]; rfl
  rw [interruptAck_of_im2 h, hpush, hjump]
  apply State.eq_of_fields <;> simp [leaveHalt_eq, hw.access_eq, State.wordAt, State.wordAfter, State.byteAfter]

theorem nmiEntry_frame (hw : s.WrittenTacts) : { s.nmiEntry with mem := s.mem } = { s with
    pc := s.cfg.vecNmi, wz := s.cfg.vecNmi, sp := s.sp - 2#16, iff2 := s.iff1, iff1 := false
    sig := { s.sig with halted := false, nmi := false }
    tacts := s.tacts + 11, log := pushCalls s s.leaveHalt.pc (s.tacts + 1) ++ s.log } := by
  have hpush : s.cfg.tact.nmiPush = 1 := by rw [hw]; rfl
  have hjump : s.cfg.tact.nmiJump = 4 := by rw [hw]; rfl
  rw [nmiEntry_eq, hpush, hjump]
  apply State.eq_of_fields <;> simp [leaveHalt_eq, hw.access_eq]

/-! ## A halted core (R523, R524) -/

/-- Halted cycles go on from one another: the signals, and so the halt, stay as they are. -/
theorem run_of_halted (n : Nat) (hh : s.sig.halted = true) (hi : s.takesInt = false) :
    ∃ t : State, core.run n s = .next t ∧ t.sig = s.sig ∧ t.pc = s.pc ∧
      t.tacts = s.tacts + s.cfg.tact.halted * n ∧ t.log = s.log := by
  induction n generalizing s with
  | zero => exact ⟨s, rfl, rfl, rfl, rfl, rfl⟩
  | succ n ih =>
    obtain ⟨t, hrun, hsig, hpc, htacts, hlog⟩ := ih (s := s.haltedCycle) hh hi
    refine ⟨t, (run_succ n (step_of_halted hi hh)).trans hrun, hsig, hpc, ?_, hlog⟩
    calc t.tacts
      _ = s.tacts + s.cfg.tact.halted + s.cfg.tact.halted * n := htacts
      _ = s.tacts + s.cfg.tact.halted * (n + 1) := by rw [Nat.mul_succ]; omega

/-! ## The host between two cycles (R540 to R544) -/

theorem Inv.act (h : Inv s) (a : HostAction) : Inv (s.act a) := by
  cases a with
  | reset => exact .of_reset h.mem_wf
  | changeMemory a v => exact ⟨Memory.wf_write s.mem a v h.mem_wf, h.ext_plain, h.inOp_iff, h.held, h.halt_idle⟩
  | setResetSignal | clearResetSignal | setInt | clearInt | setNmi | contentionDelay | answerPort =>
    exact ⟨h.mem_wf, h.ext_plain, h.inOp_iff, h.held, h.halt_idle⟩

theorem Inv.reset : Inv State.reset := .of_reset (s := State.reset) rfl

/-- An answer for a port waits behind the held inputs (log 4). -/
theorem State.portAnswer_act (s : State) (v : Byte) (a : Word) :
    (s.portInputs = [] → (s.act (.answerPort v)).portAnswer a = v) ∧
    ∀ u rest, s.portInputs = u :: rest → (s.act (.answerPort v)).portAnswer a = u :=
  ⟨fun h => by simp [State.act, State.portAnswer, h], fun u rest h => by simp [State.act, State.portAnswer, h]⟩

end Sys2Proof.Machine

open Sys2Proof Sys2Proof.Machine

/-- Settles O44: with every opcode space there, a step is a signal's action or one instruction's, and `exec` is total. -/
theorem everyStepCompletes : Obligations.EveryStepCompletes := by
  unfold Obligations.EveryStepCompletes
  exact ⟨fun _ h => canStep_of_reference h, fun i s => ⟨_, exec_formOf i s⟩⟩

/-- Settles O48: the signal setters, `contentionDelay` and the port answers write nothing that the invariant relates. -/
theorem hostActionsKeepInvariant : Obligations.HostActionsKeepInvariant := by
  unfold Obligations.HostActionsKeepInvariant
  exact fun _ a h => h.act a

/-- Settles O50: one push for every mode, then the fixed vector or the word of the table. -/
theorem interruptAcknowledge : Obligations.InterruptAcknowledge := by
  unfold Obligations.InterruptAcknowledge
  rintro s _ _ hw rfl rfl
  rw [← leaveHalt_pc]
  refine ⟨interruptAck_pushed s, interruptAck_frame_of_not_im2 hw, ?_⟩
  rintro h _ _ rfl rfl
  exact interruptAck_frame_of_im2 hw h

/-- Settles O51: one push, and the fixed vector. -/
theorem nmiEntrySequence : Obligations.NmiEntrySequence := by
  unfold Obligations.NmiEntrySequence
  rintro s _ _ hw rfl rfl
  rw [← leaveHalt_pc]
  exact ⟨nmiEntry_pushed s, nmiEntry_frame hw⟩

/-- Settles O52, by induction on the number of halted cycles. -/
theorem haltedCore : Obligations.HaltedCore := by
  unfold Obligations.HaltedCore
  exact ⟨fun _ hh hi => step_of_halted hi hh, rfl, fun n _ => run_of_halted n⟩

/-- Settles O49: the four requests in the order in which the step tests them. -/
theorem signalPriority : Obligations.SignalPriority := by
  unfold Obligations.SignalPriority
  intro s
  refine ⟨fun h => step_of_takesInt (takesInt_iff.mpr h), fun h => ?others, interruptAck_sig s, rfl, rfl, nmiEntry_sig s⟩
  case others =>
    have hi : s.takesInt = false := Bool.eq_false_iff.mpr (mt takesInt_iff.mp h)
    refine ⟨step_of_halted hi, step_of_reset hi, step_of_nmi hi, fun hh hr hn => ?_⟩
    have hs : s.signalStep = none := signalStep_none.mpr ⟨hi, hh, hr, hn⟩
    exact ⟨hs, step_of_none hs⟩

/-- Settles O54: `Reset()` and the setters by computation, and a change of memory by the laws of memory. -/
theorem resetAndHostActions : Obligations.ResetAndHostActions := by
  unfold Obligations.ResetAndHostActions
  refine ⟨fun s => ⟨rfl, fun hr hh hi => ⟨step_of_reset hi hh hr, rfl⟩, rfl⟩,
    fun s n => ⟨rfl, rfl, rfl, rfl, rfl, rfl, rfl, rfl, fun a v => ?memory, fun v => ⟨rfl, s.portAnswer_act v⟩⟩⟩
  case memory =>
    exact ⟨s.byteAt_poke_same a v, fun x hx => s.byteAfter_poke_other 0 v hx, rfl, Memory.wf_write s.mem a v⟩

/-- Settles O47: `State.reset` is itself the result of a `Reset()`. -/
theorem resetStateMeetsInvariant : Obligations.ResetStateMeetsInvariant := by
  unfold Obligations.ResetStateMeetsInvariant
  exact ⟨.reset, fun _ h => .of_reset h⟩
end
